-- ==== Sys2Proof/Word.lean ====
section
/-! DEFINITION. The words of the link: bytes, 16-bit and 24-bit fields. -/

namespace Sys2Proof

/-- A byte of the link, of a table entry or of page memory. -/
abbrev Byte := BitVec 8

/-- A two-byte field of a record, sent high byte first (00, Byte order on the link). -/
abbrev Half := BitVec 16

/-- A three-byte offset or count of a record, sent high byte first (00, Byte order on the link). -/
abbrev Offset := BitVec 24

end Sys2Proof
end

