-- ==== Sys2Proof/Config.lean ====
section
/-! DEFINITION. What an implementation fixes: sizes, units of time, and what unwritten page memory reads as. -/

namespace Sys2Proof

/-- The byte that page memory holds where nothing has been written since power-on reset.
R26 leaves it undefined. DESIGN CHOICE, log entry 6. -/
def Config.unwritten : Byte := 0#8

/-- One microsecond in the model's units of 50 ns (R29 counts 0.05 µs a word). Log entry 2. -/
def Config.us (n : Nat) : Nat := 20 * n

/-- One millisecond in units of 50 ns. -/
def Config.ms (n : Nat) : Nat := 20000 * n

/-- A tenth of a second in units of 50 ns, the unit of POOL_WAIT (R12). -/
def Config.tenths (n : Nat) : Nat := 2000000 * n

/-- One second in units of 50 ns. -/
def Config.sec (n : Nat) : Nat := 20000000 * n

/-- One minute in units of 50 ns. -/
def Config.min (n : Nat) : Nat := 1200000000 * n

/-- R138: the downstream FIFO holds 1024 bytes. -/
def Config.downCapacity : Nat := 1024

/-- R153: the upstream FIFO holds 2048 bytes. -/
def Config.upCapacity : Nat := 2048

/-- R139: a payload is at most 2048 bytes. -/
def Config.maxPayload : Nat := 2048

/-- R143: the reply queue holds 0 to 4 replies. -/
def Config.replyCapacity : Nat := 4

/-- R152: ordinary events are kept in the first 23 of the event queue's 24 places. -/
def Config.ordinaryEvents : Nat := 23

/-- R71: the print queue holds 0 to 8 entries. -/
def Config.printCapacity : Nat := 8

/-- R147: the link read queue holds 0 to 4 entries. -/
def Config.readCapacity : Nat := 4

/-- R1: a bank is cut into 128 bands. -/
def Config.bandsPerBank : Nat := 128

/-- R1: a bank is 1 MiB. -/
def Config.bankBytes : Nat := 1048576

/-- R5: a BLOCK page holds at most 4,194,304 bytes. -/
def Config.maxBlockBytes : Nat := 4194304

/-- R5: an IMAGE page holds at most 16383 lines. -/
def Config.maxLines : Nat := 16383

/-- R203: the boot stream ends within 8192 bytes. -/
def Config.maxStreamBytes : Nat := 8192

end Sys2Proof
end

