-- ==== Sys2Proof/Syntax.lean ====
section
/-! DEFINITION. The commands of the block: one constructor for each row of spec/opcode_table.json. -/

namespace Sys2Proof

/-- The two motor channels of the Motor Timing Unit (R104): S moves the document, P the paper. -/
inductive Motor where
  | s
  | p
deriving DecidableEq, Repr

/-- The steps of the part, each whole and indivisible (95_what_each_step_holds.md).
A record of the link carries its TAG and its payload fields as 13.3 lays them out, not yet checked;
an end of something running carries what arrives with it from outside. -/
inductive Instr where
  /-- R205: the POR input is asserted. -/
  | powerOnReset
  /-- R201: POR is released; the straps BOOTSEL1 and BOOTSEL0 are read. -/
  | porRelease (bootsel1 bootsel0 : Bool)
  /-- R205: the warm reset input; the straps are read at the start of the boot it begins. -/
  | wrst (bootsel1 bootsel0 : Bool)
  /-- R26: the eighth start-up refresh cycle ends. -/
  | initEnd
  /-- R202: a byte the two-wire master sent has completed, acknowledged or not. -/
  | twoWireByteSent (acknowledged : Bool)
  /-- R202: the 10 ms wait after a failed attempt ends. -/
  | bootRetryWaitEnd
  /-- R203: a stream byte has been read from the EEPROM. -/
  | bootStreamByte (b : Byte)
  /-- R204: the outcome and the reports are present and boot ends. -/
  | endOfBoot
  /-- R138: the host pulses DWR with a byte. -/
  | hostByteWrite (b : Byte)
  /-- R139: the parser takes the next byte of the downstream FIFO. -/
  | parserByteTaken
  /-- R141: the record in HELD is handed on. -/
  | heldRecordHandedOn
  /-- R153: the upstream assembler places its chosen record. -/
  | upstreamRecordPlaced
  /-- R154: the host pulses URD. -/
  | hostByteRead
  /-- R167: OPEN PAGE is handed on. -/
  | openPage (tag page kind mode : Byte) (width : Half) (resolution retain : Byte) (label : Half)
  /-- R164: CLOSE PAGE is handed on. -/
  | closePage (tag page : Byte)
  /-- R175: RELEASE PAGE is handed on. -/
  | releasePage (tag page : Byte)
  /-- R170: QUERY PAGE is handed on. -/
  | queryPage (tag page : Byte)
  /-- R171: QUERY POOL is handed on. -/
  | queryPool (tag : Byte)
  /-- R178: SCAN is handed on. -/
  | scan (tag page resolution mode retain : Byte) (label : Half) (source pattern : Byte) (lineCount : Half)
  /-- R163: CANCEL SCAN is handed on. -/
  | cancelScan (tag : Byte)
  /-- R179: SHADE is handed on. -/
  | shade (tag : Byte)
  /-- R168: PRINT is handed on. -/
  | print (tag page copies : Byte)
  /-- R161: CANCEL PRINT is handed on. -/
  | cancelPrint (tag page : Byte)
  /-- R177: RESUME PRINT is handed on. -/
  | resumePrint (tag : Byte)
  /-- R173: READ PAGE is handed on. -/
  | readPage (tag page : Byte) (start count : Offset)
  /-- R162: CANCEL READ is handed on. -/
  | cancelRead (tag page : Byte)
  /-- R165: FEED is handed on. -/
  | feed (tag channel : Byte) (steps : Half)
  /-- R166: LOAD TABLE is handed on, with the bytes of its entries. -/
  | loadTable (tag table : Byte) (start : Half) (entries : List Byte)
  /-- R174: READ TABLE is handed on. -/
  | readTable (tag table : Byte) (start count : Half)
  /-- R181: STANDBY is handed on. -/
  | standby (tag : Byte)
  /-- R180: SLEEP is handed on. -/
  | sleep (tag : Byte)
  /-- R172: QUERY STATUS is handed on. -/
  | queryStatus (tag : Byte)
  /-- R176: RESTART is handed on. -/
  | restart (tag : Byte)
  /-- R169: QUERY MEMORY is handed on. -/
  | queryMemory (tag : Byte)
  /-- R144: the link writer takes a LINE record. -/
  | line (page : Byte) (data : List Byte)
  /-- R145: the link writer takes a BLOCK record. -/
  | block (page : Byte) (data : List Byte)
  /-- R13: the pool wait's deadline expires. -/
  | poolWaitExpiry
  /-- R32: a refresh tick arrives. -/
  | refreshTick
  /-- R33: a refresh cycle ends. -/
  | refreshEnd
  /-- R59: a scan line write transfer ends. -/
  | scanLineWriteEnd
  /-- R76: a print line fetch transfer ends. -/
  | printFetchEnd
  /-- R6: a link write transfer ends. -/
  | linkWriteEnd
  /-- R148: a link read transfer ends. -/
  | linkReadEnd
  /-- R38: the auto self-refresh timer expires. -/
  | autoSrTimerExpiry
  /-- R39: self-refresh entry ends. -/
  | srEntryEnd
  /-- R41: self-refresh exit ends. -/
  | srExitEnd
  /-- R48: the POWER_SETTLE wait of a STARTING job ends. -/
  | scanStartingEnd
  /-- R55: a readout ends; the converter's samples, by clock of the readout. -/
  | readoutEnd (samples : List Byte)
  /-- R65: the POWER_SETTLE wait of a calibration ends. -/
  | calibrationSettleEnd
  /-- R65: a calibration readout ends; the converter's samples, by clock of the readout. -/
  | calibrationReadoutEnd (samples : List Byte)
  /-- R73: the POWER_SETTLE wait of a STARTING copy ends. -/
  | printStartingEnd
  /-- R78: H/4 µs have passed since SHIFT took its line. -/
  | shiftComplete
  /-- R100: a strobe pulse ends. -/
  | strobePulseEnd
  /-- R100: a strobe recovery ends. -/
  | strobeRecoveryEnd
  /-- R84: CUT_TIME has passed. -/
  | cutTimeEnd
  /-- R111: a channel's interval ends; the level of the DOC_EDGE pin at that instant (true is high, inactive). -/
  | stepEvent (channel : Motor) (docEdgePin : Bool)
  /-- R110: a channel's settle time has passed. -/
  | settleEnd (channel : Motor)
  /-- R122: the POWER_SETTLE part of a FEED's settle has passed. -/
  | feedPowerSettleEnd (channel : Motor)
  /-- R107: a channel's non-overlap gap ends. -/
  | nonoverlapGapEnd (channel : Motor)
  /-- R119: a channel's hold timer expires. -/
  | holdTimeout (channel : Motor)
  /-- R126: a polling round starts. -/
  | roundStart
  /-- R127: a converter transaction ends with its raw result. -/
  | converterTransactionEnd (raw : Byte)
  /-- R131: a 1 ms sample of the input pins; bit n is input n's pin, active low. -/
  | inputSample (pins : BitVec 6)
  /-- R192: the standby timer expires. -/
  | standbyTimerExpiry
  /-- R193: the sleep timer expires. -/
  | sleepTimerExpiry
  /-- R196: the pending sleep's deadline expires. -/
  | sleepDeadlineExpiry
  /-- R197: the parser is at a record boundary with the downstream FIFO empty and DRDY is dropped. -/
  | downstreamReadyDrop
  /-- R197: the 2 ms bound expires. -/
  | drdyDropBoundExpiry
  /-- R198: the sleep order is given. -/
  | sleepOrder
  /-- R199: the wake timer expires. -/
  | wakeTimerExpiry
deriving DecidableEq, Repr

end Sys2Proof
end

