-- ==== Sys2Proof/Machine/TableShape.lean ====
section
/-! DEFINITION. The shape of the nine loadable tables (R182): how many entries each has and how wide they are. -/

namespace Sys2Proof

/-- R182: the number of indexes of the table with this id; none where no table has the id. -/
def tableEntries : Nat → Option Nat
  | 0 => some 52
  | 1 => some 2048
  | 2 => some 64
  | 3 => some 16
  | 4 => some 49
  | 5 => some 49
  | 6 => some 8
  | 7 => some 8
  | 8 => some 40
  | _ => none

/-- R182: the entry width in bytes of the table with this id. -/
def tableWidth : Nat → Option Nat
  | 0 => some 2
  | 1 => some 1
  | 2 => some 1
  | 3 => some 2
  | 4 => some 2
  | 5 => some 2
  | 6 => some 1
  | 7 => some 1
  | 8 => some 1
  | _ => none

/-- R140: whether a LOAD TABLE's bytes after the start index are a whole number of entries, at least one.
For an id that names no table, LENGTH must be at least 4, so at least one byte follows. -/
def loadFits (id n : Nat) : Bool :=
  match tableWidth id with
  | some w => decide (0 < n) && n % w == 0
  | none => decide (0 < n)

end Sys2Proof
end

