-- ==== Sys2Proof/WellFormed.lean ====
section
/-! DEFINITION. The commands that can reach the block: the limits a record or a readout sets on an operand's size. -/

namespace Sys2Proof

/-- A command the part can be given. Fields out of their accepted range are well-formed: the part refuses them (R159).
What cannot arise is a LOAD TABLE the parser answers itself (R140), a payload above 2048 bytes (R139),
and a readout with more samples than SENSOR_TOTAL's greatest value of clocks (R187). -/
def Instr.wellFormed : Instr → Bool
  | .loadTable _ table _ entries =>
      loadFits table.toNat entries.length && decide (3 + entries.length ≤ Config.maxPayload)
  | .line _ data => decide (1 + data.length ≤ Config.maxPayload)
  | .block _ data => decide (1 + data.length ≤ Config.maxPayload)
  | .readoutEnd samples => decide (samples.length ≤ 4095)
  | .calibrationReadoutEnd samples => decide (samples.length ≤ 4095)
  | _ => true

end Sys2Proof
end

