-- ==== Sys2Proof/Decode.lean ====
section
/-! DEFINITION. Records of the Stream Link: bytes to commands and back (R206, 13.3), and the host's `decodeTableWord`. -/

namespace Sys2Proof

/-- A two-byte field from its bytes, high byte first. -/
def half (hi lo : Byte) : Half := hi ++ lo

/-- A three-byte field from its bytes, high byte first. -/
def offset (hi mid lo : Byte) : Offset := hi ++ mid ++ lo

/-- The bytes of a two-byte field, high byte first. -/
def halfBytes (h : Half) : List Byte := [h.extractLsb' 8 8, h.extractLsb' 0 8]

/-- The bytes of a three-byte field, high byte first. -/
def offsetBytes (o : Offset) : List Byte :=
  [o.extractLsb' 16 8, o.extractLsb' 8 8, o.extractLsb' 0 8]

/-- R206: SYNC, the first byte of every record. -/
def syncByte : Byte := 0x5A#8

/-- R206: the KIND of the boot stream's closing record. -/
def kindEnd : Byte := 0x3F#8

/-- R206: the KIND of LOAD TABLE. -/
def kindLoadTable : Byte := 0x18#8

/-- The three classes the parser knows (R140). -/
inductive RecordClass where
  | command
  | data
  | unknown
deriving DecidableEq, Repr

/-- R140, R206: the class of a KIND received on the link. -/
def recordClass (kind : Byte) : RecordClass :=
  if kind.toNat ∈ [0x01, 0x02, 0x03, 0x04, 0x05, 0x08, 0x09, 0x0A, 0x0C, 0x0D, 0x0E, 0x10, 0x11, 0x14,
      0x18, 0x19, 0x1C, 0x1D, 0x1E, 0x1F, 0x20] then .command
  else if kind.toNat ∈ [0x40, 0x41] then .data
  else .unknown

/-- R206, 13.3: the command a complete record stands for. None where the kind is not a downstream command or data
kind, or the payload's length is not the one R206 gives the kind (a malformed record, R140). -/
def decodeCommand (kind tag : Byte) (payload : List Byte) : Option Instr :=
  match kind.toNat, payload with
  | 0x01, [p, k, m, w1, w0, r, f, l1, l0] => some (.openPage tag p k m (half w1 w0) r f (half l1 l0))
  | 0x02, [p] => some (.closePage tag p)
  | 0x03, [p] => some (.releasePage tag p)
  | 0x04, [p] => some (.queryPage tag p)
  | 0x05, [] => some (.queryPool tag)
  | 0x08, [p, r, m, f, l1, l0, src, pat, c1, c0] =>
      some (.scan tag p r m f (half l1 l0) src pat (half c1 c0))
  | 0x09, [] => some (.cancelScan tag)
  | 0x0A, [] => some (.shade tag)
  | 0x0C, [p, c] => some (.print tag p c)
  | 0x0D, [p] => some (.cancelPrint tag p)
  | 0x0E, [] => some (.resumePrint tag)
  | 0x10, [p, s2, s1, s0, c2, c1, c0] => some (.readPage tag p (offset s2 s1 s0) (offset c2 c1 c0))
  | 0x11, [p] => some (.cancelRead tag p)
  | 0x14, [c, n1, n0] => some (.feed tag c (half n1 n0))
  | 0x18, t :: s1 :: s0 :: entries =>
      if loadFits t.toNat entries.length then some (.loadTable tag t (half s1 s0) entries) else none
  | 0x19, [t, s1, s0, c1, c0] => some (.readTable tag t (half s1 s0) (half c1 c0))
  | 0x1C, [] => some (.standby tag)
  | 0x1D, [] => some (.sleep tag)
  | 0x1E, [] => some (.queryStatus tag)
  | 0x1F, [] => some (.restart tag)
  | 0x20, [] => some (.queryMemory tag)
  | 0x40, p :: data => some (.line p data)
  | 0x41, p :: data => some (.block p data)
  | _, _ => none

/-- R206, 13.3: the kind, tag and payload of the record that carries a command; none for a step no record carries.
The TAG of a data record is the host's and is not looked at; 0 stands for it. -/
def commandRecord : Instr → Option (Byte × Byte × List Byte)
  | .openPage tag p k m w r f l => some (0x01#8, tag, [p, k, m] ++ halfBytes w ++ [r, f] ++ halfBytes l)
  | .closePage tag p => some (0x02#8, tag, [p])
  | .releasePage tag p => some (0x03#8, tag, [p])
  | .queryPage tag p => some (0x04#8, tag, [p])
  | .queryPool tag => some (0x05#8, tag, [])
  | .scan tag p r m f l src pat c =>
      some (0x08#8, tag, [p, r, m, f] ++ halfBytes l ++ [src, pat] ++ halfBytes c)
  | .cancelScan tag => some (0x09#8, tag, [])
  | .shade tag => some (0x0A#8, tag, [])
  | .print tag p c => some (0x0C#8, tag, [p, c])
  | .cancelPrint tag p => some (0x0D#8, tag, [p])
  | .resumePrint tag => some (0x0E#8, tag, [])
  | .readPage tag p s c => some (0x10#8, tag, [p] ++ offsetBytes s ++ offsetBytes c)
  | .cancelRead tag p => some (0x11#8, tag, [p])
  | .feed tag c n => some (0x14#8, tag, [c] ++ halfBytes n)
  | .loadTable tag t s entries => some (0x18#8, tag, [t] ++ halfBytes s ++ entries)
  | .readTable tag t s c => some (0x19#8, tag, [t] ++ halfBytes s ++ halfBytes c)
  | .standby tag => some (0x1C#8, tag, [])
  | .sleep tag => some (0x1D#8, tag, [])
  | .queryStatus tag => some (0x1E#8, tag, [])
  | .restart tag => some (0x1F#8, tag, [])
  | .queryMemory tag => some (0x20#8, tag, [])
  | .line p data => some (0x40#8, 0#8, p :: data)
  | .block p data => some (0x41#8, 0#8, p :: data)
  | _ => none

/-- R206: a header. -/
def headerBytes (kind tag : Byte) (length : Nat) : List Byte :=
  [syncByte, kind, tag] ++ halfBytes (BitVec.ofNat 16 length)

/-- R206: the bytes of the record that carries a command. -/
def encodeRecord (i : Instr) : Option (List Byte) :=
  (commandRecord i).map fun r => headerBytes r.1 r.2.1 r.2.2.length ++ r.2.2

/-- R206: the command that a whole record's bytes carry; none where SYNC or LENGTH is wrong or the record is
unknown or malformed. -/
def decodeRecord : List Byte → Option Instr
  | s :: kind :: tag :: n1 :: n0 :: payload =>
      if s = syncByte ∧ (half n1 n0).toNat = payload.length ∧ payload.length ≤ Config.maxPayload then
        decodeCommand kind tag payload
      else none
  | _ => none

/-- The command a word of the opcode table's bits spells. No row of spec/opcode_table.json gives bits. -/
def decodeTableWord (_nbits _w : Nat) : Option Instr := none

end Sys2Proof
end

