-- ==== Sys2Proof/Machine/Tables.lean ====
section
/-! DEFINITION. The loadable tables (10_loadable_tables.md): their entries, their built-in defaults and their clamps. -/

namespace Sys2Proof.Machine

/-- R182: the nine loadable tables. Each entry is the number it holds after clamping (R184). -/
structure Tables where
  /-- PARAM: the parameters of R187. -/
  param : Vector Nat 52
  /-- SHADE_GAIN: gain of pixel j, in 64ths. -/
  shadeGain : Vector Nat 2048
  /-- DITHER: threshold at (k mod 8) × 8 + (j mod 8). -/
  dither : Vector Nat 64
  /-- HEAD_TEMP: base pulse width in µs by temperature band index. -/
  headTemp : Vector Nat 16
  /-- RAMP_S: stored length, then intervals in µs. -/
  rampS : Vector Nat 49
  /-- RAMP_P: stored length, then intervals in µs. -/
  rampP : Vector Nat 49
  /-- PHASE_S: coil patterns. -/
  phaseS : Vector Nat 8
  /-- PHASE_P: coil patterns. -/
  phaseP : Vector Nat 8
  /-- SENSOR: enable, offset, low threshold, high threshold and event mask of each channel. -/
  sensor : Vector Nat 40
deriving DecidableEq, Repr

/-! ### The parameters of R187, by index -/

def Param.banks : Nat := 0
def Param.scanWidth : Nat := 1
def Param.headWidth : Nat := 2
def Param.pixelPeriod : Nat := 3
def Param.sensorTotal : Nat := 4
def Param.sensorLead : Nat := 5
def Param.syncWidth : Nat := 6
def Param.edgeOffset : Nat := 7
def Param.trailOffset : Nat := 8
def Param.ejectSteps : Nat := 9
def Param.feedLimit : Nat := 10
def Param.maxDocLines : Nat := 11
def Param.ditherMode : Nat := 12
def Param.fixedThreshold : Nat := 13
def Param.shadeTarget : Nat := 14
def Param.printLead : Nat := 15
def Param.printTrail : Nat := 16
def Param.cutTime : Nat := 17
def Param.restartMargin : Nat := 18
def Param.dotBudget : Nat := 19
def Param.recovery : Nat := 20
def Param.wmin : Nat := 21
def Param.wmax : Nat := 22
def Param.vnom : Nat := 23
def Param.vslope : Nat := 24
def Param.stepModeS : Nat := 25
def Param.stepModeP : Nat := 26
def Param.nonoverlapS : Nat := 27
def Param.nonoverlapP : Nat := 28
def Param.settleS : Nat := 29
def Param.settleP : Nat := 30
def Param.holdTimeS : Nat := 31
def Param.holdTimeP : Nat := 32
def Param.cruiseSStd : Nat := 33
def Param.cruiseSFine : Nat := 34
def Param.cruiseSSfine : Nat := 35
def Param.cruisePStd : Nat := 36
def Param.cruisePFine : Nat := 37
def Param.cruisePSfine : Nat := 38
def Param.cruiseFeed : Nat := 39
def Param.refreshInterval : Nat := 40
def Param.srExitTime : Nat := 41
def Param.autoSrDelay : Nat := 42
def Param.standbyDelay : Nat := 43
def Param.sleepDelay : Nat := 44
def Param.sleepWait : Nat := 45
def Param.wakeTimer : Nat := 46
def Param.poolWait : Nat := 47
def Param.sensorPeriod : Nat := 48
def Param.debounce : Nat := 49
def Param.powerSettle : Nat := 50
def Param.masks : Nat := 51

/-- The value of a parameter. -/
def Tables.p (t : Tables) (i : Nat) : Nat := t.param[i]?.getD 0

/-- R187: the defaults of the PARAM table. -/
def defaultParam : Vector Nat 52 :=
  #v[1, 1728, 1728, 1, 1800, 32, 2, 24, 8, 400, 600, 8000, 0, 128, 240, 64, 160, 80, 8, 432, 40, 300, 2000, 180,
     16, 1, 1, 20, 20, 10, 10, 50, 50, 7, 7, 7, 7, 7, 7, 4, 15, 200, 50, 30, 0, 10, 0, 50, 10, 4, 20, 0x3100]

/-- R188: the defaults of DITHER, row k mod 8 by row. -/
def defaultDither : Vector Nat 64 :=
  #v[2, 130, 34, 162, 10, 138, 42, 170,
     194, 66, 226, 98, 202, 74, 234, 106,
     50, 178, 18, 146, 58, 186, 26, 154,
     242, 114, 210, 82, 250, 122, 218, 90,
     14, 142, 46, 174, 6, 134, 38, 166,
     206, 78, 238, 110, 198, 70, 230, 102,
     62, 190, 30, 158, 54, 182, 22, 150,
     254, 126, 222, 94, 246, 118, 214, 86]

/-- R188: HEAD_TEMP entry t holds 1200 − 40t. -/
def defaultHeadTemp : Vector Nat 16 :=
  #v[1200, 1160, 1120, 1080, 1040, 1000, 960, 920, 880, 840, 800, 760, 720, 680, 640, 600]

/-- R188: stored length 8, the eight intervals, and 1400 µs at ramp indexes 8 to 47. -/
def defaultRamp : Vector Nat 49 :=
  #v[8, 4000, 3000, 2400, 2000, 1800, 1600, 1500, 1400,
     1400, 1400, 1400, 1400, 1400, 1400, 1400, 1400, 1400, 1400,
     1400, 1400, 1400, 1400, 1400, 1400, 1400, 1400, 1400, 1400,
     1400, 1400, 1400, 1400, 1400, 1400, 1400, 1400, 1400, 1400,
     1400, 1400, 1400, 1400, 1400, 1400, 1400, 1400, 1400, 1400]

/-- R188: the half-step sequence. -/
def defaultPhase : Vector Nat 8 := #v[1, 3, 2, 6, 4, 12, 8, 9]

/-- R188: the SENSOR records of channels 0 to 7. -/
def defaultSensor : Vector Nat 40 :=
  #v[1, 0, 0, 200, 0,
     1, 0, 150, 220, 0,
     1, 0, 100, 255, 0,
     0, 0, 0, 255, 0,
     0, 0, 0, 255, 0,
     0, 0, 0, 255, 0,
     0, 0, 0, 255, 0,
     0, 0, 0, 255, 0]

/-- R188, R189: the built-in defaults of every table. -/
def Tables.defaults : Tables where
  param := defaultParam
  shadeGain := Vector.replicate 2048 64
  dither := defaultDither
  headTemp := defaultHeadTemp
  rampS := defaultRamp
  rampP := defaultRamp
  phaseS := defaultPhase
  phaseP := defaultPhase
  sensor := defaultSensor

/-- R182: entry i of the table with this id; 0 where there is none. -/
def Tables.get (t : Tables) (id i : Nat) : Nat :=
  match id with
  | 0 => t.param[i]?.getD 0
  | 1 => t.shadeGain[i]?.getD 0
  | 2 => t.dither[i]?.getD 0
  | 3 => t.headTemp[i]?.getD 0
  | 4 => t.rampS[i]?.getD 0
  | 5 => t.rampP[i]?.getD 0
  | 6 => t.phaseS[i]?.getD 0
  | 7 => t.phaseP[i]?.getD 0
  | 8 => t.sensor[i]?.getD 0
  | _ => 0

/-- The tables with entry i of the table with this id set; unchanged where there is no such entry. -/
def Tables.put (t : Tables) (id i v : Nat) : Tables :=
  match id with
  | 0 => { t with param := t.param.setIfInBounds i v }
  | 1 => { t with shadeGain := t.shadeGain.setIfInBounds i v }
  | 2 => { t with dither := t.dither.setIfInBounds i v }
  | 3 => { t with headTemp := t.headTemp.setIfInBounds i v }
  | 4 => { t with rampS := t.rampS.setIfInBounds i v }
  | 5 => { t with rampP := t.rampP.setIfInBounds i v }
  | 6 => { t with phaseS := t.phaseS.setIfInBounds i v }
  | 7 => { t with phaseP := t.phaseP.setIfInBounds i v }
  | 8 => { t with sensor := t.sensor.setIfInBounds i v }
  | _ => t

/-- "Clamped to" a range (00, Time and quantities). -/
def clampTo (lo hi v : Nat) : Nat := max lo (min hi v)

/-- R187: the range of each PARAM entry that is a plain range or a code, lowest and highest value. The entries
with a rule of their own (SCAN_WIDTH, HEAD_WIDTH, the masks) are in `clampParam`. -/
def paramRange : Nat → Nat × Nat
  | 0 => (1, 4)
  | 1 => (512, 2048)
  | 2 => (1728, 2048)
  | 3 => (0, 2)
  | 4 => (600, 4095)
  | 5 => (0, 255)
  | 6 => (1, 16)
  | 7 => (0, 255)
  | 8 => (0, 255)
  | 9 => (0, 4095)
  | 10 => (1, 4095)
  | 11 => (256, 16383)
  | 12 => (0, 1)
  | 13 => (0, 255)
  | 14 => (1, 255)
  | 15 => (0, 4095)
  | 16 => (0, 4095)
  | 17 => (0, 255)
  | 18 => (1, 64)
  | 19 => (64, 2048)
  | 20 => (0, 255)
  | 21 => (50, 4000)
  | 22 => (50, 4000)
  | 23 => (0, 255)
  | 24 => (0, 255)
  | 25 => (0, 1)
  | 26 => (0, 1)
  | 27 => (0, 255)
  | 28 => (0, 255)
  | 29 => (0, 255)
  | 30 => (0, 255)
  | 31 => (0, 255)
  | 32 => (0, 255)
  | 33 => (0, 47)
  | 34 => (0, 47)
  | 35 => (0, 47)
  | 36 => (0, 47)
  | 37 => (0, 47)
  | 38 => (0, 47)
  | 39 => (0, 47)
  | 40 => (4, 63)
  | 41 => (100, 1000)
  | 42 => (0, 255)
  | 43 => (0, 255)
  | 44 => (0, 255)
  | 45 => (1, 60)
  | 46 => (0, 255)
  | 47 => (1, 255)
  | 48 => (1, 255)
  | 49 => (1, 15)
  | 50 => (0, 255)
  | _ => (0, 65535)

/-- R184: the clamp of a PARAM entry. SCAN_WIDTH is lowered to a multiple of 64, HEAD_WIDTH becomes the nearer of
its two values (1888 becomes 1728), and bits 6 and 7 of each byte of the masks are cleared. -/
def clampParam (i v : Nat) : Nat :=
  match i with
  | 1 => clampTo 512 2048 v / 64 * 64
  | 2 => if v ≤ 1888 then 1728 else 2048
  | 51 => v &&& 0x3F3F
  | _ => clampTo (paramRange i).1 (paramRange i).2 v

/-- R184: the clamp of an entry of any table. -/
def clampEntry (id i v : Nat) : Nat :=
  match id with
  | 0 => clampParam i v
  | 3 => clampTo 0 4000 v
  | 4 | 5 => if i = 0 then clampTo 1 48 v else clampTo 100 65535 v
  | 6 | 7 => min 15 v
  | 8 => if i % 5 = 0 ∨ i % 5 = 4 then min 1 v else v
  | _ => v

/-- R183: the values of a record's entries, each clamped, written from an index upward. -/
def Tables.putAll (t : Tables) (id i : Nat) : List Nat → Tables
  | [] => t
  | v :: vs => (t.put id i (clampEntry id i v)).putAll id (i + 1) vs

/-- R184: after an accepted PARAM record SENSOR_TOTAL is raised to SENSOR_LEAD + SCAN_WIDTH when it is below. -/
def Tables.raiseTotal (t : Tables) (id : Nat) : Tables :=
  if id = 0 ∧ t.p Param.sensorTotal < t.p Param.sensorLead + t.p Param.scanWidth then
    t.put 0 Param.sensorTotal (t.p Param.sensorLead + t.p Param.scanWidth)
  else t

/-- R183, R184: the tables after an accepted record. -/
def Tables.load (t : Tables) (id start : Nat) (vals : List Nat) : Tables :=
  (t.putAll id start vals).raiseTotal id

/-- How many of the entries written hold another value than the one sent. -/
def countChanged (t : Tables) (id i : Nat) : List Nat → Nat
  | [] => 0
  | v :: vs => (if t.get id i = v then 0 else 1) + countChanged t id (i + 1) vs

/-- R183, R184: the number of entries counted as clamped in the reply: those whose stored value differs from the
value sent, and SENSOR_TOTAL when the record did not write it and it was raised. -/
def clampedCount (t : Tables) (id start : Nat) (vals : List Nat) : Nat :=
  countChanged (t.load id start vals) id start vals +
    (if id = 0 ∧ ¬(start ≤ Param.sensorTotal ∧ Param.sensorTotal < start + vals.length) ∧
        (t.load id start vals).p Param.sensorTotal ≠ (t.putAll id start vals).p Param.sensorTotal
      then 1 else 0)

/-- The two-byte values of a record's entries, high byte first. -/
def pairValues : List Byte → List Nat
  | hi :: lo :: rest => (half hi lo).toNat :: pairValues rest
  | _ => []

/-- The values of a record's entries, at the table's width (R182). -/
def entryValues (width : Nat) (bytes : List Byte) : List Nat :=
  if width = 1 then bytes.map (·.toNat) else pairValues bytes

/-- The bytes of an entry at the table's width. -/
def entryBytes (width v : Nat) : List Byte :=
  if width = 1 then [BitVec.ofNat 8 v] else halfBytes (BitVec.ofNat 16 v)

/-- R174, R186: count entries from an index upward, each at the table's width. -/
def readEntries (t : Tables) (id width : Nat) : Nat → Nat → List Byte
  | _, 0 => []
  | i, n + 1 => entryBytes width (t.get id i) ++ readEntries t id width (i + 1) n

/-! ### Readings of a table by its users -/

/-- R106: the ramp table of a channel. -/
def Tables.ramp (t : Tables) : Motor → Vector Nat 49
  | .s => t.rampS
  | .p => t.rampP

/-- R106: the stored length of a channel's ramp. -/
def Tables.rampLength (t : Tables) (m : Motor) : Nat := (t.ramp m)[0]?.getD 0

/-- R106, R182: the interval in µs at ramp index i, which stands at table index i + 1. -/
def Tables.rampAt (t : Tables) (m : Motor) (i : Nat) : Nat := (t.ramp m)[i + 1]?.getD 0

/-- R107: the coil pattern at a phase index. -/
def Tables.phase (t : Tables) (m : Motor) (i : Nat) : BitVec 4 :=
  match m with
  | .s => BitVec.ofNat 4 (t.phaseS[i]?.getD 0)
  | .p => BitVec.ofNat 4 (t.phaseP[i]?.getD 0)

/-- R107: 1 for HALF, 0 for FULL. -/
def Tables.stepMode (t : Tables) : Motor → Nat
  | .s => t.p Param.stepModeS
  | .p => t.p Param.stepModeP

/-- R107: the non-overlap gap in µs. -/
def Tables.nonoverlap (t : Tables) : Motor → Nat
  | .s => t.p Param.nonoverlapS
  | .p => t.p Param.nonoverlapP

/-- R110: the settle time in ms. -/
def Tables.settleMs (t : Tables) : Motor → Nat
  | .s => t.p Param.settleS
  | .p => t.p Param.settleP

/-- R119: the hold time in units of 10 ms. -/
def Tables.holdTime (t : Tables) : Motor → Nat
  | .s => t.p Param.holdTimeS
  | .p => t.p Param.holdTimeP

/-- R182: field f of analog channel ch. -/
def Tables.sensorField (t : Tables) (ch f : Nat) : Nat := t.sensor[ch * 5 + f]?.getD 0

/-- R125: the enable of a channel. -/
def Tables.sensorEnabled (t : Tables) (ch : Nat) : Bool := t.sensorField ch 0 == 1

/-- R125, R182: the offset, a byte read as a signed number from −128 to 127. -/
def Tables.sensorOffset (t : Tables) (ch : Nat) : Int := (BitVec.ofNat 8 (t.sensorField ch 1)).toInt

/-- R125: the low threshold. -/
def Tables.sensorLow (t : Tables) (ch : Nat) : Nat := t.sensorField ch 2

/-- R125: the high threshold. -/
def Tables.sensorHigh (t : Tables) (ch : Nat) : Nat := t.sensorField ch 3

/-- R125: the event mask. -/
def Tables.sensorMasked (t : Tables) (ch : Nat) : Bool := t.sensorField ch 4 == 1

/-- R187: WAKE_MASK, bit n for input n. -/
def Tables.wakeMask (t : Tables) (n : Nat) : Bool := (t.p Param.masks / 256).testBit n

/-- R187: INPUT_EVENT_MASK, bit n for input n. -/
def Tables.inputMasked (t : Tables) (n : Nat) : Bool := (t.p Param.masks % 256).testBit n

end Sys2Proof.Machine
end

