-- ==== Sys2Proof/Machine/State.lean ====
section
/-! DEFINITION. The state of the block as plain data, unit by unit, and its value at power-on reset. -/

namespace Sys2Proof.Machine

/-! ### Page memory (01_page_store.md) -/

/-- The contents of the page DRAM: strictly rising byte addresses, no entry equal to the unwritten byte (R1).
Address bank × 2^20 + row × 2^10 + column. -/
abbrev Memory := List Host.Cell

/-- R1: a band number; at most four banks of 128 bands. -/
abbrev Band := Fin 512

/-- R3: the states of a page. -/
inductive PageState where
  | free
  | opened
  | closed
deriving DecidableEq, Repr

/-- R3: the kinds of a page. -/
inductive PageKind where
  | image
  | block
deriving DecidableEq, Repr

/-- R3: the modes of a page. -/
inductive PageMode where
  | keep
  | stream
deriving DecidableEq, Repr

/-- R3: the writers of an OPEN page. -/
inductive Writer where
  | scan
  | link
deriving DecidableEq, Repr

/-- R3, R16: the consumers of a STREAM page. -/
inductive Reader where
  | print
  | link
deriving DecidableEq, Repr

/-- 00, Steps and resolution. -/
inductive Resolution where
  | std
  | fine
  | sfine
deriving DecidableEq, Repr

/-- R3: a page record. An absent field is none; `consumer` is none both for a STREAM page without one and for a page
that has no such field. -/
structure PageRec where
  state : PageState
  kind : Option PageKind
  mode : Option PageMode
  writer : Option Writer
  width : Option Nat
  resolution : Option Resolution
  retain : Option Bool
  label : Half
  committed : Nat
  base : Nat
  chain : List Band
  filling : Bool
  printHold : Nat
  linkHold : Nat
  truncated : Bool
  repeats : Nat
  consumer : Option Reader
  mark : Nat
deriving DecidableEq, Repr

/-- R3: a FREE record. -/
def PageRec.freed : PageRec where
  state := .free
  kind := none
  mode := none
  writer := none
  width := none
  resolution := none
  retain := none
  label := 0#16
  committed := 0
  base := 0
  chain := []
  filling := false
  printHold := 0
  linkHold := 0
  truncated := false
  repeats := 0
  consumer := none
  mark := 0

/-- R12: the link writer's pool wait. -/
structure PoolWait where
  page : Nat
  deadline : Nat
deriving DecidableEq, Repr

/-- The Page Store: directory, pool and waiting requests (R3, R8, R9, R11, R12). -/
structure PageStore where
  pages : Vector PageRec 32
  poolSize : Nat
  freeList : List Band
  /-- R9: the scan writer's band request waits. -/
  scanWaits : Bool
  /-- R11: the memory-low indicator. -/
  memoryLow : Bool
  poolWait : Option PoolWait
deriving DecidableEq, Repr

/-! ### The Page Memory Controller (02_page_memory_controller.md) -/

/-- The DRAM states. -/
inductive DramState where
  | init
  | active
  | srEntry
  | selfRefresh
  | srExit
deriving DecidableEq, Repr

/-- The self-refresh causes other than none. -/
inductive SrCause where
  | auto
  | sleep
deriving DecidableEq, Repr

/-- R27: the requester classes. -/
inductive ReqClass where
  | scanWrite
  | printFetch
  | linkWrite
  | linkRead
deriving DecidableEq, Repr

/-- R59: the Scan Unit's two line slots. -/
inductive SlotId where
  | a
  | b
deriving DecidableEq, Repr

/-- R27: a request, waiting or in transfer. -/
structure Request where
  cls : ReqClass
  bank : Nat
  row : Nat
  col : Nat
  count : Nat
  /-- The bytes of a write; empty for a read. -/
  data : List Byte
  /-- The page and the line index or byte offset the transfer serves (R6, R14). -/
  page : Nat
  index : Nat
  /-- The line slot of a scan line write. -/
  slot : Option SlotId
  /-- Clear once the requester no longer wants the completion: the page has been closed or released, or the job
  cancelled, while the transfer ran (R6, R29). -/
  live : Bool
  /-- R42: the request arrived while a sleep order was held. -/
  afterOrder : Bool
deriving DecidableEq, Repr

/-- R29, R33: what the DRAM is doing. -/
inductive Activity where
  | transfer (r : Request) (endsAt : Nat)
  | refresh (endsAt : Nat)
deriving DecidableEq, Repr

/-- The Page Memory Controller's items (the chapter's state table). -/
structure Dram where
  state : DramState
  /-- The end of the INIT, SR_ENTRY or SR_EXIT in progress. -/
  stateEnds : Option Nat
  cause : Option SrCause
  debt : Nat
  nextTick : Option Nat
  /-- R34: (bank, row), least recently used first. -/
  rowHold : List (Nat × Nat)
  hits : Nat
  misses : Nat
  evictions : Nat
  overruns : Nat
  /-- All classes in one list in arrival order. -/
  waiting : List Request
  current : Option Activity
  /-- R38: the auto self-refresh timer's deadline. -/
  autoTimer : Option Nat
  /-- R38: the timer expired while a refresh was in progress. -/
  autoDue : Bool
  /-- R42: a sleep order is held. -/
  sleepOrder : Bool
  /-- R43: leave self-refresh on reaching it. -/
  exitAsked : Bool
  /-- R41: the exit in progress was started by the wake order. -/
  wakeExit : Bool
  /-- R37: the banks in force in the controller. -/
  banks : Nat
  /-- R37: a held change of BANKS. -/
  heldBanks : Option Nat
deriving DecidableEq, Repr

/-! ### Motor channels (06_motor_timing.md) -/

/-- R105: the states of a channel. -/
inductive ChanState where
  | off
  | settle
  | hold
  | accel
  | run
  | decel
deriving DecidableEq, Repr

/-- R104: the owners of a move. -/
inductive Owner where
  | nobody
  | scan
  | print
  | feed
deriving DecidableEq, Repr

/-- R109: the kind of a move request; a COUNTED move names its steps. -/
inductive MoveAsk where
  | open_
  | counted (steps : Nat)
deriving DecidableEq, Repr

/-- R109: a move request. -/
structure MoveReq where
  owner : Owner
  ask : MoveAsk
  steps : Nat
  cruise : Nat
  floor : Nat
deriving DecidableEq, Repr

/-- R104: the kind of a move in progress. -/
inductive MoveKind where
  | open_
  | counted
deriving DecidableEq, Repr

/-- R117: the stop mark. -/
inductive StopMark where
  | nostop
  | pending
  | taken
deriving DecidableEq, Repr

/-- R112: an interval in progress: its length in µs and its end. -/
structure Interval where
  length : Nat
  endsAt : Nat
deriving DecidableEq, Repr

/-- R107: a non-overlap gap: coils that wait to be switched on, and the end of their wait. -/
structure Gap where
  coils : BitVec 4
  endsAt : Nat
deriving DecidableEq, Repr

/-- R104: a channel record, with the coils of R107. -/
structure Channel where
  state : ChanState
  owner : Owner
  move : Option MoveKind
  /-- S, steps per line. -/
  steps : Nat
  cruise : Nat
  /-- The ramp index i. -/
  index : Nat
  remaining : Option Nat
  position : Nat
  phase : Nat
  floor : Nat
  interval : Option Interval
  stop : StopMark
  held : Option MoveReq
  /-- R110: the end of SETTLE. -/
  settleEnds : Option Nat
  /-- R122: the end of the POWER_SETTLE part of a FEED's settle. -/
  powerEnds : Option Nat
  /-- R119: the hold timer's deadline. -/
  holdTimer : Option Nat
  /-- R107: the step mode taken at the move request; true is HALF. -/
  halfStep : Bool
  /-- R110: the settle time in ms taken at the move request. -/
  settleMs : Nat
  /-- The coils actually on; bit c is coil c. -/
  coils : BitVec 4
  /-- R107: the non-overlap gaps that run, in the order of their ends. -/
  gaps : List Gap
deriving DecidableEq, Repr

/-- R104: a channel record after power-on reset. -/
def Channel.reset : Channel where
  state := .off
  owner := .nobody
  move := none
  steps := 1
  cruise := 0
  index := 0
  remaining := none
  position := 0
  phase := 0
  floor := 0
  interval := none
  stop := .nostop
  held := none
  settleEnds := none
  powerEnds := none
  holdTimer := none
  halfStep := false
  settleMs := 0
  coils := 0#4
  gaps := []

/-! ### The Scan Unit (03_scan_path.md) -/

/-- R46: the job states. -/
inductive ScanState where
  | idle
  | starting
  | feedIn
  | offset
  | capture
  | stalled
  | tail
  | eject
deriving DecidableEq, Repr

/-- R46: the sources. -/
inductive ScanSource where
  | sensor
  | pattern
deriving DecidableEq, Repr

/-- R64: the test patterns. -/
inductive Pattern where
  | white
  | black
  | bars
  | checker
  | ramp
deriving DecidableEq, Repr

/-- R46: the scan job record, with what EJECT waits for (R53). -/
structure ScanJob where
  state : ScanState
  page : Option Nat
  source : Option ScanSource
  pattern : Option Pattern
  lineCount : Nat
  resolution : Option Resolution
  /-- S, motor steps per line. -/
  steps : Nat
  floor : Nat
  stepCount : Nat
  /-- The job's own DOC_EDGE level; true is active. -/
  edgeLevel : Bool
  edgeSamples : Nat
  stepsLeft : Nat
  resume : Option ScanState
  stopping : Bool
  availKept : Bool
  nextLine : Nat
  produced : Nat
  /-- R48: the end of the STARTING wait. -/
  startEnds : Option Nat
  /-- R53: channel S has come to rest (or was halted) in EJECT. -/
  rested : Bool
  /-- R53: the page has been closed in EJECT. -/
  pageClosed : Bool
  /-- R69: the cover opened in EJECT. -/
  coverEnd : Bool
deriving DecidableEq, Repr

/-- R46: the record in IDLE. -/
def ScanJob.idle : ScanJob where
  state := .idle
  page := none
  source := none
  pattern := none
  lineCount := 0
  resolution := none
  steps := 0
  floor := 0
  stepCount := 0
  edgeLevel := false
  edgeSamples := 0
  stepsLeft := 0
  resume := none
  stopping := false
  availKept := false
  nextLine := 0
  produced := 0
  startEnds := none
  rested := false
  pageClosed := false
  coverEnd := false

/-- R59: what a line slot is doing. `doomed` holds a line whose granted transfer runs to its end after its job ended. -/
inductive SlotUse where
  | free
  | filling
  | held
  | doomed
deriving DecidableEq, Repr

/-- R59: a line slot. -/
structure LineSlot where
  use : SlotUse
  dots : List Byte
deriving DecidableEq, Repr

/-- R59: an entry of the list of writes. -/
structure ScanWrite where
  index : Nat
  slot : SlotId
  /-- R9: the band of a line with index a multiple of 32 has been granted. -/
  banded : Bool
  requested : Bool
deriving DecidableEq, Repr

/-- R55: a readout in progress. -/
structure Readout where
  /-- The slot being filled; none for a readout whose samples are discarded (R60). -/
  slot : Option SlotId
  index : Nat
  /-- Clear once its job has ended: its line is discarded (R67). -/
  live : Bool
  endsAt : Nat
deriving DecidableEq, Repr

/-- R65: a calibration in progress. -/
structure Calibration where
  settleEnds : Option Nat
  readoutEnds : Option Nat
  readouts : Nat
  sums : List Nat
deriving DecidableEq, Repr

/-- The Scan Unit. -/
structure ScanUnit where
  job : ScanJob
  slotA : LineSlot
  slotB : LineSlot
  /-- R60: the slot that holds the most recent line. -/
  lastSlot : Option SlotId
  writes : List ScanWrite
  /-- Readouts in progress, oldest first. -/
  readouts : List Readout
  calibration : Option Calibration
  lamp : Bool
  /-- R55: the end of the start pulse of the readout begun last; none before the first readout. -/
  syncEnds : Option Nat
deriving DecidableEq, Repr

/-! ### The Print Unit (04_print_path.md, 05_strobe_and_step_arithmetic.md) -/

/-- R71: an entry of the print queue. -/
structure PrintEntry where
  page : Nat
  copies : Nat
  done : Nat
  cursor : Nat
deriving DecidableEq, Repr

/-- R71: the copy states. -/
inductive CopyState where
  | idle
  | starting
  | lead
  | printing
  | paused
  | trail
  | cut
  | suspended
deriving DecidableEq, Repr

/-- R71: the pause reasons. -/
inductive PauseReason where
  | data
  | heat
deriving DecidableEq, Repr

/-- R71: the suspend reasons. -/
inductive SuspendReason where
  | paper
  | cover
deriving DecidableEq, Repr

/-- R71: the abandon mark. -/
inductive Abandon where
  | kept
  | paper
  | cancel
deriving DecidableEq, Repr

/-- R71: the states of SHIFT. -/
inductive ShiftStatus where
  | empty
  | shifting
  | complete
deriving DecidableEq, Repr

/-- R71: the SHIFT buffer. -/
structure ShiftBuf where
  status : ShiftStatus
  line : Nat
  /-- The printing number, 1 to R. -/
  printing : Nat
  counts : List Nat
  dots : List Byte
  doneAt : Option Nat
deriving DecidableEq, Repr

/-- R71: SHIFT EMPTY. -/
def ShiftBuf.none : ShiftBuf where
  status := .empty
  line := 0
  printing := 0
  counts := []
  dots := []
  doneAt := Option.none

/-- R71: the states of FETCH. -/
inductive FetchStatus where
  | empty
  | waiting
  | requested
  | full
deriving DecidableEq, Repr

/-- R71: the FETCH buffer. -/
structure FetchBuf where
  status : FetchStatus
  line : Nat
  counts : List Nat
  dots : List Byte
deriving DecidableEq, Repr

/-- R71: FETCH EMPTY. -/
def FetchBuf.none : FetchBuf where
  status := .empty
  line := 0
  counts := []
  dots := []

/-- R71: the copy record. -/
structure CopyRec where
  state : CopyState
  pause : Option PauseReason
  suspend : Option SuspendReason
  leadRun : Bool
  stopping : Bool
  cancelPending : Bool
  abandon : Abandon
  /-- S and R of the page's resolution. -/
  steps : Nat
  repeats : Nat
  startLine : Nat
  shift : ShiftBuf
  fetch : FetchBuf
  lastLatched : Option (Nat × Nat)
  leadLeft : Nat
  /-- R76: the page's lines are exhausted for the copy. -/
  exhausted : Bool
  /-- R75: printed lines latched so far in the copy. -/
  printed : Nat
  /-- R73: the end of the STARTING wait. -/
  startEnds : Option Nat
  /-- R101: a move request held until the sequencer is IDLE. -/
  heldMove : Option MoveReq
  /-- Channel P has come to rest and the strobe still runs (R84, R85). -/
  rested : Bool
  /-- R84: the end of CUT_TIME. -/
  cutEnds : Option Nat
deriving DecidableEq, Repr

/-- R71: the copy record at reset and with the queue empty. -/
def CopyRec.idle : CopyRec where
  state := .idle
  pause := none
  suspend := none
  leadRun := false
  stopping := false
  cancelPending := false
  abandon := .kept
  steps := 0
  repeats := 0
  startLine := 0
  shift := ShiftBuf.none
  fetch := FetchBuf.none
  lastLatched := none
  leadLeft := 0
  exhausted := false
  printed := 0
  startEnds := none
  heldMove := none
  rested := false
  cutEnds := none

/-- R94: a strobe phase: its groups in ascending order and its dot sum. -/
structure StrobePhase where
  groups : List Nat
  dots : Nat
deriving DecidableEq, Repr

/-- R91: the line strobe record. -/
structure StrobeRec where
  line : Nat
  printing : Nat
  counts : List Nat
  dEff : Nat
  phases : List StrobePhase
  /-- The temperature band index t. -/
  temp : Nat
  /-- The supply reading used, v. -/
  supply : Nat
  /-- The pulse width W in µs. -/
  width : Nat
  /-- The recovery time Tr in µs. -/
  recovery : Nat
  lineTime : Nat
  floor : Nat
deriving DecidableEq, Repr

/-- R91: the sequencer states. -/
inductive SeqState where
  | idle
  | pulse
  | recover
deriving DecidableEq, Repr

/-- The Print Unit. -/
structure PrintUnit where
  queue : List PrintEntry
  copy : CopyRec
  strobe : Option StrobeRec
  seq : SeqState
  seqPhase : Nat
  seqEnds : Option Nat
  /-- The dots latched in the head, R77's placement. -/
  headDots : List Byte
  hpwr : Bool
  cutter : Bool
deriving DecidableEq, Repr

/-! ### The Sensor Monitor (07_sensor_monitor.md) -/

/-- R125: the classes of a reading. -/
inductive Level where
  | low
  | normal
  | high
deriving DecidableEq, Repr

/-- R125: the kept fields of an analog channel; band and pending band are none for NONE. -/
structure AnalogRec where
  value : Nat
  valid : Bool
  band : Option Level
  pending : Option Level
  saturated : Bool
deriving DecidableEq, Repr

/-- R125: a channel after power-on reset and WRST. -/
def AnalogRec.empty : AnalogRec where
  value := 0
  valid := false
  band := none
  pending := none
  saturated := false

/-- R131, R132: an input. `level` is none while unsettled; `sample` is the value an unsettled input is counting. -/
structure InputRec where
  level : Option Bool
  count : Nat
  sample : Option Bool
deriving DecidableEq, Repr

/-- R132: an unsettled input. -/
def InputRec.unsettled : InputRec where
  level := none
  count := 0
  sample := none

/-- R127: the converter transaction in progress. -/
structure Transaction where
  channel : Nat
  endsAt : Nat
  /-- R129, R185: the channel's event mask, taken at its turn in the round. -/
  masked : Bool
deriving DecidableEq, Repr

/-- R126: the start of the last round, and the SENSOR_PERIOD taken at it (R185). -/
structure RoundStart where
  start : Nat
  period : Nat
deriving DecidableEq, Repr

/-- The Sensor Monitor. -/
structure Monitor where
  analog : Vector AnalogRec 8
  inputs : Vector InputRec 6
  transaction : Option Transaction
  roundQueued : Bool
  lastRound : Option RoundStart
  nextRound : Option Nat
  nextSample : Option Nat
deriving DecidableEq, Repr

/-- R136: the monitor after power-on reset and WRST, before sampling begins. -/
def Monitor.reset : Monitor where
  analog := Vector.replicate 8 AnalogRec.empty
  inputs := Vector.replicate 6 InputRec.unsettled
  transaction := none
  roundQueued := false
  lastRound := none
  nextRound := none
  nextSample := none

/-! ### The Stream Link (08_stream_link.md) -/

/-- 09, 9.1: the result codes. -/
inductive ResultCode where
  | accepted
  | badRecord
  | badParameter
  | noPage
  | pageInUse
  | pageHeld
  | wrongState
  | queueFull
  | unitBusy
  | tableBusy
  | noMedia
  | coverOpen
deriving DecidableEq, Repr

/-- R142: a reply: the command's TAG and KIND, the result code and the result data. -/
structure Reply where
  tag : Byte
  kind : Byte
  code : ResultCode
  data : List Byte
deriving DecidableEq, Repr

/-- R67, R70: the reasons of SCAN_ABORTED. -/
inductive AbortReason where
  | feedFailure
  | docJam
  | cover
  | cancel
  | restart
deriving DecidableEq, Repr

/-- R5, R140: the reasons of WRITE_REFUSED. -/
inductive RefuseReason where
  | notOpen
  | kind
  | full
  | length
deriving DecidableEq, Repr

/-- R199: the wake sources. -/
inductive WakeSource where
  | docIn
  | ring
  | key
  | timer
  | host
  | wrst
deriving DecidableEq, Repr

/-- R201 to R204: the boot outcomes. -/
inductive BootOutcome where
  | ok
  | noSource
  | noDevice
  | sum
  | format
deriving DecidableEq, Repr

/-- 8.6, 13.5: the ordinary events and what each carries. -/
inductive Event where
  | bootDone (outcome : BootOutcome) (applied : Nat)
  | standbyEntered
  | runEntered
  | sleepCancelled
  | sleepAbandoned
  | woke (source : WakeSource)
  | pageClosed (page committed : Nat) (truncated : Bool) (label : Half)
  | pageReleased (page : Nat) (label : Half)
  | poolWaitTimeout (page : Nat) (label : Half)
  | writeRefused (page : Nat) (reason : RefuseReason)
  | scanEdge (page : Nat)
  | scanStalled (page : Nat)
  | scanResumed (page : Nat)
  | scanDone (page : Nat)
  | scanAborted (page : Nat) (reason : AbortReason)
  | lineRepeated (page line : Nat)
  | lampLow (page : Nat)
  | shadeDone (least greatest : Nat)
  | copyDone (page copy : Nat)
  | printDone (page : Nat)
  | printPaused (page : Nat) (reason : PauseReason)
  | printResumed (page : Nat)
  | printSuspended (page : Nat) (reason : SuspendReason)
  | printCancelled (page : Nat)
  | printUnderrun (page line : Nat)
  | readDone (page placed : Nat) (short : Bool)
  | feedDone (channel : Motor)
  | sensorBand (channel : Nat) (band : Option Level) (value : Nat)
  | sensorSaturated (channel : Nat)
  | inputChange (input : Nat) (active : Bool)
  | refreshOverrun
  | framing
deriving DecidableEq, Repr

/-- R139: the parser states. -/
inductive ParserState where
  | hunt
  | header
  | payload
  | held
deriving DecidableEq, Repr

/-- R139, R140: the parser. `header` holds the bytes of the header taken so far, SYNC first;
`taken` counts payload bytes; `buffer` keeps those of a command or data record. -/
structure Parser where
  state : ParserState
  header : List Byte
  taken : Nat
  buffer : List Byte
deriving DecidableEq, Repr

/-- R156: HUNT with the buffer empty. -/
def Parser.reset : Parser where
  state := .hunt
  header := []
  taken := 0
  buffer := []

/-- R153: the classes the upstream assembler chooses from. -/
inductive UpClass where
  | reply
  | event
  | data
deriving DecidableEq, Repr

/-- R144, R145: the link writer's record: LINE or BLOCK, its page, the line or byte to be written next, and the
bytes still to be written (a line already fitted to its page). -/
structure LinkJob where
  isLine : Bool
  page : Nat
  next : Nat
  data : List Byte
deriving DecidableEq, Repr

/-- R147: an entry of the link read queue. -/
structure ReadEntry where
  page : Nat
  start : Nat
  count : Nat
  cursor : Nat
  placed : Nat
deriving DecidableEq, Repr

/-- R147: the states of the read buffer. -/
inductive ReadStatus where
  | empty
  | filling
  | waiting
deriving DecidableEq, Repr

/-- R147: the read buffer: the record it fills or holds, from `first` to `stop`. -/
structure ReadBuf where
  status : ReadStatus
  isLine : Bool
  page : Nat
  first : Nat
  stop : Nat
  data : List Byte
deriving DecidableEq, Repr

/-- R147: the read buffer EMPTY. -/
def ReadBuf.none : ReadBuf where
  status := .empty
  isLine := false
  page := 0
  first := 0
  stop := 0
  data := []

/-- The Stream Link. -/
structure Link where
  down : List Byte
  up : List Byte
  parser : Parser
  replies : List Reply
  /-- R152: ordinary events, oldest first. -/
  events : List Event
  /-- R152: the count of the EVENT_OVERFLOW entry, when present. -/
  overflow : Option Nat
  chosen : Option UpClass
  writer : Option LinkJob
  reads : List ReadEntry
  readBuf : ReadBuf
  /-- R154: the byte on the link data lines. -/
  dataOut : Byte
deriving DecidableEq, Repr

/-- R156: the Stream Link after power-on reset. -/
def Link.reset : Link where
  down := []
  up := []
  parser := Parser.reset
  replies := []
  events := []
  overflow := none
  chosen := none
  writer := none
  reads := []
  readBuf := ReadBuf.none
  dataOut := 0#8

/-! ### The Power and Boot Controller (11_power_states_and_boot.md) -/

/-- R190: the power states. -/
inductive PowerState where
  | boot
  | run
  | standby
  | enteringSleep
  | sleep
  | waking
deriving DecidableEq, Repr

/-- R201: the boot causes. -/
inductive BootCause where
  | por
  | wrst
deriving DecidableEq, Repr

/-- R201: the boot sources. -/
inductive BootSource where
  | absent
  | oneByte
  | twoByte
deriving DecidableEq, Repr

/-- R190: the boot record. -/
structure BootRec where
  cause : BootCause
  source : Option BootSource
  attempts : Nat
  bytes : Nat
  sum : Nat
  applied : Nat
  outcome : Option BootOutcome
deriving DecidableEq, Repr

/-- R190, R201: the boot record reset for a cause. -/
def BootRec.start (c : BootCause) : BootRec where
  cause := c
  source := none
  attempts := 0
  bytes := 0
  sum := 0
  applied := 0
  outcome := none

/-- R202: what the two-wire master puts on the bus: a start or repeated start condition, a byte, its acknowledge or
not-acknowledge of a byte it has read, and a stop condition. -/
inductive WireSign where
  | start
  | byte (b : Byte)
  | acknowledge
  | notAcknowledge
  | stop
deriving DecidableEq, Repr

/-- R202: what the two-wire master is doing: nothing, sending byte n of an attempt, waiting 10 ms, or reading. -/
inductive TwoWire where
  | idle
  | sending (n : Nat)
  | waiting (deadline : Nat)
  | reading
deriving DecidableEq, Repr

/-- The Power and Boot Controller. -/
structure Power where
  state : PowerState
  /-- R197: the state an ENTERING_SLEEP began from. -/
  origin : Option PowerState
  /-- R195: the deadline of a pending sleep. -/
  sleepPending : Option Nat
  standbyTimer : Option Nat
  sleepTimer : Option Nat
  wakeTimer : Option Nat
  heldWake : Option WakeSource
  /-- R199: the source that started WAKING. -/
  wakeSource : Option WakeSource
  boot : BootRec
  lastBoot : Option (BootOutcome × Nat)
  hrsto : Bool
  hstby : Bool
  /-- R205: the POR input is asserted. -/
  por : Bool
  bootsel1 : Bool
  bootsel0 : Bool
  twoWire : TwoWire
  /-- R202: what the two-wire master put on the bus at its latest step. -/
  wire : List WireSign
  /-- R203: header and payload bytes of the boot record being read. -/
  bootHeader : List Byte
  bootPayload : List Byte
  /-- R197: sleep entry has dropped DRDY. -/
  drdyDropped : Bool
  /-- R197: the 2 ms bound. -/
  drdyBound : Option Nat
  /-- R198: the sleep order has been given. -/
  ordered : Bool
  /-- R192: the standby timer's conditions held when last looked at. -/
  quiet : Bool
deriving DecidableEq, Repr

/-- R190: the controller after power-on reset, with POR asserted. -/
def Power.reset : Power where
  state := .boot
  origin := none
  sleepPending := none
  standbyTimer := none
  sleepTimer := none
  wakeTimer := none
  heldWake := none
  wakeSource := none
  boot := BootRec.start .por
  lastBoot := none
  hrsto := true
  hstby := false
  por := true
  bootsel1 := false
  bootsel0 := false
  twoWire := .idle
  wire := []
  bootHeader := []
  bootPayload := []
  drdyDropped := false
  drdyBound := none
  ordered := false
  quiet := false

/-! ### The whole block -/

/-- The state of the part and the queue of the commands that wait for it. -/
structure State where
  /-- The model's own: the time in units of 50 ns (log entry 2). -/
  now : Nat
  /-- The model's own: the commands waiting, first in first out (log entry 1). -/
  pending : List Instr
  mem : Memory
  tables : Tables
  store : PageStore
  dram : Dram
  motS : Channel
  motP : Channel
  scan : ScanUnit
  print : PrintUnit
  mon : Monitor
  link : Link
  power : Power
deriving DecidableEq, Repr

/-- No command of this part faults: it reports errors in replies (9.1) and events (8.6). The type has no constructor,
so that no run of the model can end in a fault. -/
inductive Fault where
deriving DecidableEq, Repr

/-- The reasons the model itself gives up. -/
inductive Refusal where
  /-- Raised by `exec` for a command that has no meaning yet. It is safe: nothing is claimed of the part. -/
  | notModelled (mnemonic : String)
deriving DecidableEq, Repr

/-- R24: the Page Store at power-on reset. -/
def PageStore.reset : PageStore where
  pages := Vector.replicate 32 PageRec.freed
  poolSize := 0
  freeList := []
  scanWaits := false
  memoryLow := false
  poolWait := none

/-- R26: the controller at power-on reset, before INIT's wait begins at the release. -/
def Dram.reset : Dram where
  state := .init
  stateEnds := none
  cause := none
  debt := 0
  nextTick := none
  rowHold := []
  hits := 0
  misses := 0
  evictions := 0
  overruns := 0
  waiting := []
  current := none
  autoTimer := none
  autoDue := false
  sleepOrder := false
  exitAsked := false
  wakeExit := false
  banks := 1
  heldBanks := none

/-- R70: the Scan Unit at power-on reset. -/
def ScanUnit.reset : ScanUnit where
  job := ScanJob.idle
  slotA := { use := .free, dots := [] }
  slotB := { use := .free, dots := [] }
  lastSlot := none
  writes := []
  readouts := []
  calibration := none
  lamp := false
  syncEnds := none

/-- R90, R91: the Print Unit at power-on reset. -/
def PrintUnit.reset : PrintUnit where
  queue := []
  copy := CopyRec.idle
  strobe := none
  seq := .idle
  seqPhase := 0
  seqEnds := none
  headDots := []
  hpwr := false
  cutter := false

/-- R205: the part right after power-on reset, POR still asserted: every block at its power-on values. -/
def State.reset : State where
  now := 0
  pending := []
  mem := []
  tables := Tables.defaults
  store := PageStore.reset
  dram := Dram.reset
  motS := Channel.reset
  motP := Channel.reset
  scan := ScanUnit.reset
  print := PrintUnit.reset
  mon := Monitor.reset
  link := Link.reset
  power := Power.reset

end Sys2Proof.Machine
end

