-- ==== Sys2Proof/Machine/Ops.lean ====
section
/-! DEFINITION. The named operations over page memory and the parts of State: reading and writing bytes, replacing one
part, moving time to a deadline, raising an event, queueing a reply. -/

namespace Sys2Proof.Machine

/-! ### Page memory -/

/-- The byte at an address; what an unlisted address reads as is `Config.unwritten` (log entry 6). -/
def Memory.read : Memory → Nat → Byte
  | [], _ => Config.unwritten
  | (k, v) :: rest, a => if k = a then v else Memory.read rest a

/-- Memory with one byte stored, in the canonical form. -/
def Memory.write : Memory → Nat → Byte → Memory
  | [], a, v => if v = Config.unwritten then [] else [(a, v)]
  | (k, w) :: rest, a, v =>
    if a < k then (if v = Config.unwritten then (k, w) :: rest else (a, v) :: (k, w) :: rest)
    else if a = k then (if v = Config.unwritten then rest else (a, v) :: rest)
    else (k, w) :: Memory.write rest a v

/-- Memory with bytes stored from an address upward. -/
def Memory.writeAll : Memory → Nat → List Byte → Memory
  | m, _, [] => m
  | m, a, b :: bs => Memory.writeAll (m.write a b) (a + 1) bs

/-- n bytes from an address upward. -/
def Memory.readAll (m : Memory) : Nat → Nat → List Byte
  | _, 0 => []
  | a, n + 1 => m.read a :: m.readAll (a + 1) n

/-- Memory without what stands at or above an address: those bytes are as never written. -/
def Memory.below (m : Memory) (limit : Nat) : Memory := m.filter fun c => decide (c.1 < limit)

/-- Every listed address is above `lo` and rising, and no listed byte is the unwritten one. -/
def Memory.wfAbove : Nat → Memory → Bool
  | _, [] => true
  | lo, (k, v) :: rest => decide (lo ≤ k) && decide (v ≠ Config.unwritten) && Memory.wfAbove (k + 1) rest

/-- The canonical form: addresses strictly rising, no entry equal to what an unlisted address reads as. -/
def Memory.wf (m : Memory) : Bool := Memory.wfAbove 0 m

/-! ### Replacing one part of State -/

def State.withNow (s : State) (x : Nat) : State := { s with now := x }
def State.withPending (s : State) (x : List Instr) : State := { s with pending := x }
def State.withMem (s : State) (x : Memory) : State := { s with mem := x }
def State.withTables (s : State) (x : Tables) : State := { s with tables := x }
def State.withStore (s : State) (x : PageStore) : State := { s with store := x }
def State.withDram (s : State) (x : Dram) : State := { s with dram := x }
def State.withMotS (s : State) (x : Channel) : State := { s with motS := x }
def State.withMotP (s : State) (x : Channel) : State := { s with motP := x }
def State.withScan (s : State) (x : ScanUnit) : State := { s with scan := x }
def State.withPrint (s : State) (x : PrintUnit) : State := { s with print := x }
def State.withMon (s : State) (x : Monitor) : State := { s with mon := x }
def State.withLink (s : State) (x : Link) : State := { s with link := x }
def State.withPower (s : State) (x : Power) : State := { s with power := x }

/-- A timed step happens at its deadline: time moves to it unless it has already passed (log entry 2). -/
def State.at (s : State) (deadline : Nat) : State := s.withNow (max s.now deadline)

/-- The record of a channel. -/
def State.mot (s : State) : Motor → Channel
  | .s => s.motS
  | .p => s.motP

/-- R3: the record of a page number; a FREE record for a number outside the directory. -/
def State.page (s : State) (p : Nat) : PageRec := s.store.pages[p]?.getD PageRec.freed

/-- The directory with one record replaced. -/
def State.withPage (s : State) (p : Nat) (r : PageRec) : State :=
  s.withStore { s.store with pages := s.store.pages.setIfInBounds p r }

/-! ### Upstream queues (R152, R153) -/

/-- R155: the upstream assembler works in RUN, STANDBY and ENTERING_SLEEP. -/
def Power.upstreamWorks (p : Power) : Bool :=
  match p.state with
  | .run | .standby | .enteringSleep => true
  | .boot | .sleep | .waking => false

/-- R153: the first class, in order, that has a record waiting. -/
def Link.pick (l : Link) : Option UpClass :=
  if l.replies ≠ [] then some .reply
  else if l.events ≠ [] ∨ l.overflow.isSome then some .event
  else if l.readBuf.status = .waiting then some .data
  else none

/-- R153: with nothing chosen, the assembler makes its choice again. -/
def Link.choose (works : Bool) (l : Link) : Link :=
  if works ∧ l.chosen = none then { l with chosen := l.pick } else l

/-- R152: an ordinary event joins the tail, or is discarded and counted in EVENT_OVERFLOW. -/
def Link.push (e : Event) (l : Link) : Link :=
  match l.overflow with
  | none =>
    if l.events.length < Config.ordinaryEvents then { l with events := l.events ++ [e] }
    else { l with overflow := some 1 }
  | some c => { l with overflow := some (min 255 (c + 1)) }

/-- The assembler of the whole part looks for a record to choose (R153). -/
def State.choose (s : State) : State := s.withLink (s.link.choose s.power.upstreamWorks)

/-- R152: an event is raised. -/
def State.raise (s : State) (e : Event) : State := (s.withLink (s.link.push e)).choose

/-- R142: a reply joins the tail of the reply queue. -/
def State.reply (s : State) (r : Reply) : State :=
  (s.withLink { s.link with replies := s.link.replies ++ [r] }).choose

/-- Events raised one after another. -/
def State.raiseAll (s : State) : List Event → State
  | [] => s
  | e :: es => (s.raise e).raiseAll es

end Sys2Proof.Machine
end

