-- ==== Sys2Proof/Machine/Operands.lean ====
section
/-! DEFINITION. The operand forms: codes of enumerated fields (R207), steps per line, and the bytes of replies, events and
read data (13.4 to 13.6). -/

namespace Sys2Proof.Machine

/-! ### Codes of command fields (R207); none is out of range -/

def kindOf (b : Byte) : Option PageKind :=
  match b.toNat with
  | 0 => some .image
  | 1 => some .block
  | _ => none

def modeOf (b : Byte) : Option PageMode :=
  match b.toNat with
  | 0 => some .keep
  | 1 => some .stream
  | _ => none

def resolutionOf (b : Byte) : Option Resolution :=
  match b.toNat with
  | 0 => some .std
  | 1 => some .fine
  | 2 => some .sfine
  | _ => none

def flagOf (b : Byte) : Option Bool :=
  match b.toNat with
  | 0 => some false
  | 1 => some true
  | _ => none

def sourceOf (b : Byte) : Option ScanSource :=
  match b.toNat with
  | 0 => some .sensor
  | 1 => some .pattern
  | _ => none

def patternOf (b : Byte) : Option Pattern :=
  match b.toNat with
  | 0 => some .white
  | 1 => some .black
  | 2 => some .bars
  | 3 => some .checker
  | 4 => some .ramp
  | _ => none

def motorOf (b : Byte) : Option Motor :=
  match b.toNat with
  | 0 => some .s
  | 1 => some .p
  | _ => none

/-! ### Steps and resolution (00) -/

/-- S of a scan: 4, 2, 1. -/
def Resolution.scanSteps : Resolution → Nat
  | .std => 4
  | .fine => 2
  | .sfine => 1

/-- S of a print: 2, 2, 1. -/
def Resolution.printSteps : Resolution → Nat
  | .std => 2
  | .fine => 2
  | .sfine => 1

/-- R of a print: 2, 1, 1. -/
def Resolution.repeats : Resolution → Nat
  | .std => 2
  | .fine => 1
  | .sfine => 1

/-- R49: the parameter that holds the scan's cruise index. -/
def Resolution.cruiseS : Resolution → Nat
  | .std => Param.cruiseSStd
  | .fine => Param.cruiseSFine
  | .sfine => Param.cruiseSSfine

/-- R74: the parameter that holds the print's cruise index. -/
def Resolution.cruiseP : Resolution → Nat
  | .std => Param.cruisePStd
  | .fine => Param.cruisePFine
  | .sfine => Param.cruisePSfine

/-! ### Codes sent upstream (R207 and 9.1); an absent value is 0 -/

def byteOf (n : Nat) : Byte := BitVec.ofNat 8 n
def twoBytes (n : Nat) : List Byte := halfBytes (BitVec.ofNat 16 n)
def threeBytes (n : Nat) : List Byte := offsetBytes (BitVec.ofNat 24 n)
def flagByte (b : Bool) : Byte := if b then 1#8 else 0#8

def ResultCode.code : ResultCode → Nat
  | .accepted => 0
  | .badRecord => 1
  | .badParameter => 2
  | .noPage => 3
  | .pageInUse => 4
  | .pageHeld => 5
  | .wrongState => 6
  | .queueFull => 7
  | .unitBusy => 8
  | .tableBusy => 9
  | .noMedia => 10
  | .coverOpen => 11

def PageState.code : PageState → Nat
  | .free => 0
  | .opened => 1
  | .closed => 2

def PageKind.code : PageKind → Nat
  | .image => 0
  | .block => 1

def PageMode.code : PageMode → Nat
  | .keep => 0
  | .stream => 1

def Resolution.code : Resolution → Nat
  | .std => 0
  | .fine => 1
  | .sfine => 2

def Writer.code : Writer → Nat
  | .scan => 1
  | .link => 2

def Reader.code : Reader → Nat
  | .print => 1
  | .link => 2

def PowerState.code : PowerState → Nat
  | .boot => 0
  | .run => 1
  | .standby => 2
  | .enteringSleep => 3
  | .sleep => 4
  | .waking => 5

def BootOutcome.code : BootOutcome → Nat
  | .ok => 0
  | .noSource => 1
  | .noDevice => 2
  | .sum => 3
  | .format => 4

def DramState.code : DramState → Nat
  | .init => 0
  | .active => 1
  | .srEntry => 2
  | .selfRefresh => 3
  | .srExit => 4

def SrCause.code : SrCause → Nat
  | .auto => 1
  | .sleep => 2

def ScanState.code : ScanState → Nat
  | .idle => 0
  | .starting => 1
  | .feedIn => 2
  | .offset => 3
  | .capture => 4
  | .stalled => 5
  | .tail => 6
  | .eject => 7

def CopyState.code : CopyState → Nat
  | .idle => 0
  | .starting => 1
  | .lead => 2
  | .printing => 3
  | .paused => 4
  | .trail => 5
  | .cut => 6
  | .suspended => 7

/-- Copy reason: 0 none, 1 DATA, 2 HEAT, 3 PAPER, 4 COVER. -/
def CopyRec.reasonCode (c : CopyRec) : Nat :=
  match c.pause, c.suspend with
  | some .data, _ => 1
  | some .heat, _ => 2
  | none, some .paper => 3
  | none, some .cover => 4
  | none, none => 0

def ChanState.code : ChanState → Nat
  | .off => 0
  | .settle => 1
  | .hold => 2
  | .accel => 3
  | .run => 4
  | .decel => 5

def Owner.code : Owner → Nat
  | .nobody => 0
  | .scan => 1
  | .print => 2
  | .feed => 3

/-- Band: 0 NONE, 1 LOW, 2 NORMAL, 3 HIGH. -/
def bandCode : Option Level → Nat
  | none => 0
  | some .low => 1
  | some .normal => 2
  | some .high => 3

def ParserState.code : ParserState → Nat
  | .hunt => 0
  | .header => 1
  | .payload => 2
  | .held => 3

def WakeSource.code : WakeSource → Nat
  | .docIn => 0
  | .ring => 1
  | .key => 2
  | .timer => 3
  | .host => 4
  | .wrst => 5

def AbortReason.code : AbortReason → Nat
  | .feedFailure => 0
  | .docJam => 1
  | .cover => 2
  | .cancel => 3
  | .restart => 4

def RefuseReason.code : RefuseReason → Nat
  | .notOpen => 0
  | .kind => 1
  | .full => 2
  | .length => 3

def PauseReason.code : PauseReason → Nat
  | .data => 0
  | .heat => 1

def SuspendReason.code : SuspendReason → Nat
  | .paper => 0
  | .cover => 1

def motorCode : Motor → Nat
  | .s => 0
  | .p => 1

/-! ### Records sent upstream -/

/-- 13.5: an event's code, byte 1 and detail bytes. -/
def Event.payload : Event → List Byte
  | .bootDone o n => [0x01#8, 0#8, byteOf o.code, byteOf n]
  | .standbyEntered => [0x02#8, 0#8]
  | .runEntered => [0x03#8, 0#8]
  | .sleepCancelled => [0x04#8, 0#8]
  | .sleepAbandoned => [0x05#8, 0#8]
  | .woke w => [0x06#8, byteOf w.code]
  | .pageClosed p c t l => [0x10#8, byteOf p] ++ threeBytes c ++ [flagByte t] ++ halfBytes l
  | .pageReleased p l => [0x11#8, byteOf p] ++ halfBytes l
  | .poolWaitTimeout p l => [0x12#8, byteOf p] ++ halfBytes l
  | .writeRefused p r => [0x13#8, byteOf p, byteOf r.code]
  | .scanEdge p => [0x20#8, byteOf p]
  | .scanStalled p => [0x21#8, byteOf p]
  | .scanResumed p => [0x22#8, byteOf p]
  | .scanDone p => [0x23#8, byteOf p]
  | .scanAborted p r => [0x24#8, byteOf p, byteOf r.code]
  | .lineRepeated p k => [0x25#8, byteOf p] ++ twoBytes k
  | .lampLow p => [0x26#8, byteOf p]
  | .shadeDone a b => [0x27#8, 0#8, byteOf a, byteOf b]
  | .copyDone p n => [0x30#8, byteOf p, byteOf n]
  | .printDone p => [0x31#8, byteOf p]
  | .printPaused p r => [0x32#8, byteOf p, byteOf r.code]
  | .printResumed p => [0x33#8, byteOf p]
  | .printSuspended p r => [0x34#8, byteOf p, byteOf r.code]
  | .printCancelled p => [0x35#8, byteOf p]
  | .printUnderrun p k => [0x36#8, byteOf p] ++ twoBytes k
  | .readDone p n s => [0x40#8, byteOf p] ++ threeBytes n ++ [flagByte s]
  | .feedDone m => [0x41#8, byteOf (motorCode m)]
  | .sensorBand ch b v => [0x50#8, byteOf ch, byteOf (bandCode b), byteOf v]
  | .sensorSaturated ch => [0x51#8, byteOf ch]
  | .inputChange n a => [0x52#8, byteOf n, flagByte a]
  | .refreshOverrun => [0x60#8, 0#8]
  | .framing => [0x61#8, 0#8]

/-- 13.5: the payload of an EVENT_OVERFLOW record. -/
def overflowPayload (count : Nat) : List Byte := [0x62#8, 0#8, byteOf count]

/-- R206: an EVENT record. -/
def eventRecord (payload : List Byte) : List Byte := headerBytes 0x81#8 0#8 payload.length ++ payload

/-- 13.4: the payload of a REPLY record. -/
def Reply.payload (r : Reply) : List Byte := [r.kind, byteOf r.code.code] ++ r.data

/-- R206: a REPLY record, with the command's TAG in its header. -/
def Reply.record (r : Reply) : List Byte := headerBytes 0x80#8 r.tag r.payload.length ++ r.payload

/-- 13.6: the payload of an upstream LINE or BLOCK record. -/
def ReadBuf.payload (b : ReadBuf) : List Byte :=
  if b.isLine then [byteOf b.page] ++ twoBytes b.first ++ b.data
  else [byteOf b.page] ++ threeBytes b.first ++ b.data

/-- R206: an upstream data record. -/
def ReadBuf.record (b : ReadBuf) : List Byte :=
  headerBytes (if b.isLine then 0xC0#8 else 0xC1#8) 0#8 b.payload.length ++ b.payload

end Sys2Proof.Machine
end

