-- ==== Sys2Proof/Machine/Flags.lean ====
section
/-! DEFINITION. The status lines and conditions computed from the state: idleness, reserve, ready lines, outputs, quiescence. -/

namespace Sys2Proof.Machine

/-! ### Inputs (R131, R207) -/

def Input.docIn : Nat := 0
def Input.docEdge : Nat := 1
def Input.paperOut : Nat := 2
def Input.coverOpen : Nat := 3
def Input.ring : Nat := 4
def Input.key : Nat := 5

/-- R131: an input is debounced active. An unsettled input is not. -/
def State.active (s : State) (n : Nat) : Bool :=
  (s.mon.inputs[n]?.getD InputRec.unsettled).level == some true

/-- R132: all six inputs have adopted a level. -/
def Monitor.settled (m : Monitor) : Bool := m.inputs.toList.all fun r => r.level.isSome

/-- R125: the record of an analog channel. -/
def Monitor.channel (m : Monitor) (ch : Nat) : AnalogRec := m.analog[ch]?.getD AnalogRec.empty

/-- R81: channel 0's band is HIGH. -/
def State.headHot (s : State) : Bool := (s.mon.channel 0).band == some .high

/-- R127: the byte the monitor sends in a converter transaction: bit 7 set, the channel number in bits 2 to 0. -/
def Transaction.sends (t : Transaction) : Byte := 0x80#8 ||| BitVec.ofNat 8 (t.channel % 8)

/-- R127: the SPI select output, asserted while a converter transaction runs. -/
def Monitor.spiSelect (m : Monitor) : Bool := m.transaction.isSome

/-! ### Motor channels -/

/-- R105: OFF or HOLD. -/
def Channel.atRest (c : Channel) : Bool := c.state == .off || c.state == .hold

/-- R105: ACCEL, RUN or DECEL. -/
def Channel.moving (c : Channel) : Bool := c.state == .accel || c.state == .run || c.state == .decel

/-- R108: the winding current is FULL. -/
def Channel.currentFull (c : Channel) : Bool := c.moving || c.state == .settle

/-- R108: motor power is on while either channel is in a state other than OFF. -/
def State.mpwr (s : State) : Bool := s.motS.state != .off || s.motP.state != .off

/-! ### Idleness -/

/-- R46: the Scan Unit is idle: job state IDLE and calibration NONE. -/
def ScanUnit.isIdle (u : ScanUnit) : Bool := u.job.state == .idle && u.calibration.isNone

/-- R71: the Print Unit is idle: its queue is empty. -/
def PrintUnit.isIdle (u : PrintUnit) : Bool := u.queue.isEmpty

/-- R183: every page record is FREE. -/
def PageStore.directoryEmpty (p : PageStore) : Bool := p.pages.toList.all fun r => r.state == .free

/-- R10: the scan reserve in force. -/
def State.reserve (s : State) : Nat := if s.scan.job.state = .idle then 0 else 2

/-- A line slot of the Scan Unit. -/
def ScanUnit.slot (u : ScanUnit) : SlotId → LineSlot
  | .a => u.slotA
  | .b => u.slotB

/-- R70: the number of occupied slots. -/
def ScanUnit.occupied (u : ScanUnit) : Nat :=
  (if u.slotA.use = .free then 0 else 1) + (if u.slotB.use = .free then 0 else 1)

/-! ### Link -/

/-- R138, R155: the downstream side works: RUN, STANDBY, or ENTERING_SLEEP until DRDY is dropped. -/
def Power.downstreamWorks (p : Power) : Bool :=
  match p.state with
  | .run | .standby => true
  | .enteringSleep => !p.drdyDropped
  | .boot | .sleep | .waking => false

/-- R138: the DRDY output. -/
def State.drdy (s : State) : Bool :=
  s.power.downstreamWorks && decide (s.link.down.length < Config.downCapacity)

/-- R154: the UREADY output. -/
def State.uready (s : State) : Bool := s.power.upstreamWorks && !s.link.up.isEmpty

/-- R141: a held downstream record is reported while the parser is in HELD or the link writer holds a record. -/
def Link.recordHeld (l : Link) : Bool := l.parser.state == .held || l.writer.isSome

/-- R197: the parser is at a record boundary: in HUNT, or in HEADER with no byte of a new header taken. -/
def Parser.atBoundary (p : Parser) : Bool :=
  p.state == .hunt || (p.state == .header && p.header.isEmpty)

/-- R152: the entries the event queue holds. -/
def Link.eventCount (l : Link) : Nat := l.events.length + (if l.overflow.isSome then 1 else 0)

/-- R141: the condition under which a data record is handed on. -/
def State.takesData (s : State) : Bool := s.power.downstreamWorks && s.link.writer.isNone

/-- R141: the condition under which QUERY POOL and QUERY STATUS are handed on. -/
def State.takesQuery (s : State) : Bool :=
  s.power.downstreamWorks && decide (s.link.replies.length < Config.replyCapacity)

/-- R141: the condition under which any other command, and a BAD_RECORD answer, is handed on. -/
def State.takesCommand (s : State) : Bool := s.takesQuery && s.link.writer.isNone

/-! ### Power -/

/-- R181: no job is active. -/
def State.noJob (s : State) : Bool :=
  s.scan.isIdle && s.print.isIdle && s.link.reads.isEmpty && s.motS.atRest && s.motP.atRest

/-- R195: the machine is quiescent. -/
def State.quiescent (s : State) : Bool := s.noJob && !s.link.recordHeld

/-- R192: the conditions under which the standby timer runs. -/
def State.standbyConditions (s : State) : Bool :=
  s.power.state == .run && s.scan.isIdle && s.print.isIdle && s.link.reads.isEmpty &&
    s.motS.state == .off && s.motP.state == .off && s.power.sleepPending.isNone

/-- R204: boot may end: the outcome is known, the inputs have settled and INIT is complete. -/
def State.bootComplete (s : State) : Bool :=
  s.power.state == .boot && !s.power.por && s.power.boot.outcome.isSome && s.mon.settled && s.dram.state != .init

/-! ### The sensor's outputs (R55) -/

/-- R55: the line timing generator makes clocks, while a readout is in progress, an aborted job's one in a gated power
state included (log entry 49). -/
def ScanUnit.clocking (u : ScanUnit) : Bool := !u.readouts.isEmpty || (u.calibration.bind (·.readoutEnds)).isSome

/-- R55: the sensor start pulse, asserted during clocks 0 to SYNC_WIDTH − 1 of a readout. -/
def State.startPulse (s : State) : Bool := s.scan.clocking && s.scan.syncEnds.any fun e => decide (s.now < e)

/-! ### The RAS outputs of the DRAM (R26, R33, R34, R37) -/

/-- R33: a refresh cycle is in progress. -/
def Dram.refreshing (d : Dram) : Bool :=
  match d.current with
  | some (.refresh _) => true
  | _ => false

/-- R34: the table holds a row of bank k, whose RAS line is held active. -/
def Dram.holdsRow (d : Dram) (k : Nat) : Bool := d.rowHold.any fun e => e.1 == k

/-- Whether line RAS k is asserted. R26: in INIT none is while power-on reset is asserted and for 200 µs from its release, and all
four are in the eight refresh cycles that end it, 32 units in all. R37: after INIT only lines 0 to BANKS − 1 are used; R33: a refresh
asserts them, and at other times in ACTIVE those of the held rows are active (2.4). R39: the entry to self-refresh goes to the same
lines. Log entry 38: the line's level stands for the whole of a cycle, it stays asserted in SR_ENTRY and SELF_REFRESH, and is
inactive in SR_EXIT. -/
def Dram.ras (now : Nat) (d : Dram) (k : Fin 4) : Bool :=
  match d.state with
  | .init => d.stateEnds.any fun e => decide (e ≤ now + 32)
  | .active => decide (k.val < d.banks) && (d.refreshing || d.holdsRow k)
  | .srEntry | .selfRefresh => decide (k.val < d.banks)
  | .srExit => false

/-- The RAS0 to RAS3 outputs. -/
def State.ras (s : State) (k : Fin 4) : Bool := s.dram.ras s.now k

/-! ### Strobe outputs (R100) -/

/-- The groups whose STB outputs are on: those of the current phase while the sequencer is in PULSE. -/
def PrintUnit.strobing (u : PrintUnit) : List Nat :=
  match u.seq, u.strobe with
  | .pulse, some r => ((r.phases[u.seqPhase]?).map (·.groups)).getD []
  | _, _ => []

end Sys2Proof.Machine
end

