-- ==== Sys2Proof/Machine/Arbiter.lean ====
section
/-! DEFINITION. The Page Memory Controller (02_page_memory_controller.md): row-hold table, arbiter, refresh, self-refresh. -/

namespace Sys2Proof.Machine

/-! ### Where a line or byte lies (R1) -/

/-- R1: the bank of a band. -/
def bandBank (b : Band) : Nat := b.val / Config.bandsPerBank

/-- R1: the row of line slot l of a band. -/
def slotRow (b : Band) (l : Nat) : Nat := b.val % Config.bandsPerBank * 8 + l / 4

/-- R1: the starting column of line slot l. -/
def slotCol (l : Nat) : Nat := l % 4 * 256

/-- R1: the row of byte o of a band. -/
def byteRow (b : Band) (o : Nat) : Nat := b.val % Config.bandsPerBank * 8 + o / 1024

/-- R1: the column of byte o of a band. -/
def byteCol (o : Nat) : Nat := o % 1024

/-- The DRAM address of a bank, row and column. -/
def dramAddress (bank row col : Nat) : Nat := bank * Config.bankBytes + row * 1024 + col

/-- The DRAM address a request starts at. -/
def Request.address (r : Request) : Nat := dramAddress r.bank r.row r.col

/-! ### Row-hold table (R34, R35) -/

/-- R34: the four cases of a transfer's row access. -/
inductive RowCase where
  | hit
  | otherRow
  | freeEntry
  | tableFull
deriving DecidableEq, Repr

/-- R34: the case that applies to a bank and row. -/
def rowCase (table : List (Nat × Nat)) (bank row : Nat) : RowCase :=
  match table.find? (·.1 == bank) with
  | some e => if e.2 = row then .hit else .otherRow
  | none => if table.length < 3 then .freeEntry else .tableFull

/-- R29: the setup time of each case, in units of 50 ns. -/
def RowCase.setup : RowCase → Nat
  | .hit => 0
  | .otherRow => 4
  | .freeEntry => 2
  | .tableFull => 3

/-- R34: the table after the access. -/
def rowTable (table : List (Nat × Nat)) (bank row : Nat) : List (Nat × Nat) :=
  match rowCase table bank row with
  | .hit | .otherRow => table.filter (·.1 != bank) ++ [(bank, row)]
  | .freeEntry => table ++ [(bank, row)]
  | .tableFull => table.drop 1 ++ [(bank, row)]

/-- R36: a counter stops at 65535. -/
def count16 (n : Nat) : Nat := min 65535 (n + 1)

/-- R34: the table and the counters at the start of a transfer. -/
def Dram.openRow (bank row : Nat) (d : Dram) : Dram :=
  let c := rowCase d.rowHold bank row
  { d with
    rowHold := rowTable d.rowHold bank row
    hits := if c = .hit then count16 d.hits else d.hits
    misses := if c = .hit then d.misses else count16 d.misses
    evictions := if c = .tableFull then count16 d.evictions else d.evictions }

/-- R29: the 16-bit words of n bytes starting at column c. -/
def transferWords (c n : Nat) : Nat := (c + n - 1) / 2 - c / 2 + 1

/-- R29: the duration of a transfer in units of 50 ns: the setup time and one unit a word. -/
def transferTime (table : List (Nat × Nat)) (r : Request) : Nat :=
  (rowCase table r.bank r.row).setup + transferWords r.col r.count

/-! ### The arbiter (R31) -/

/-- R42: while a sleep order is held, requests that arrived after it wait. -/
def Dram.eligible (d : Dram) (r : Request) : Bool := !(d.sleepOrder && r.afterOrder)

/-- The oldest request of a class that may be granted. -/
def Dram.next (d : Dram) (c : ReqClass) : Option Request :=
  d.waiting.find? fun r => r.cls == c && d.eligible r

/-- R29: a request is granted. -/
def Dram.grant (now : Nat) (r : Request) (d : Dram) : Dram :=
  { d.openRow r.bank r.row with
    waiting := d.waiting.eraseP fun q => q.cls == r.cls && d.eligible q
    current := some (.transfer r (now + transferTime d.rowHold r)) }

/-- R33: a refresh is granted: the debt falls and the row-hold table is emptied; the cycle takes 0.20 µs. -/
def Dram.grantRefresh (now : Nat) (d : Dram) : Dram :=
  { d with debt := d.debt - 1, rowHold := [], current := some (.refresh (now + 4)) }

/-- R37: a held change of BANKS is applied. -/
def Dram.applyBanks (d : Dram) : Dram :=
  match d.heldBanks with
  | some b => { d with banks := b, heldBanks := none, rowHold := [] }
  | none => d

/-- R39: SR_ENTRY begins: debt 0, tick counting stopped, the row-hold table emptied; it takes 0.20 µs. -/
def Dram.beginEntry (now : Nat) (c : SrCause) (d : Dram) : Dram :=
  { d with
    state := .srEntry
    stateEnds := some (now + 4)
    cause := some c
    debt := 0
    nextTick := none
    rowHold := []
    autoTimer := none
    autoDue := false
    sleepOrder := false }

/-- R31, R37, R38, R42: the decision made whenever the controller is ACTIVE with nothing in progress: a held BANKS change,
a self-refresh entry that waited for this moment, or the first grant of the order of classes. -/
def Dram.arbitrate (now : Nat) (d0 : Dram) : Dram :=
  if d0.state ≠ .active ∨ d0.current.isSome then d0
  else
    let d := d0.applyBanks
    if d.sleepOrder ∧ d.waiting.all (fun r => !d.eligible r) then d.beginEntry now .sleep
    else if d.autoDue then d.beginEntry now .auto
    else if d.debt = 4 then d.grantRefresh now
    else
      match d.next .scanWrite with
      | some r => d.grant now r
      | none =>
        match d.next .printFetch with
        | some r => d.grant now r
        | none =>
          if 0 < d.debt then d.grantRefresh now
          else
            match d.next .linkWrite with
            | some r => d.grant now r
            | none =>
              match d.next .linkRead with
              | some r => d.grant now r
              | none => d

/-- R41: SR_EXIT starts and takes SR_EXIT_TIME µs. -/
def Dram.beginExit (now exitTime : Nat) (d : Dram) : Dram :=
  { d with state := .srExit, stateEnds := some (now + Config.us exitTime), exitAsked := false }

/-- R27, R38, R40: a request arrives. It joins its class and stops the auto self-refresh timer; in ACTIVE it may be
granted at once, and in SELF_REFRESH with cause AUTO it starts an exit. -/
def Dram.submit (now exitTime : Nat) (r : Request) (d : Dram) : Dram :=
  let d := { d with waiting := d.waiting ++ [{ r with afterOrder := d.sleepOrder }], autoTimer := none }
  match d.state with
  | .active => d.arbitrate now
  | .selfRefresh => if d.cause = some .auto then d.beginExit now exitTime else d
  | .init | .srEntry | .srExit => d

/-- R30: the waiting requests of a class are withdrawn. -/
def Dram.withdraw (c : ReqClass) (d : Dram) : Dram :=
  { d with waiting := d.waiting.filter (·.cls != c) }

/-- R6, R29: the completion of the transfer in progress is no longer wanted, if it is one of these. -/
def Dram.disown (p : Request → Bool) (d : Dram) : Dram :=
  match d.current with
  | some (.transfer r e) => if p r then { d with current := some (.transfer { r with live := false } e) } else d
  | _ => d

/-- R38: whether a transfer is in progress; a refresh does not count. -/
def Dram.transferring (d : Dram) : Bool :=
  match d.current with
  | some (.transfer _ _) => true
  | _ => false

/-- R38: the auto self-refresh timer starts, if the power state is STANDBY, the controller is ACTIVE, no request waits
or is in transfer and AUTO_SR_DELAY is not 0. -/
def Dram.startAuto (now delay : Nat) (standby : Bool) (d : Dram) : Dram :=
  if standby ∧ d.state = .active ∧ d.waiting.isEmpty ∧ d.transferring = false ∧ d.sleepOrder = false ∧
      d.autoDue = false ∧ delay ≠ 0 then
    { d with autoTimer := some (now + Config.ms delay) }
  else d

/-- The transfer or refresh in progress has ended, and the arbiter makes its next decision (R31). -/
def Dram.finish (now : Nat) (d : Dram) : Dram := Dram.arbitrate now { d with current := none }

/-- R38: the auto self-refresh timer expires: SR_ENTRY begins, at the end of a refresh in progress. -/
def Dram.autoExpired (now : Nat) (d : Dram) : Dram :=
  let d := { d with autoTimer := none, autoDue := true }
  d.arbitrate now

/-- R43: the order to leave self-refresh at RUN entry. In ACTIVE the timer stops, and an entry that R38 has put off to the end of a
refresh is dropped with it (log entry 40). -/
def Dram.runEntry (now exitTime : Nat) (d : Dram) : Dram :=
  let d := { d with autoTimer := none, autoDue := false }
  match d.state, d.cause with
  | .selfRefresh, some .auto => d.beginExit now exitTime
  | .srEntry, some .auto => { d with exitAsked := true }
  | _, _ => d

/-- R43: the wake order. -/
def Dram.wake (now exitTime : Nat) (d : Dram) : Dram :=
  if d.state = .selfRefresh ∧ d.cause = some .sleep then
    { d.beginExit now exitTime with wakeExit := true }
  else d

/-- R42: the sleep order. In ACTIVE and in SR_EXIT it is held; auto self-refresh takes the cause SLEEP. An entry that R38 has put off
to the end of a refresh gives way to the order (log entry 40). -/
def Dram.order (now : Nat) (d : Dram) : Dram :=
  let d := { d with autoTimer := none, autoDue := false }
  match d.state with
  | .active => Dram.arbitrate now { d with sleepOrder := true }
  | .srExit => { d with sleepOrder := true }
  | .srEntry | .selfRefresh => { d with cause := some .sleep, exitAsked := false }
  | .init => d

/-- R39, R198: SELF_REFRESH with cause SLEEP, the state the controller reports. -/
def Dram.asleep (d : Dram) : Bool := d.state == .selfRefresh && d.cause == some .sleep

/-- R39: SR_ENTRY ends in SELF_REFRESH; with cause AUTO and a request waiting, or an exit asked, SR_EXIT starts at once. -/
def Dram.entryEnd (now exitTime : Nat) (d : Dram) : Dram :=
  let d := { d with state := .selfRefresh, stateEnds := none }
  if d.cause = some .auto ∧ (d.waiting ≠ [] ∨ d.exitAsked) then d.beginExit now exitTime else d

/-- R26, R41: ACTIVE is entered: debt 0, table empty, cause none, ticks counted from now, a held BANKS change applied,
and the arbiter's decision made. -/
def Dram.enterActive (now interval : Nat) (d : Dram) : Dram :=
  Dram.arbitrate now
    { d with
      state := .active
      stateEnds := none
      cause := none
      debt := 0
      rowHold := []
      nextTick := some (now + Config.us interval)
      exitAsked := false
      wakeExit := false }

/-- R32: a refresh tick: the debt rises, or at 4 an overrun is counted; the next tick falls REFRESH_INTERVAL µs later. -/
def Dram.tick (now interval : Nat) (d : Dram) : Dram :=
  Dram.arbitrate now
    { d with
      debt := min 4 (d.debt + 1)
      overruns := if 4 ≤ d.debt then count16 d.overruns else d.overruns
      nextTick := some (now + Config.us interval) }

/-- R59: the transfer in progress no longer holds a line slot. -/
def Dram.slotless (d : Dram) : Dram :=
  match d.current with
  | some (.transfer r e) => { d with current := some (.transfer { r with slot := none } e) }
  | _ => d

/-- R44: a warm reset: every waiting request is withdrawn, the transfer in progress is no longer wanted and holds no line slot
(R70), and a held sleep order is dropped; the rest is kept. -/
def Dram.warmReset (d : Dram) : Dram :=
  { (d.disown fun _ => true).slotless with waiting := [], sleepOrder := false }

/-- R37: a load that changes BANKS is taken at once when ACTIVE and idle, and held otherwise. -/
def Dram.changeBanks (b : Nat) (d : Dram) : Dram :=
  if d.state = .active ∧ d.current = none then { d with banks := b, heldBanks := none, rowHold := [] }
  else { d with heldBanks := some b }

/-- R27: a transfer of this class that its requester no longer wants still runs; the class's next request waits for its
end (log entry 19). -/
def Dram.lingering (c : ReqClass) (d : Dram) : Bool :=
  match d.current with
  | some (.transfer r _) => r.cls == c && !r.live
  | _ => false

/-- The unwanted transfer has ended, so that the next request of its class may be made. -/
def Dram.outlived (d : Dram) : Dram :=
  match d.current with
  | some (.transfer r e) => { d with current := some (.transfer { r with live := true } e) }
  | _ => d

/-- The request in transfer, of a class, with its end. -/
def Dram.ending (c : ReqClass) (d : Dram) : Option (Request × Nat) :=
  match d.current with
  | some (.transfer r e) => if r.cls = c then some (r, e) else none
  | _ => none

/-! ### On the whole part -/

/-- R27: a unit brings a request to the controller. -/
def State.submit (s : State) (r : Request) : State :=
  s.withDram (s.dram.submit s.now (s.tables.p Param.srExitTime) r)

/-- R30: a unit withdraws its waiting requests. -/
def State.withdraw (s : State) (c : ReqClass) : State := s.withDram (s.dram.withdraw c)

/-- R6, R29: a unit no longer wants the transfer in progress. -/
def State.disown (s : State) (p : Request → Bool) : State := s.withDram (s.dram.disown p)

/-- The end of the transfer in progress: the arbiter decides, and R38's timer may start. -/
def State.endTransfer (s : State) : State :=
  s.withDram ((s.dram.finish s.now).startAuto s.now (s.tables.p Param.autoSrDelay) (s.power.state == .standby))

end Sys2Proof.Machine
end

