-- ==== Sys2Proof/Machine/Motor.lean ====
section
/-! DEFINITION. The Motor Timing Unit (06_motor_timing.md): moves, coils, the interval decision, stops, hold and halt. -/

namespace Sys2Proof.Machine

/-- The smallest multiple of `step` that is at least n. -/
def roundUp (n step : Nat) : Nat := (n + step - 1) / step * step

/-! ### Coils (R107) -/

/-- R107: the coils are driven to a pattern: those no longer wanted go off at once, those newly wanted wait for the gap. -/
def Channel.drive (t : Tables) (m : Motor) (now : Nat) (pattern : BitVec 4) (c : Channel) : Channel :=
  let newly := pattern &&& ~~~c.coils
  if t.nonoverlap m = 0 ∨ newly = 0#4 then
    { c with coils := pattern, gaps := [] }
  else
    { c with
      coils := c.coils &&& pattern
      gaps := [{ coils := newly, endsAt := now + Config.us (t.nonoverlap m) }] }

/-- R107: the coils that wait for a gap to end. -/
def Channel.waiting (c : Channel) : BitVec 4 := c.gaps.foldl (fun w g => w ||| g.coils) 0#4

/-- A gap put in its place among those that run, in the order of their ends. -/
def insertGap (g : Gap) : List Gap → List Gap
  | [] => [g]
  | x :: xs => if g.endsAt < x.endsAt then g :: x :: xs else x :: insertGap g xs

/-- R107, R185: the held coils of a channel are driven to a new pattern by a load. Coils no longer wanted go off, or wait no longer;
those that wait and are wanted still keep their gap, an interval already begun; and those newly wanted wait for a gap of their
own (log entry 35). -/
def Channel.redrive (t : Tables) (m : Motor) (now : Nat) (pattern : BitVec 4) (c : Channel) : Channel :=
  let newly := pattern &&& ~~~(c.coils ||| c.waiting)
  let kept := (c.gaps.map fun g => { g with coils := g.coils &&& pattern }).filter fun g => g.coils ≠ 0#4
  if t.nonoverlap m = 0 ∨ newly = 0#4 then { c with coils := (c.coils &&& pattern) ||| newly, gaps := kept }
  else
    { c with
      coils := c.coils &&& pattern
      gaps := insertGap { coils := newly, endsAt := now + Config.us (t.nonoverlap m) } kept }

/-- R107: a gap ends and its coils are switched on; the gaps left run on. -/
def Channel.gapOver (g : Gap) (left : List Gap) (c : Channel) : Channel :=
  { c with coils := c.coils ||| g.coils, gaps := left }

/-- R110: the coils are energised to the pattern at the kept phase index. -/
def Channel.energise (t : Tables) (m : Motor) (c : Channel) : Channel :=
  { c with coils := t.phase m c.phase, gaps := [] }

/-- A channel's coils are switched off and it is OFF; phase index, position and index are kept (R119, R123). -/
def Channel.switchOff (c : Channel) : Channel :=
  { c with
    state := .off
    coils := 0#4
    gaps := []
    holdTimer := none
    interval := none
    settleEnds := none
    powerEnds := none }

/-! ### Intervals and moves (R109, R110, R112) -/

/-- R112: the interval to the next step event: the larger of the ramp entry at the index and the floor in force. -/
def Channel.decide (t : Tables) (m : Motor) (now : Nat) (c : Channel) : Channel :=
  let len := max (t.rampAt m c.index) c.floor
  { c with interval := some { length := len, endsAt := now + Config.us len } }

/-- R109, R110: ACCEL is entered and the first interval decided. -/
def Channel.firstInterval (t : Tables) (m : Motor) (now : Nat) (c : Channel) : Channel :=
  Channel.decide t m now { c with state := .accel, settleEnds := none, powerEnds := none, index := 0 }

/-- R110: SETTLE with the coils energised, for the settle time taken at the move request; 0 passes at once. -/
def Channel.beginSettle (t : Tables) (m : Motor) (now : Nat) (c : Channel) : Channel :=
  let c := Channel.energise t m { c with state := .settle, powerEnds := none }
  if c.settleMs = 0 then c.firstInterval t m now
  else { c with settleEnds := some (now + Config.ms c.settleMs) }

/-- R109, R122: a move request is taken, from HOLD into ACCEL or from OFF into SETTLE. `powerMs` is the POWER_SETTLE part
of a FEED taken in STANDBY, during which the coils stay off. -/
def Channel.take (t : Tables) (m : Motor) (now powerMs : Nat) (r : MoveReq) (c : Channel) : Channel :=
  let c1 : Channel :=
    { c with
      owner := r.owner
      move := some (match r.ask with | .open_ => .open_ | .counted _ => .counted)
      steps := r.steps
      cruise := min r.cruise (t.rampLength m - 1)
      index := 0
      remaining := match r.ask with | .open_ => none | .counted n => some (roundUp n r.steps)
      position := 0
      floor := r.floor
      stop := .nostop
      held := none
      holdTimer := none
      halfStep := t.stepMode m == 1
      settleMs := t.settleMs m }
  if c.state = .hold then c1.firstInterval t m now
  else if powerMs = 0 then c1.beginSettle t m now
  else { c1 with state := .settle, powerEnds := some (now + Config.ms powerMs) }

/-- R109: a move request is taken at rest, and held behind a FEED move. -/
def Channel.request (t : Tables) (m : Motor) (now powerMs : Nat) (r : MoveReq) (c : Channel) : Channel :=
  if c.atRest then c.take t m now powerMs r
  else if c.owner = .feed then { c with held := some r }
  else c

/-- R119: the hold timer starts; a HOLD_TIME of 0 expires at once. -/
def Channel.startHold (t : Tables) (m : Motor) (now : Nat) (c : Channel) : Channel :=
  if t.holdTime m = 0 then c.switchOff
  else { c with holdTimer := some (now + Config.ms (10 * t.holdTime m)) }

/-! ### A step event (R111) -/

/-- R111 steps 1 and 2: the phase and coils advance, then the position and the remaining count. -/
def Channel.advance (t : Tables) (m : Motor) (now : Nat) (c : Channel) : Channel :=
  let phase := (c.phase + (if c.halfStep then 1 else 2)) % 8
  let c := Channel.drive t m now (t.phase m phase) { c with phase := phase }
  { c with position := (c.position + 1) % c.steps, remaining := c.remaining.map (· - 1) }

/-- R115: the event is counted as position 0, in an OPEN move with no stop. -/
def Channel.align (c : Channel) : Channel :=
  if c.move = some .open_ ∧ c.stop = .nostop then { c with position := 0 } else c

/-- R116: the move becomes counted with r step events still to come, raised by multiples of S to the index. -/
def Channel.countTo (r : Nat) (c : Channel) : Channel :=
  { c with
    move := some .counted
    stop := .nostop
    remaining := some (if r < c.index then r + roundUp (c.index - r) c.steps else r) }

/-- R117: the smallest count, at least the index, that ends at position 0. -/
def Channel.stopCount (c : Channel) : Nat :=
  c.index + (c.steps - (c.position + c.index) % c.steps) % c.steps

/-- R117: a PENDING stop is taken. -/
def Channel.takeStop (c : Channel) : Channel :=
  { c with
    stop := .taken
    move := some .counted
    remaining := some (match c.remaining with
      | some r => min r c.stopCount
      | none => c.stopCount) }

/-- R113, R114: the new index and the state it gives. -/
def Channel.nextIndex (c : Channel) : Nat × ChanState :=
  match c.remaining with
  | none => if c.index < c.cruise then (c.index + 1, .accel) else (c.index, .run)
  | some r =>
    if r ≤ c.index then (c.index - 1, .decel)
    else if c.index + 2 ≤ r ∧ c.index < c.cruise then (c.index + 1, .accel)
    else (c.index, .run)

/-- R111 step 6, R112: the index is decided and then the interval. -/
def Channel.goOn (t : Tables) (m : Motor) (now : Nat) (c : Channel) : Channel :=
  Channel.decide t m now { c with index := c.nextIndex.1, state := c.nextIndex.2 }

/-- R118: the channel comes to rest in HOLD with index 0. -/
def Channel.rest (c : Channel) : Channel :=
  { c with
    state := .hold
    index := 0
    move := none
    remaining := none
    stop := .nostop
    interval := none
    settleEnds := none
    powerEnds := none }

/-! ### Stop requests and halts (R117, R120) -/

/-- R110, R117: a stop request from an owner; true when the owner is to be told at once that its channel is at rest. A stop in
SETTLE leaves the channel in HOLD, and its hold timer starts once the owner has been told (R119). -/
def Channel.askStop (own : Owner) (c : Channel) : Channel × Bool :=
  if c.held.any (·.owner == own) then ({ c with held := none }, true)
  else if c.owner ≠ own then (c, false)
  else
    match c.state with
    | .off | .hold => (c, false)
    | .settle => ({ c.rest with position := 0 }, true)
    | .accel | .run | .decel => ({ c with stop := if c.stop = .nostop then .pending else c.stop }, false)

/-- R120: an immediate halt. The ramp index, position, remaining count and phase index are kept. -/
def Channel.halt (c : Channel) : Channel :=
  if c.state = .off then c
  else
    { c.switchOff with move := none, stop := .nostop, held := none }

/-- R124: a warm reset halts the channel and clears its owner, floor, move, count and timer. S and the cruise index, of which
R124 says nothing, keep their values (log entry 32). -/
def Channel.warmReset (c : Channel) : Channel :=
  { c.halt with owner := .nobody, floor := 0, move := none, remaining := none, held := none, holdTimer := none }

/-! ### On the whole part -/

/-- R133: a change of DOC_EDGE's sampling mode sets its count to 0 and keeps its level. -/
def Monitor.edgeModeChanged (m : Monitor) : Monitor :=
  let r := m.inputs[Input.docEdge]?.getD InputRec.unsettled
  { m with inputs := m.inputs.setIfInBounds Input.docEdge { r with count := 0, sample := none } }

/-- A channel's record is replaced. DOC_EDGE is in STEP mode while channel S moves (R133). -/
def State.withMot (s : State) (m : Motor) (c : Channel) : State :=
  match m with
  | .s =>
    if s.motS.moving = c.moving then s.withMotS c
    else (s.withMotS c).withMon s.mon.edgeModeChanged
  | .p => s.withMotP c

/-- R109: a move request of a channel. -/
def State.requestMove (s : State) (m : Motor) (powerMs : Nat) (r : MoveReq) : State :=
  s.withMot m ((s.mot m).request s.tables m s.now powerMs r)

/-- R117: a stop request; the flag says that the owner is told of the rest at once. -/
def State.requestStop (s : State) (m : Motor) (own : Owner) : State × Bool :=
  let r := (s.mot m).askStop own
  (s.withMot m r.1, r.2)

/-- R110, R119: after its owner has been told of the rest that a stop in SETTLE made, a channel still in HOLD starts its hold
timer. -/
def State.holdAfterRest (s : State) (m : Motor) : State :=
  let c := s.mot m
  if c.state = .hold ∧ c.holdTimer = none then s.withMot m (c.startHold s.tables m s.now) else s

/-- R120: a cover opening halts both channels. -/
def State.haltBoth (s : State) : State :=
  (s.withMot .s s.motS.halt).withMot .p s.motP.halt

/-- R124: a warm reset of both channels. -/
def State.resetBoth (s : State) : State :=
  (s.withMot .s s.motS.warmReset).withMot .p s.motP.warmReset

/-- R123: entry to STANDBY or sleep entry forces both channels OFF. -/
def State.offBoth (s : State) : State :=
  (s.withMot .s s.motS.switchOff).withMot .p s.motP.switchOff

end Sys2Proof.Machine
end

