-- ==== Sys2Proof/Machine/Bands.lean ====
section
/-! DEFINITION. Page memory shared among its users (01_page_store.md): where a line or byte lies, grants, the scan's line slots
and memory stalls (03), the link writer's pieces (08.4), release and consumption. -/

namespace Sys2Proof.Machine

/-! ### Finding a line or byte (R2) -/

/-- R2: the band that holds line k. -/
def PageRec.bandOfLine (r : PageRec) (k : Nat) : Option Band :=
  if r.base ≤ k then r.chain[k / 32 - r.base / 32]? else none

/-- R2: the band that holds byte k. -/
def PageRec.bandOfByte (r : PageRec) (k : Nat) : Option Band :=
  if r.base ≤ k then r.chain[k / 8192 - r.base / 8192]? else none

/-- R28: a line transfer: w/8 bytes at the slot of line k. -/
def lineRequest (cls : ReqClass) (p k width : Nat) (b : Band) (data : List Byte) (slot : Option SlotId) : Request where
  cls := cls
  bank := bandBank b
  row := slotRow b (k % 32)
  col := slotCol (k % 32)
  count := width / 8
  data := data
  page := p
  index := k
  slot := slot
  live := true
  afterOrder := false

/-- R28: a piece of n bytes at page offset k. -/
def pieceRequest (cls : ReqClass) (p k n : Nat) (b : Band) (data : List Byte) : Request where
  cls := cls
  bank := bandBank b
  row := byteRow b (k % 8192)
  col := byteCol (k % 8192)
  count := n
  data := data
  page := p
  index := k
  slot := none
  live := true
  afterOrder := false

/-- R28: from offset k, the bytes up to the next multiple of 256, at most n. -/
def pieceSize (k n : Nat) : Nat := min (256 - k % 256) n

/-! ### Grants (R9) -/

/-- R9: a grant takes the head of the free list and appends it to the page's chain as its filling band. Bands are granted to
an OPEN page only. -/
def State.grantBand (s : State) (p : Nat) : State :=
  match s.store.freeList with
  | [] => s
  | b :: rest =>
    if (s.page p).state = .opened then
      (s.withStore { s.store with freeList := rest }).withPage p
        { s.page p with chain := (s.page p).chain ++ [b], filling := true }
    else s

/-! ### The Scan Unit's slots (R59, R60) -/

/-- The Scan Unit with its job record replaced. -/
def State.withJob (s : State) (j : ScanJob) : State := s.withScan { s.scan with job := j }

/-- A line slot replaced. -/
def ScanUnit.withSlot (u : ScanUnit) (i : SlotId) (x : LineSlot) : ScanUnit :=
  match i with
  | .a => { u with slotA := x }
  | .b => { u with slotB := x }

/-- A slot's use changed. -/
def ScanUnit.useSlot (u : ScanUnit) (i : SlotId) (x : SlotUse) : ScanUnit :=
  u.withSlot i { u.slot i with use := x }

/-- R59: a free slot, A before B (log entry 9). -/
def ScanUnit.freeSlot (u : ScanUnit) : Option SlotId :=
  if u.slotA.use = .free then some .a else if u.slotB.use = .free then some .b else none

/-- R59: the list of writes is kept in line index order. -/
def insertWrite (w : ScanWrite) : List ScanWrite → List ScanWrite
  | [] => [w]
  | x :: xs => if w.index < x.index then w :: x :: xs else x :: insertWrite w xs

/-- R55: the readout time in half microseconds: SENSOR_TOTAL clocks of 0.5, 1 or 2 µs. -/
def Tables.readoutHalves (t : Tables) : Nat := t.p Param.sensorTotal * 2 ^ t.p Param.pixelPeriod

/-- R55: the readout time in units of 50 ns. -/
def Tables.readoutTime (t : Tables) : Nat := 10 * t.readoutHalves

/-- R55: the length of the sensor start pulse, clocks 0 to SYNC_WIDTH − 1, in units of 50 ns. -/
def Tables.syncTime (t : Tables) : Nat := 10 * (t.p Param.syncWidth * 2 ^ t.p Param.pixelPeriod)

/-- R56, R103: the scan floor in µs, the ceiling of the exact quotient. -/
def Tables.scanFloor (t : Tables) (steps : Nat) : Nat := (t.readoutHalves + 2 * steps - 1) / (2 * steps)

/-- R51, R55, R60: a capture. Its readout fills a free slot, or with none free the most recent line is given one more
write and the samples are discarded. Nothing is captured at or beyond MAX_DOC_LINES. -/
def State.capture (s : State) : State :=
  let u := s.scan
  let j := u.job
  let p := j.page.getD 0
  let ends := s.now + s.tables.readoutTime
  let sync := some (s.now + s.tables.syncTime)
  if s.tables.p Param.maxDocLines ≤ j.nextLine then s
  else
    match u.freeSlot with
    | some i =>
      s.withScan { u.useSlot i .filling with
        lastSlot := some i
        readouts := u.readouts ++ [{ slot := some i, index := j.nextLine, live := true, endsAt := ends }]
        syncEnds := sync
        job := { j with nextLine := j.nextLine + 1 } }
    | none =>
      ((s.withScan { u with
          readouts := u.readouts ++ [{ slot := none, index := j.nextLine, live := true, endsAt := ends }]
          syncEnds := sync
          writes := insertWrite { index := j.nextLine, slot := u.lastSlot.getD .b, banded := false, requested := false }
            u.writes
          job := { j with nextLine := j.nextLine + 1 } }).withPage p
        { s.page p with repeats := min 255 ((s.page p).repeats + 1) }).raise (.lineRepeated p j.nextLine)

/-- R64: the generator of a PATTERN job starts its next readout, when none is in progress, an aborted job's discarded one
included (log entry 34). -/
def State.nextPatternReadout (s : State) : State :=
  if s.scan.job.source = some .pattern ∧ s.scan.job.state = .capture ∧ s.scan.readouts = [] then s.capture else s

/-- R49, R62: the open move of channel S that a scan job asks for. -/
def State.scanMove (s : State) : MoveReq :=
  let j := s.scan.job
  { owner := .scan
    ask := .open_
    steps := j.steps
    cruise := s.tables.p ((j.resolution.map Resolution.cruiseS).getD Param.cruiseSStd)
    floor := j.floor }

/-! ### Memory stalls (R61, R62, R64) -/

/-- R62, R64: the scan restarts from STALLED. A PATTERN job starts its next readout before SCAN_RESUMED is raised, so that the
LINE_REPEATED of a readout that finds both slots occupied comes first (log entry 44). -/
def State.scanResume (s : State) : State :=
  let j := s.scan.job
  let s1 := s.withJob { j with state := j.resume.getD .capture, resume := none, stepCount := 0 }
  let s2 := if j.source = some .pattern then s1.nextPatternReadout else s1.requestMove .s 0 s1.scanMove
  s2.raise (.scanResumed (j.page.getD 0))

/-- R61, R62: channel S has come to rest while stopping: STALLED, and an immediate restart when "memory available" was
kept. -/
def State.scanStall (s : State) : State :=
  let j := s.scan.job
  let s1 := (s.withJob { j with state := .stalled, stopping := false, availKept := false }).raise
    (.scanStalled (j.page.getD 0))
  if j.availKept then s1.scanResume else s1

/-- R61, R64: "memory low" reaches the Scan Unit. -/
def State.scanMemoryLow (s : State) : State :=
  let j := s.scan.job
  if j.state = .capture ∨ j.state = .tail then
    if j.source = some .pattern then
      (s.withJob { j with state := .stalled, resume := some .capture }).raise (.scanStalled (j.page.getD 0))
    else if j.stopping then s.withJob { j with availKept := false }
    else
      let r := (s.withJob { j with stopping := true, availKept := false, resume := some j.state }).requestStop .s .scan
      if r.2 then r.1.scanStall.holdAfterRest .s else r.1
  else s

/-- R62: "memory available" reaches the Scan Unit. -/
def State.scanMemoryAvailable (s : State) : State :=
  let j := s.scan.job
  if j.state = .stalled then s.scanResume
  else if j.stopping then s.withJob { j with availKept := true }
  else s

/-- R11: after a grant to the scan writer, and when its request finds the list empty: the indicator is set and the
Scan Unit told, if 2 bands or fewer are left and the indicator was clear. -/
def State.lowCheck (s : State) : State :=
  if s.store.freeList.length ≤ 2 ∧ s.store.memoryLow = false then
    (s.withStore { s.store with memoryLow := true }).scanMemoryLow
  else s

/-! ### The list of scan writes (R59) -/

/-- The first write not yet requested. -/
def ScanUnit.nextWrite (u : ScanUnit) : Option ScanWrite := u.writes.find? fun w => !w.requested

/-- The write with this index, changed. -/
def ScanUnit.setWrite (u : ScanUnit) (w : ScanWrite) : ScanUnit :=
  { u with writes := u.writes.map fun x => if x.index = w.index then w else x }

/-- R59, R60: whether a write may be requested: its slot's readout has ended and its slot's previous write has ended. -/
def ScanUnit.mayRequest (u : ScanUnit) (w : ScanWrite) : Bool :=
  (u.slot w.slot).use == .held && !(u.writes.any fun x => x.slot == w.slot && x.requested)

/-- R59: a scan line write is requested of the controller. -/
def State.requestScanWrite (s : State) (w : ScanWrite) : State :=
  let p := s.scan.job.page.getD 0
  let r := s.page p
  match r.bandOfLine w.index with
  | some b =>
    (s.withScan (s.scan.setWrite { w with requested := true })).submit
      (lineRequest .scanWrite p w.index (r.width.getD 0) b (s.scan.slot w.slot).dots (some w.slot))
  | none => s

/-- R9, R59: scan writes are requested strictly in line index order, each new band asked for first. At most two can be
outstanding, so three rounds suffice. The band of a repeated line is asked for once its slot's previous write has ended, as the
write is requested (R60; log entry 50). -/
def State.scanAdvance (s : State) : Nat → State
  | 0 => s
  | n + 1 =>
    match s.scan.nextWrite with
    | none => s
    | some w =>
      if s.scan.mayRequest w = false ∨ s.store.scanWaits then s
      else if w.index % 32 = 0 ∧ w.banded = false then
        match s.store.freeList with
        | [] => (s.withStore { s.store with scanWaits := true }).lowCheck
        | _ :: _ =>
          State.scanAdvance
            (((s.grantBand (s.scan.job.page.getD 0)).withScan
              (s.scan.setWrite { w with banded := true })).lowCheck) n
      else State.scanAdvance (s.requestScanWrite w) n

/-- R9, R12: a waiting scan request is granted once the free list is not empty. -/
def State.grantScanWaiting (s : State) : State :=
  match s.store.scanWaits, s.store.freeList, s.scan.nextWrite with
  | true, _ :: _, some w =>
    let s1 := s.withStore { s.store with scanWaits := false }
    State.scanAdvance
      (((s1.grantBand (s.scan.job.page.getD 0)).withScan (s.scan.setWrite { w with banded := true })).lowCheck) 3
  | _, _, _ => s

/-! ### The link writer's pieces (R144, R145) -/

/-- R9: whether the next line or byte of a record falls in a new band. -/
def LinkJob.needsBand (j : LinkJob) : Bool := if j.isLine then j.next % 32 == 0 else j.next % 8192 == 0

/-- R28: the bytes of the next transfer of a record. -/
def LinkJob.piece (j : LinkJob) : Nat := if j.isLine then j.data.length else pieceSize j.next j.data.length

/-- R144, R145: the link writer requests its next transfer. -/
def State.linkRequest (s : State) : State :=
  match s.link.writer with
  | none => s
  | some j =>
    let r := s.page j.page
    match (if j.isLine then r.bandOfLine j.next else r.bandOfByte j.next) with
    | none => s
    | some b =>
      if s.dram.lingering .linkWrite then s
      else s.submit
        (if j.isLine then lineRequest .linkWrite j.page j.next (r.width.getD 0) b j.data none
         else pieceRequest .linkWrite j.page j.next j.piece b (j.data.take j.piece))

/-- R10, R12: the link writer goes on with its record: it asks for a band where one is needed, which is granted when the
free list holds more bands than the reserve and otherwise begins a pool wait. -/
def State.linkAdvance (s : State) : State :=
  match s.link.writer with
  | none => s
  | some j =>
    if j.needsBand then
      if s.reserve < s.store.freeList.length then (s.grantBand j.page).linkRequest
      else
        s.withStore { s.store with
          poolWait := some { page := j.page, deadline := s.now + Config.tenths (s.tables.p Param.poolWait) } }
    else s.linkRequest

/-- R10, R12: a waiting link writer is granted when the free list holds more bands than the reserve. -/
def State.lookLink (s : State) : State :=
  match s.store.poolWait with
  | none => s
  | some w =>
    if s.reserve < s.store.freeList.length then
      ((s.withStore { s.store with poolWait := none }).grantBand w.page).linkRequest
    else s

/-- R11: with 4 bands or more and the indicator set, it is cleared and the Scan Unit told "memory available". -/
def State.availableCheck (s : State) : State :=
  if s.store.memoryLow ∧ 4 ≤ s.store.freeList.length then
    (s.withStore { s.store with memoryLow := false }).scanMemoryAvailable
  else s

/-- R12: after bands have joined the free list: the scan writer, then the link writer, then the memory-available test. -/
def State.lookWaiting (s : State) : State := s.grantScanWaiting.lookLink.availableCheck

/-- Bands join the tail of the free list. -/
def State.addBands (s : State) (bs : List Band) : State :=
  s.withStore { s.store with freeList := s.store.freeList ++ bs }

/-! ### Release and consumption (R17, R20 to R22) -/

/-- R6: a write in transfer for a page that is closed or released will not be committed. -/
def State.disownWrites (s : State) (p : Nat) : State :=
  s.disown fun r => r.page == p && (r.cls == .scanWrite || r.cls == .linkWrite)

/-- R22: a release: the chain joins the free list tail, the record becomes FREE, PAGE_RELEASED is raised and the waiting
requests are looked at. -/
def State.releasePage (s : State) (p : Nat) : State :=
  let r := s.page p
  ((((s.addBands r.chain).withPage p PageRec.freed).disownWrites p).raise (.pageReleased p r.label)).lookWaiting

/-- R20, R21: the automatic release rules. -/
def PageRec.mayRelease (r : PageRec) : Bool :=
  r.state == .closed && r.printHold == 0 && r.linkHold == 0 &&
    ((r.mode == some .keep && r.retain == some false) || (r.mode == some .stream && decide (r.committed ≤ r.mark)))

/-- R20, R21: the page is released if the rules say so. -/
def State.autoRelease (s : State) (p : Nat) : State :=
  if (s.page p).mayRelease then s.releasePage p else s

/-- R17: lines or bytes in a band. -/
def PageRec.bandUnit (r : PageRec) : Nat := if r.kind = some .block then 8192 else 32

/-- R17: head bands both fully written and fully passed are given back, one at a time, the waiting requests being looked at
after each (R12). The chain's length bounds the repetition. R18: a page with consumer none keeps its chain, at a commit
behind its mark as well (log entry 39). -/
def State.consume (s : State) (p : Nat) : Nat → State
  | 0 => s
  | n + 1 =>
    let r := s.page p
    match r.chain with
    | [] => s
    | b :: rest =>
      if r.mode = some .stream ∧ r.consumer ≠ none ∧ r.base + r.bandUnit ≤ r.mark ∧ r.base + r.bandUnit ≤ r.committed then
        State.consume
          (((s.withPage p { r with chain := rest, base := r.base + r.bandUnit }).addBands [b]).lookWaiting) p n
      else s

/-- R17: every head band that may be consumed is. -/
def State.consumeAll (s : State) (p : Nat) : State := s.consume p (s.page p).chain.length

/-- R16, R17, R21: a consumer reports a position: the mark rises to it, bands are consumed, and the release is tested. -/
def State.raiseMark (s : State) (p pos : Nat) : State :=
  let s1 := s.withPage p { s.page p with mark := max (s.page p).mark pos }
  (s1.consumeAll p).autoRelease p

end Sys2Proof.Machine
end

