-- ==== Sys2Proof/Machine/ReadQueue.lean ====
section
/-! DEFINITION. The link read queue (08.5): records begun, transfers ended, records placed, entries completed. -/

namespace Sys2Proof.Machine

/-- The link with its read buffer replaced. -/
def State.withReadBuf (s : State) (b : ReadBuf) : State := s.withLink { s.link with readBuf := b }

/-- The link read queue replaced. -/
def State.withReads (s : State) (es : List ReadEntry) : State := s.withLink { s.link with reads := es }

/-- R15, R18: a reader of a kind leaves a page: its hold falls by 1, and a STREAM page's consumer becomes none. -/
def State.dropHold (s : State) (p : Nat) (k : Reader) : State :=
  let r := s.page p
  s.withPage p
    { r with
      printHold := if k = .print then r.printHold - 1 else r.printHold
      linkHold := if k = .link then r.linkHold - 1 else r.linkHold
      consumer := if r.mode = some .stream then none else r.consumer }

/-- R15, R16: a reader of a kind joins a page: its hold rises by 1, and it becomes a STREAM page's consumer with the
consume mark at its start. -/
def State.addHold (s : State) (p : Nat) (k : Reader) (start : Nat) : State :=
  let r := s.page p
  s.withPage p
    { r with
      printHold := if k = .print then r.printHold + 1 else r.printHold
      linkHold := if k = .link then r.linkHold + 1 else r.linkHold
      consumer := if r.mode = some .stream then some k else r.consumer
      mark := if r.mode = some .stream then start else r.mark }

/-- R150: the short flag of READ_DONE at a completion. -/
def ReadEntry.short (e : ReadEntry) : Bool := e.count != 0 && decide (e.placed < e.count)

/-- R150: the active entry completes: it leaves the queue, its hold is removed, READ_DONE is raised and the release is
tested. -/
def State.completeRead (s : State) : State :=
  match s.link.reads with
  | [] => s
  | e :: rest =>
    ((((s.withReads rest).dropHold e.page .link).raise (.readDone e.page e.placed e.short))).autoRelease e.page

/-- R149: the end of the extent of a record of a BLOCK page: the next multiple of 512, or start + count. -/
def ReadEntry.extentEnd (e : ReadEntry) : Nat :=
  let next := (e.cursor / 512 + 1) * 512
  if e.count = 0 then next else min next (e.start + e.count)

/-- R148, R149: the next transfer of the record in the read buffer is requested, and the cursor rises past it. With an
unwanted link read still in transfer it is made at that transfer's end (log entry 19). -/
def State.requestReadPiece (s : State) : State :=
  match s.link.reads with
  | [] => s
  | e :: rest =>
    let b := s.link.readBuf
    let r := s.page e.page
    let k := b.first + b.data.length
    let n := pieceSize k (b.stop - k)
    let s1 := s.withReads ({ e with cursor := if b.isLine then b.first + 1 else k + n } :: rest)
    if s.dram.lingering .linkRead then s1
    else
      match (if b.isLine then r.bandOfLine b.first else r.bandOfByte k) with
      | none => s1
      | some band =>
        s1.submit
          (if b.isLine then lineRequest .linkRead e.page b.first (r.width.getD 0) band [] none
           else pieceRequest .linkRead e.page k n band [])

/-- R147: the read buffer FILLING with a record that runs from `first` to `stop`. -/
def ReadBuf.begin (isLine : Bool) (page first stop : Nat) : ReadBuf where
  status := .filling
  isLine := isLine
  page := page
  first := first
  stop := stop
  data := []

/-- R148, R149: the active entry begins its next record when the read buffer is EMPTY: it requests it, waits for the page's
writer, or completes, and then the next entry is active. The queue's length bounds the repetition. -/
def State.readBegin (s : State) : Nat → State
  | 0 => s
  | n + 1 =>
    match s.link.reads with
    | [] => s
    | e :: _ =>
      let r := s.page e.page
      if s.link.readBuf.status ≠ .empty then s
      else if r.kind = some .block then
        if e.extentEnd ≤ r.committed then
          (s.withReadBuf (ReadBuf.begin false e.page e.cursor e.extentEnd)).requestReadPiece
        else if r.state = .opened then s
        else if e.cursor < r.committed then
          (s.withReadBuf (ReadBuf.begin false e.page e.cursor r.committed)).requestReadPiece
        else State.readBegin s.completeRead n
      else if e.cursor < r.committed then
        (s.withReadBuf (ReadBuf.begin true e.page e.cursor (e.cursor + 1))).requestReadPiece
      else if r.state = .opened then s
      else State.readBegin s.completeRead n

/-- The active entry works on, whatever the queue holds. -/
def State.readOn (s : State) : State := s.readBegin (s.link.reads.length + 1)

/-- R148, R149: a wanted link read ends with its bytes: the next piece is requested, or the record is whole and waits for
the upstream assembler. -/
def State.readPieceEnded (s : State) (bytes : List Byte) : State :=
  let b := s.link.readBuf
  let b1 := { b with data := b.data ++ bytes }
  if b.isLine = false ∧ b.first + b1.data.length < b.stop then (s.withReadBuf b1).requestReadPiece
  else (s.withReadBuf { b1 with status := .waiting }).choose

/-- R150: the lines or bytes of the record in the read buffer. -/
def ReadBuf.size (b : ReadBuf) : Nat := b.stop - b.first

/-- R150: the active entry's record has been placed upstream: placed rises, a STREAM page's consumer reports, the entry may
complete, and the next record is begun. -/
def State.readPlaced (s : State) : State :=
  match s.link.reads with
  | [] => s.withReadBuf ReadBuf.none
  | e :: rest =>
    let b := s.link.readBuf
    let e1 := { e with placed := e.placed + b.size }
    let s1 := (s.withReads (e1 :: rest)).withReadBuf ReadBuf.none
    let s2 := if (s.page e.page).mode = some .stream then s1.raiseMark e.page b.stop else s1
    (if e.count ≠ 0 ∧ e.count ≤ e1.placed then s2.completeRead else s2).readOn

/-- R151: one matching entry's departure: its hold is removed, READ_DONE is raised with the short flag set, and the release
is tested. -/
def State.dropRead (s : State) (e : ReadEntry) : State :=
  ((s.dropHold e.page .link).raise (.readDone e.page e.placed true)).autoRelease e.page

/-- R151: the departures of a list of entries, in order, the release test of each before the READ_DONE of the next (log entry
46). -/
def State.dropReads (s : State) : List ReadEntry → State
  | [] => s
  | e :: es => (s.dropRead e).dropReads es

/-- R151: whether an entry's page matches the page field of a cancellation. -/
def matchesPage (field : Nat) (p : Nat) : Bool := field == 0xFF || field == p

/-- R151: the active entry's record is given up: a waiting link read is withdrawn, one in transfer is no longer wanted, and
the read buffer becomes EMPTY. -/
def State.abandonRecord (s : State) : State :=
  let s1 := (s.withdraw .linkRead).disown fun r => r.cls == .linkRead
  s1.withLink { s1.link with
    readBuf := ReadBuf.none
    chosen := if s1.link.chosen = some .data then none else s1.link.chosen }

/-- R151: every matching entry leaves the queue, in queue order. -/
def State.cancelReads (s : State) (field : Nat) : State :=
  let es := s.link.reads
  let gone := es.filter fun e => matchesPage field e.page
  let s1 := if (es.head?.map fun e => matchesPage field e.page) = some true then s.abandonRecord else s
  ((((s1.withReads (es.filter fun e => !matchesPage field e.page)).choose).dropReads gone)).readOn

end Sys2Proof.Machine
end

