-- ==== Sys2Proof/Machine/Strobe.lean ====
section
/-! DEFINITION. Strobe and step arithmetic (05) and the placement of a line on the head (R77): pure functions. -/

namespace Sys2Proof.Machine

/-- The ceiling of a quotient. -/
def ceilDiv (a b : Nat) : Nat := (a + b - 1) / b

/-! ### Placement and dot counts (R76, R77, R92) -/

/-- R77: a page line's bytes on a head of H dots: centred when narrower, cropped when wider. The offset o is a multiple
of 8 dots. -/
def placeLine (H w : Nat) (line : List Byte) : List Byte :=
  if w < H then
    let o := (H - w) / 16
    List.replicate o 0#8 ++ line ++ List.replicate (H / 8 - o - w / 8) 0#8
  else (line.drop ((w - H) / 16)).take (H / 8)

/-- The black dots of a byte. -/
def blackDots (b : Byte) : Nat := (List.range 8).countP fun i => b.getLsbD i

/-- The black dots of a list of bytes. -/
def blackCount : List Byte → Nat
  | [] => 0
  | b :: bs => blackDots b + blackCount bs

/-- R92: the dot counts c0 to c7 of a line on a head of H dots, in groups of H / 8 dots. -/
def dotCounts (H : Nat) (dots : List Byte) : List Nat :=
  (List.range 8).map fun g => blackCount ((dots.drop (g * (H / 64))).take (H / 64))

/-! ### Phases (R93, R94) -/

/-- R93: the effective dot budget. -/
def effectiveBudget (H budget : Nat) : Nat := min (max budget (H / 8)) H

/-- R94: a group joins the phase last opened or opens a new one. -/
def joinPhase (d : Nat) (phases : List StrobePhase) (g c : Nat) : List StrobePhase :=
  match phases.getLast? with
  | some p =>
    if p.dots + c ≤ d then phases.dropLast ++ [{ groups := p.groups ++ [g], dots := p.dots + c }]
    else phases ++ [{ groups := [g], dots := c }]
  | none => [{ groups := [g], dots := c }]

/-- R94: the groups from number g on are packed in ascending order; a group without a black dot belongs to none. -/
def packFrom (d g : Nat) (phases : List StrobePhase) : List Nat → List StrobePhase
  | [] => phases
  | c :: cs => packFrom d (g + 1) (if c = 0 then phases else joinPhase d phases g c) cs

/-- R94: the phases of a line. -/
def packPhases (d : Nat) (counts : List Nat) : List StrobePhase := packFrom d 0 [] counts

/-! ### Pulse width and floor (R95 to R98) -/

/-- R95: the temperature band index. -/
def tempIndex (ch : AnalogRec) : Nat := if ch.valid then ch.value / 16 else 15

/-- R96: the supply reading used. -/
def supplyUsed (t : Tables) (ch : AnalogRec) : Nat := if ch.valid then ch.value else t.p Param.vnom

/-- R96: the supply correction, truncated toward zero. -/
def supplyCorrection (vnom v slope : Nat) : Int := Int.tdiv (((vnom : Int) - v) * slope) 16

/-- R97: the pulse width, the base width and the correction held between min(WMIN, WMAX) and WMAX. -/
def pulseWidth (base : Nat) (corr : Int) (wmin wmax : Nat) : Nat :=
  clampTo (min wmin wmax) wmax ((base : Int) + corr).toNat

/-- R98: the line floor: the larger of the line time and H / 4 µs, over S, rounded up. -/
def lineFloor (H S lineTime : Nat) : Nat := ceilDiv (max lineTime (H / 4)) S

/-- R79, R98: the shift floor. -/
def shiftFloor (H S : Nat) : Nat := lineFloor H S 0

/-- R91, R98: the line strobe record made at a latch, from the tables and the readings of channels 0 and 1 that stand at the
latch (R102). -/
def strobeRecord (t : Tables) (ch0 ch1 : AnalogRec) (S line printing : Nat) (counts : List Nat) : StrobeRec :=
  let H := t.p Param.headWidth
  let d := effectiveBudget H (t.p Param.dotBudget)
  let phases := packPhases d counts
  let v := supplyUsed t ch1
  let w := pulseWidth (t.headTemp[tempIndex ch0]?.getD 0) (supplyCorrection (t.p Param.vnom) v (t.p Param.vslope))
    (t.p Param.wmin) (t.p Param.wmax)
  let tr := t.p Param.recovery
  let time := phases.length * (w + tr)
  { line := line
    printing := printing
    counts := counts
    dEff := d
    phases := phases
    temp := tempIndex ch0
    supply := v
    width := w
    recovery := tr
    lineTime := time
    floor := lineFloor H S time }

/-! ### Follow levels (R80, R82) -/

/-- R80: the stop length in printed lines for a cruise index. -/
def stopLength (c S : Nat) : Nat := ceilDiv (c + S - 1) S + 1

/-- R80: the stop level in stored lines. -/
def stopLevel (c S R : Nat) : Nat := ceilDiv (stopLength c S) R

end Sys2Proof.Machine
end

