-- ==== Sys2Proof/Machine/Print.lean ====
section
/-! DEFINITION. The Print Unit (04_print_path.md): the line pipeline, copies, pauses, trail and cut, suspension, cancellation. -/

namespace Sys2Proof.Machine

/-! ### Parts of the unit -/

/-- The Print Unit with its copy record replaced. -/
def State.withCopy (s : State) (c : CopyRec) : State := s.withPrint { s.print with copy := c }

/-- The active entry replaced. -/
def State.withEntry (s : State) (e : PrintEntry) : State :=
  s.withPrint { s.print with queue := e :: s.print.queue.tail }

/-- The page record of the active entry; a FREE record with the queue empty. -/
def State.printPage (s : State) : PageRec :=
  match s.print.queue with
  | [] => PageRec.freed
  | e :: _ => s.page e.page

/-- The active entry's page number; 0 with the queue empty. -/
def State.printPageNo (s : State) : Nat := ((s.print.queue.head?).map (·.page)).getD 0

/-- The active entry's cursor. -/
def State.printCursor (s : State) : Nat := ((s.print.queue.head?).map (·.cursor)).getD 0

/-- The resolution of a page, STD for a page without one. -/
def PageRec.res (r : PageRec) : Resolution := r.resolution.getD .std

/-- R79: the shift floor of the copy in progress. -/
def State.copyShiftFloor (s : State) : Nat := shiftFloor (s.tables.p Param.headWidth) s.print.copy.steps

/-- R80, R106: the cruise index in force for channel P: that of its move, or the one its next move would take. -/
def State.copyCruise (s : State) : Nat :=
  if s.motP.moving ∧ s.motP.owner = .print then s.motP.cruise
  else min (s.tables.p s.printPage.res.cruiseP) (s.tables.rampLength .p - 1)

/-- R80: the stop level of the copy in stored lines. -/
def State.copyStopLevel (s : State) : Nat := stopLevel s.copyCruise s.print.copy.steps s.print.copy.repeats

/-- R82: the restart level of the copy in stored lines. -/
def State.copyRestartLevel (s : State) : Nat := s.copyStopLevel + s.tables.p Param.restartMargin

/-! ### Fetch and shift (R76, R78) -/

/-- R76: the fetch of the line in FETCH is requested. With an unwanted fetch still in transfer it is made at that transfer's
end (log entry 19). -/
def State.requestFetch (s : State) : State :=
  let r := s.printPage
  match r.bandOfLine s.print.copy.fetch.line with
  | some b =>
    if s.dram.lingering .printFetch then s
    else s.submit (lineRequest .printFetch s.printPageNo s.print.copy.fetch.line (r.width.getD 0) b [] none)
  | none => s

/-- R76: the Page Store is asked for the line at the cursor, and gives one of its three answers. -/
def State.fetchNow (s : State) : State :=
  match s.print.queue with
  | [] => s
  | e :: _ =>
    let c := s.print.copy
    let r := s.page e.page
    if e.cursor < r.committed then
      ((s.withEntry { e with cursor := e.cursor + 1 }).withCopy
        { c with fetch := { FetchBuf.none with status := .requested, line := e.cursor } }).requestFetch
    else if r.state = .opened then
      s.withCopy { c with fetch := { FetchBuf.none with status := .waiting, line := e.cursor } }
    else s.withCopy { c with fetch := FetchBuf.none, exhausted := true }

/-- R76: the next fetch is asked for while the copy is in LEAD, PRINTING or PAUSED with abandon none and FETCH EMPTY,
unless the page's lines are exhausted. -/
def State.askFetch (s : State) : State :=
  let c := s.print.copy
  if c.fetch.status = .empty ∧ c.exhausted = false ∧ c.abandon = .kept ∧
      (c.state = .lead ∨ c.state = .printing ∨ c.state = .paused) then s.fetchNow
  else s

/-- R78: SHIFT takes FETCH's line with printing number 1, FETCH becomes EMPTY, and the next fetch is asked for. -/
def State.shiftTakes (s : State) : State :=
  let c := s.print.copy
  (s.withCopy { c with
    shift :=
      { status := .shifting
        line := c.fetch.line
        printing := 1
        counts := c.fetch.counts
        dots := c.fetch.dots
        doneAt := some (s.now + Config.us (s.tables.p Param.headWidth / 4)) }
    fetch := FetchBuf.none }).askFetch

/-- R76: a wanted fetch ends: FETCH is FULL with the line's head dots and counts, and SHIFT takes it when it is EMPTY. -/
def State.fetchArrived (s : State) (r : Request) (bytes : List Byte) : State :=
  let H := s.tables.p Param.headWidth
  let dots := placeLine H (8 * r.count) bytes
  let s1 := s.withCopy { s.print.copy with
    fetch := { status := .full, line := r.index, counts := dotCounts H dots, dots := dots } }
  if s.print.copy.shift.status = .empty then s1.shiftTakes else s1

/-- R76: a fetch waiting is withdrawn and one in transfer no longer wanted; FETCH becomes EMPTY. -/
def State.dropFetch (s : State) : State :=
  let s1 := (s.withdraw .printFetch).disown fun r => r.cls == .printFetch
  s1.withCopy { s1.print.copy with fetch := FetchBuf.none }

/-- R87: SHIFT and FETCH become EMPTY and the cursor is set by the page's mode. -/
def State.resetCursor (s : State) : State :=
  let s1 := s.dropFetch
  let s2 := s1.withCopy { s1.print.copy with shift := ShiftBuf.none }
  match s2.print.queue with
  | [] => s2
  | e :: _ =>
    let r := s2.page e.page
    s2.withEntry { e with cursor := if r.mode = some .stream then r.mark else 0 }

/-! ### Moves of channel P (R74, R82, R101) -/

/-- R101: the Print Unit makes a move request, or holds it until its strobe sequencer is IDLE. The cruise index is the one
that stands when the request is made; the channel takes the clamp, the step mode and the settle time when it is given (log
entry 33). -/
def State.printMove (s : State) (ask : MoveAsk) : State :=
  let r : MoveReq :=
    { owner := .print
      ask := ask
      steps := s.print.copy.steps
      cruise := s.tables.p s.printPage.res.cruiseP
      floor := s.copyShiftFloor }
  if s.print.seq = .idle then s.requestMove .p 0 r
  else s.withCopy { s.print.copy with heldMove := some r }

/-! ### Starting a copy (R73, R74) -/

/-- R74: entry to LEAD. -/
def State.enterLead (s : State) : State :=
  let c := s.print.copy
  (s.withPrint { s.print with
    hpwr := true
    copy := { c with state := .lead, pause := none, leadRun := true, leadLeft := s.tables.p Param.printLead } }).printMove
    .open_

/-- R82: a copy that stays PAUSED changes its reason when the band has changed it, raising PRINT_PAUSED. -/
def State.pauseReason (s : State) : State :=
  let c := s.print.copy
  if c.pause = some .heat ∧ s.headHot = false then
    (s.withCopy { c with pause := some .data }).raise (.printPaused s.printPageNo .data)
  else if c.pause = some .data ∧ s.headHot = true then
    (s.withCopy { c with pause := some .heat }).raise (.printPaused s.printPageNo .heat)
  else s

/-- R73, R85, R86: the copy enters SUSPENDED: HPWR is switched off and PRINT_SUSPENDED is raised. -/
def State.suspend (s : State) (why : SuspendReason) : State :=
  let c := s.print.copy
  (s.withPrint { s.print with
    hpwr := false
    copy := { c with
      state := .suspended
      pause := none
      suspend := some why
      stopping := false
      abandon := .kept
      shift := ShiftBuf.none
      fetch := FetchBuf.none
      heldMove := none
      rested := false
      startEnds := none
      cutEnds := none } }).raise (.printSuspended s.printPageNo why)

/-- R73: the copy's start, from step 1, or from step 2 where the checks of step 1 have just been made. HPWR is on in PAUSED and
in LEAD (R79). -/
def State.startCopy (s : State) (checked : Bool) : State :=
  match s.print.queue with
  | [] => s
  | e :: _ =>
    if checked = false ∧ s.active Input.coverOpen then s.suspend .cover
    else if checked = false ∧ s.active Input.paperOut then s.suspend .paper
    else
      let r := s.page e.page
      let s1 := (s.withCopy { s.print.copy with
        state := .idle
        pause := none
        suspend := none
        leadRun := false
        stopping := false
        cancelPending := false
        abandon := .kept
        steps := r.res.printSteps
        repeats := r.res.repeats
        startLine := e.cursor
        shift := ShiftBuf.none
        fetch := FetchBuf.none
        exhausted := false
        printed := 0
        startEnds := none
        heldMove := none
        rested := false
        cutEnds := none }).fetchNow
      if r.state = .opened ∧ r.committed < s1.printCursor + s1.copyRestartLevel then
        ((s1.withPrint { s1.print with
          hpwr := true
          copy := { s1.print.copy with state := .paused, pause := some .data } }).raise
          (.printPaused e.page .data)).pauseReason
      else s1.enterLead

/-- R73: an entry has become active and begins a copy, in STARTING where the command has just taken the machine from
STANDBY to RUN. Last latched, of which R71 and R73 say nothing here, becomes absent (log entry 32). -/
def State.beginCopy (s : State) (fromStandby : Bool) : State :=
  let s1 := s.withCopy CopyRec.idle
  if fromStandby then
    s1.withCopy { CopyRec.idle with
      state := .starting
      startEnds := some (s.now + Config.ms (s.tables.p Param.powerSettle)) }
  else s1.startCopy false

/-! ### Leaving the queue (R84, R89) -/

/-- R84: the active entry has left the queue and the next becomes active; with none left the copy state is IDLE and the line
strobe record absent (R91). -/
def State.nextEntry (s : State) : State :=
  if s.print.queue = [] then
    s.withPrint { s.print with
      copy := CopyRec.idle
      strobe := none
      hpwr := false
      cutter := false
      seq := .idle
      seqEnds := none }
  else s.beginCopy false

/-- R84, R89: the active entry is complete or cancelled: it leaves the queue, its hold is removed, PRINT_DONE or
PRINT_CANCELLED is raised, the release is tested, and the next entry becomes active. -/
def State.entryGone (s : State) (cancelled : Bool) : State :=
  match s.print.queue with
  | [] => s
  | e :: rest =>
    (((((s.withPrint { s.print with queue := rest, hpwr := false }).dropHold e.page .print).raise
      (if cancelled then .printCancelled e.page else .printDone e.page)).autoRelease e.page)).nextEntry

/-- R84: the copy leaves CUT: COPY_DONE is raised, and the next copy begins or the entry is complete. -/
def State.leaveCut (s : State) : State :=
  match s.print.queue with
  | [] => s
  | e :: _ =>
    let c := s.print.copy
    let e1 := { e with done := e.done + 1 }
    let s1 := ((s.withPrint { s.print with
        cutter := false
        hpwr := false
        copy := { c with cutEnds := none, rested := false, heldMove := none } }).withEntry e1).raise
      (.copyDone e.page e1.done)
    if c.cancelPending = false ∧ e1.done < e1.copies then (s1.withEntry { e1 with cursor := 0 }).startCopy false
    else s1.entryGone c.cancelPending

/-- R84: channel P is at rest and the strobe has ended: the copy enters CUT. A CUT_TIME of 0 makes no cut. -/
def State.enterCut (s : State) : State :=
  let c := s.print.copy
  let s1 := s.withPrint { s.print with hpwr := false, copy := { c with state := .cut, rested := false } }
  if s.tables.p Param.cutTime = 0 then s1.leaveCut
  else
    s1.withPrint { s1.print with
      cutter := true
      copy := { s1.print.copy with cutEnds := some (s.now + Config.ms (s.tables.p Param.cutTime)) } }

/-- R84: channel P has come to rest at the end of the trail; CUT waits for the strobe. -/
def State.trailRested (s : State) : State :=
  if s.print.seq = .idle then s.enterCut else s.withCopy { s.print.copy with rested := true }

/-! ### Trail (R83) -/

/-- R83: the trail distance for a ramp index. -/
def State.trailDistance (s : State) (i : Nat) : Nat :=
  roundUp (max (s.tables.p Param.printTrail) i) s.print.copy.steps

/-- R83: the copy record on entry to TRAIL. -/
def CopyRec.trailing (c : CopyRec) : CopyRec :=
  { c with state := .trail, pause := none, stopping := false, abandon := .kept, rested := false, heldMove := none }

/-- R83, R89: TRAIL from rest: a counted move of E steps with i taken as 0; with E 0 the channel counts as come to rest. -/
def State.trailFromRest (s : State) : State :=
  let s1 := s.withCopy s.print.copy.trailing
  if s1.trailDistance 0 = 0 then s1.trailRested else s1.printMove (.counted (s1.trailDistance 0))

/-- R83, R116: TRAIL at a boundary: channel P's move becomes counted with E step events to come. -/
def State.trailAtBoundary (s : State) : State :=
  let s1 := s.withCopy s.print.copy.trailing
  s1.withMot .p (s1.motP.countTo (s1.trailDistance s1.motP.index))

/-! ### Pause and restart (R80 to R82) -/

/-- R82: every line of a closed page has been latched. -/
def State.allLatched (s : State) : Bool :=
  let c := s.print.copy
  s.printPage.state == .closed && c.exhausted && c.shift.status == .empty && c.fetch.status == .empty

/-- R82: the restart test of a PAUSED copy. With the cover open no move is asked for (R120): the test is not made in the step
that opens the cover, which ends the copy (log entry 12). -/
def State.pausedTest (s : State) : State :=
  let c := s.print.copy
  let r := s.printPage
  if c.state ≠ .paused ∨ c.abandon ≠ .kept ∨ s.active Input.coverOpen = true then s
  else if s.headHot = false ∧ (r.state = .closed ∨ s.printCursor + s.copyRestartLevel ≤ r.committed) then
    let s1 := (s.withCopy { c with pause := none }).raise (.printResumed s.printPageNo)
    if c.leadRun = false then s1.enterLead
    else if s1.allLatched then s1.trailFromRest
    else (s1.withCopy { s1.print.copy with state := .printing }).printMove .open_
  else s.pauseReason

/-- R80: channel P has come to rest after a stop: PAUSED, with the reason the band of channel 0 gives, and the restart
test. -/
def State.pauseAtRest (s : State) : State :=
  let why : PauseReason := if s.headHot then .heat else .data
  ((s.withCopy { s.print.copy with state := .paused, pause := some why, stopping := false }).raise
    (.printPaused s.printPageNo why)).pausedTest

/-- R85: an abandoned copy is at rest; SUSPENDED waits for the strobe. The stopping mark stands until SUSPENDED is entered (log
entry 41). -/
def State.paperRested (s : State) : State :=
  if s.print.seq = .idle then s.suspend .paper else s.withCopy { s.print.copy with rested := true }

/-- R117, R118: the Print Unit is told that channel P has come to rest. -/
def State.printRest (s : State) : State :=
  let c := s.print.copy
  match c.abandon with
  | .paper => s.paperRested
  | .cancel => s.trailFromRest
  | .kept =>
    if c.state = .trail then s.trailRested
    else if c.state = .printing ∧ c.stopping = true then s.pauseAtRest
    else s

/-- The strobe sequencer has become IDLE: a held move request is given (R101), and CUT or SUSPENDED is entered where it
waited for this (R84, R85). -/
def State.strobeIdle (s : State) : State :=
  let c := s.print.copy
  match c.heldMove with
  | some r => (s.withCopy { c with heldMove := none }).requestMove .p 0 r
  | none =>
    if c.rested = false then s
    else if c.abandon = .paper then s.suspend .paper
    else if c.state = .trail then s.enterCut
    else s

/-! ### Line boundaries (R78 to R83) -/

/-- R79, R100: the line in SHIFT is latched: its strobe record is made, its floor handed to channel P and its strobe begun;
SHIFT shifts it again, or takes the next line. The current phase becomes 0, at a line with nothing to fire too (log entry 42). -/
def State.latch (s : State) : State :=
  let c := s.print.copy
  let sh := c.shift
  let rec_ := strobeRecord s.tables (s.mon.channel 0) (s.mon.channel 1) c.steps sh.line sh.printing sh.counts
  let s1 := s.withPrint { s.print with
    strobe := some rec_
    headDots := sh.dots
    seq := if rec_.phases = [] then .idle else .pulse
    seqPhase := 0
    seqEnds := if rec_.phases = [] then none else some (s.now + Config.us rec_.width)
    copy := { c with lastLatched := some (sh.line, sh.printing), printed := c.printed + 1 } }
  let s2 := s1.withMot .p { s1.motP with floor := rec_.floor }
  if sh.printing < c.repeats then
    s2.withCopy { s2.print.copy with
      shift := { sh with
        status := .shifting
        printing := sh.printing + 1
        doneAt := some (s.now + Config.us (s.tables.p Param.headWidth / 4)) } }
  else
    let s3 := s2.withCopy { s2.print.copy with shift := ShiftBuf.none }
    let s4 := if s.printPage.mode = some .stream then s3.raiseMark s.printPageNo (sh.line + 1) else s3
    if s4.print.copy.fetch.status = .full then s4.shiftTakes else s4.askFetch

/-- R83: the latch of a line with this index and printing number ends the copy's printing. -/
def State.endsPrinting (s : State) (line printing : Nat) : Bool :=
  s.printPage.state == .closed && printing == s.print.copy.repeats && line + 1 == s.printPage.committed

/-- R80, R81: the boundary's tests of starvation and heat; one stop is asked for. -/
def State.boundaryTests (s : State) : State :=
  let c := s.print.copy
  let starving := s.printPage.state = .opened ∧ s.printPage.committed < s.printCursor + s.copyStopLevel
  if c.state = .printing ∧ c.stopping = false ∧ (starving ∨ s.headHot = true) then
    ((s.withCopy { c with stopping := true }).requestStop .p .print).1
  else s

/-- R78: a line boundary of a copy with abandon none. -/
def State.printBoundary (s : State) : State :=
  let c := s.print.copy
  if c.shift.status = .complete then
    let s1 := s.latch
    if s1.endsPrinting c.shift.line c.shift.printing then s1.trailAtBoundary else s1.boundaryTests
  else
    let s1 := s.withMot .p { s.motP with floor := s.copyShiftFloor }
    if s1.allLatched then s1.trailAtBoundary
    else (s1.raise (.printUnderrun s.printPageNo c.printed)).boundaryTests

/-- R74, R78, R99: the Print Unit is told of a step event of its move, with the position reached. -/
def State.printStep (s : State) : State :=
  let c := s.print.copy
  let atLine := s.motP.position == 0
  let floored := if atLine then s.withMot .p { s.motP with floor := s.copyShiftFloor } else s
  match c.state with
  | .lead =>
    let s1 := s.withCopy { c with leadLeft := c.leadLeft - 1 }
    if c.abandon ≠ .kept then floored.withCopy { c with leadLeft := c.leadLeft - 1 }
    else if c.leadLeft ≤ 1 then
      ((s1.withCopy { s1.print.copy with state := .printing }).withMot .p s1.motP.align).printBoundary
    else s1
  | .printing => if c.abandon ≠ .kept then floored else if atLine then s.printBoundary else s
  | .trail => floored
  | .idle | .starting | .paused | .cut | .suspended => s

/-! ### Paper, cover and cancellation (R85, R86, R89) -/

/-- R85, R89: the copy in LEAD or PRINTING stops at a line boundary, or is at rest already. A move request that the Print Unit
still holds for the strobe (R101) is dropped, and channel P is taken as at rest (log entry 45). -/
def State.stopAbandoned (s : State) : State :=
  let c := s.print.copy
  if c.heldMove.isSome ∨ c.rested = true then (s.withCopy { c with heldMove := none, rested := false }).printRest
  else
    let r := s.requestStop .p .print
    if r.2 then r.1.printRest.holdAfterRest .p else r.1

/-- R85: PAPER_OUT has become active. -/
def State.printPaper (s : State) : State :=
  let c := s.print.copy
  if c.cancelPending = true ∨ c.abandon ≠ .kept then s
  else
    match c.state with
    | .lead | .printing =>
      ((s.withCopy { c with abandon := .paper, stopping := true }).resetCursor).stopAbandoned
    | .paused => ((s.withCopy { c with abandon := .paper, stopping := true }).resetCursor).paperRested
    | .idle | .starting | .trail | .cut | .suspended => s

/-- R86, R100, R101: the strobe is cut, HPWR and CUT are switched off, and a move request held until the sequencer is IDLE is
given to channel P, which the same cover opening then halts (log entry 12). -/
def State.cutHead (s : State) : State :=
  let s1 := s.withPrint { s.print with
    hpwr := false
    cutter := false
    seq := .idle
    seqEnds := none
    copy := { s.print.copy with heldMove := none } }
  match s.print.copy.heldMove with
  | some r => s1.requestMove .p 0 r
  | none => s1

/-- R86, R89: COVER_OPEN has become active; channel P is halted in the same step. -/
def State.printCover (s : State) : State :=
  let c := s.print.copy
  match c.state with
  | .idle => s
  | .suspended => if c.suspend = some .cover then s else s.cutHead
  | .starting => s.cutHead
  | .lead | .printing | .paused =>
    if c.cancelPending then (s.cutHead.dropFetch).entryGone true
    else (s.cutHead.resetCursor).suspend .cover
  | .trail => if c.cancelPending then s.cutHead.entryGone true else s.cutHead.leaveCut
  | .cut => s.cutHead.leaveCut

/-- R89: the active entry is cancelled, by its copy state. Its cursor stays where the fetches have raised it (log entry 48). -/
def State.cancelActive (s : State) : State :=
  let c := s.print.copy
  if c.cancelPending then s
  else
    let s1 := s.withCopy { c with cancelPending := true }
    match c.state with
    | .starting | .suspended => s1.entryGone true
    | .lead | .printing =>
      ((s1.withCopy { s1.print.copy with abandon := .cancel, stopping := true }).dropFetch).stopAbandoned
    | .paused => s1.dropFetch.trailFromRest
    | .trail | .cut | .idle => s1

/-- R89: a queued entry leaves the queue: its hold is removed, PRINT_CANCELLED is raised and the release is tested. -/
def State.dropPrint (s : State) (e : PrintEntry) : State :=
  ((s.dropHold e.page .print).raise (.printCancelled e.page)).autoRelease e.page

/-- R89: queued entries leave in order. -/
def State.dropPrints (s : State) : List PrintEntry → State
  | [] => s
  | e :: es => (s.dropPrint e).dropPrints es

/-- R89: the cancellation of a page's entries, or of every page's: the queued ones at once, then the active one. -/
def State.cancelPrints (s : State) (field : Nat) : State :=
  match s.print.queue with
  | [] => s
  | e :: rest =>
    let s1 := (s.withPrint { s.print with queue := e :: rest.filter fun x => !matchesPage field x.page }).dropPrints
      (rest.filter fun x => matchesPage field x.page)
    if matchesPage field e.page then s1.cancelActive else s1

/-! ### Readers woken (R6, R7, R14) -/

/-- R14, R76: a commit has made the line FETCH waits for available. -/
def State.wakeFetch (s : State) (p : Nat) : State :=
  let c := s.print.copy
  if s.print.queue ≠ [] ∧ s.printPageNo = p ∧ c.fetch.status = .waiting ∧ c.fetch.line < s.printPage.committed then
    s.fetchNow
  else s

/-- R76: the page has closed and the line FETCH waits for will not come. -/
def State.endFetch (s : State) (p : Nat) : State :=
  let c := s.print.copy
  if s.print.queue ≠ [] ∧ s.printPageNo = p ∧ c.fetch.status = .waiting then
    s.withCopy { c with fetch := FetchBuf.none, exhausted := true }
  else s

/-- R82: the restart test is made at each commit to the active entry's page and at its close. -/
def State.printPageTest (s : State) (p : Nat) : State :=
  if s.print.queue ≠ [] ∧ s.printPageNo = p then s.pausedTest else s

end Sys2Proof.Machine
end

