-- ==== Sys2Proof/Machine/Pages.lean ====
section
/-! DEFINITION. Pages opened, committed and closed (01_page_store.md), with their readers woken and told. -/

namespace Sys2Proof.Machine

/-- R4: the record of a page just opened. An absent field is none; a STREAM page has no retain flag, a BLOCK page no width
and no resolution. -/
def PageRec.opened (kind : PageKind) (mode : PageMode) (w : Writer) (width : Nat) (res : Resolution) (retain : Bool)
    (label : Half) : PageRec :=
  { PageRec.freed with
    state := .opened
    kind := some kind
    mode := some mode
    writer := some w
    width := if kind = .image then some width else none
    resolution := if kind = .image then some res else none
    retain := if mode = .keep then some retain else none
    label := label }

/-- R6, R14: the readers of a page that wait at the new line or byte are woken: the Print Unit's fetch, the restart test of
R82, and the active link read, in this order (log entry 13). -/
def State.wakeReaders (s : State) (p : Nat) : State := ((s.wakeFetch p).printPageTest p).readOn

/-- R2, R6: the next line or byte to be committed lies in the band at the tail of the chain. -/
def PageRec.commitsAtTail (r : PageRec) : Bool :=
  r.committed / r.bandUnit - r.base / r.bandUnit + 1 == r.chain.length

/-- R2, R6: the page after a commit of n lines or bytes: committed rises, and a commit into the filling band, which stands at
the tail of the chain, clears the filling mark. -/
def PageRec.committing (n : Nat) (r : PageRec) : PageRec :=
  { r with committed := r.committed + n, filling := r.filling && !r.commitsAtTail }

/-- R6: a write of n lines or bytes is committed: the readers are woken, and a STREAM page may be consumed (R17). -/
def State.commit (s : State) (p n : Nat) : State :=
  (((s.withPage p ((s.page p).committing n)).wakeReaders p).consumeAll p)

/-- R6: whether a write that has ended is committed: it is still wanted and the page is still OPEN with the same writer. -/
def State.commits (s : State) (r : Request) (w : Writer) : Bool :=
  r.live && (s.page r.page).state == .opened && (s.page r.page).writer == some w

/-- R7: a page record closed, with the band it gives back when its filling band has received no committed data. -/
def PageRec.close (truncated : Bool) (r : PageRec) : PageRec :=
  { r with
    state := .closed
    writer := none
    truncated := truncated
    filling := false
    chain := if r.filling then r.chain.dropLast else r.chain }

/-- R7: the band a close gives back. -/
def PageRec.returned (r : PageRec) : List Band := if r.filling then r.chain.getLast?.toList else []

/-- R7, R24: an OPEN page becomes CLOSED: an unused filling band joins the free list and a write in transfer will not be
committed. -/
def State.shutPage (s : State) (p : Nat) (truncated : Bool) : State :=
  let r := s.page p
  ((s.withPage p (r.close truncated)).addBands r.returned).disownWrites p

/-- R7, R14: the readers of a closed page are told that it has ended: the Print Unit's fetch and restart test (R76, R82), and
the active link read. The order among them is the model's choice: the Print Unit comes first, so PRINT_RESUMED precedes
READ_DONE (log entry 13). -/
def State.tellReaders (s : State) (p : Nat) : State := ((s.endFetch p).printPageTest p).readOn

/-- R7: a close that raises PAGE_CLOSED. The event comes first, then the waiting requests, the readers and the release rules
(log entry 13). -/
def State.closePage (s : State) (p : Nat) (truncated : Bool) : State :=
  let r := s.page p
  ((((s.shutPage p truncated).raise (.pageClosed p r.committed truncated r.label)).lookWaiting).tellReaders p).autoRelease p

end Sys2Proof.Machine
end

