-- ==== Sys2Proof/Machine/Scan.lean ====
section
/-! DEFINITION. The Scan Unit (03_scan_path.md): the job, its edges, readouts, line slots, ends and the calibration. -/

namespace Sys2Proof.Machine

/-! ### Shading and thresholds (R57, R58, R64) -/

/-- R57: a sample corrected with its pixel's gain. -/
def corrected (sample gain : Nat) : Nat := min 255 ((sample * gain + 32) / 64)

/-- R58: the threshold for pixel j of page line k. -/
def Tables.threshold (t : Tables) (j k : Nat) : Nat :=
  if t.p Param.ditherMode = 1 then t.dither[k % 8 * 8 + j % 8]?.getD 0 else t.p Param.fixedThreshold

/-- R57, R58: whether a sample of pixel j of page line k makes a black dot. -/
def Tables.black (t : Tables) (k j sample : Nat) : Bool :=
  decide (corrected sample (t.shadeGain[j]?.getD 0) < t.threshold j k)

/-- R64: a test pattern's value for pixel j of line k. -/
def Pattern.value (p : Pattern) (k j : Nat) : Nat :=
  match p with
  | .white => 255
  | .black => 0
  | .bars => if j / 8 % 2 = 0 then 0 else 255
  | .checker => if (j / 8 + k / 8) % 2 = 0 then 0 else 255
  | .ramp => j % 256

/-- R55, R64: the value of pixel j before correction: the pattern's, or the kept sample. A sample not given reads as 0 (log
entry 7). -/
def pixelValue (pattern : Option Pattern) (samples : List Byte) (lead k j : Nat) : Nat :=
  match pattern with
  | some p => p.value k j
  | none => ((samples[lead + j]?).map (·.toNat)).getD 0

/-- The byte of eight dots, the first in bit 7; black is 1. -/
def dotByte (f : Nat → Bool) : Byte :=
  (List.range 8).foldl (fun b i => if f i then b ||| (1#8 <<< (7 - i)) else b) 0#8

/-- R58: the stored line k made from a readout's values. -/
def Tables.line (t : Tables) (pattern : Option Pattern) (samples : List Byte) (k : Nat) : List Byte :=
  (List.range (t.p Param.scanWidth / 8)).map fun i =>
    dotByte fun b => t.black k (8 * i + b) (pixelValue pattern samples (t.p Param.sensorLead) k (8 * i + b))

/-! ### The end of a job (R53, R67 to R69) -/

/-- R53, R59: the line slots have drained: no readout of the job fills a slot and no write of it is left. A readout whose
samples are discarded (R60) fills none. -/
def ScanUnit.drained (u : ScanUnit) : Bool := u.writes.isEmpty && !(u.readouts.any fun r => r.live && r.slot.isSome)

/-- R60, R67: a readout whose line will be discarded. -/
def Readout.unwanted (r : Readout) : Readout := { r with live := false }

/-- R53: the job returns to IDLE: the reserve falls to 0, the memory-low indicator clears, and a waiting link writer is looked
at (R10, R11). A readout that still runs is one whose samples are discarded, and no later job is told of it. -/
def State.scanIdle (s : State) : State :=
  ((s.withScan { s.scan with job := ScanJob.idle, readouts := s.scan.readouts.map Readout.unwanted }).withStore
    { s.store with memoryLow := false, scanWaits := false }).lookLink

/-- R53, R69: in EJECT the page closes once the slots have drained; with the page closed and channel S at rest the job
ends. -/
def State.ejectCheck (s : State) : State :=
  let p := s.scan.job.page.getD 0
  if s.scan.job.state ≠ .eject then s
  else
    let s1 :=
      if s.scan.job.pageClosed = false ∧ s.scan.drained then
        (s.withJob { s.scan.job with pageClosed := true }).closePage p false
      else s
    let j := s1.scan.job
    if j.pageClosed ∧ (j.rested ∨ j.coverEnd) then
      (s1.raise (if j.coverEnd then .scanAborted p .cover else .scanDone p)).scanIdle
    else s1

/-- R53: the eject distance for a position and a ramp index. -/
def State.ejectDistance (s : State) (p i : Nat) : Nat :=
  roundUp (max (s.tables.p Param.ejectSteps) (p + i)) s.scan.job.steps

/-- R53, R64: entry to EJECT: the lamp goes off, captures end, and channel S is given the counted eject move. A PATTERN job
makes no move. -/
def State.enterEject (s : State) : State :=
  let j := s.scan.job
  let s1 := s.withScan { s.scan with
    lamp := false
    job := { j with
      state := .eject
      resume := none
      stopping := false
      availKept := false
      rested := j.source == some .pattern } }
  if j.source = some .pattern then s1
  else if s.motS.moving then
    s1.withMot .s (s1.motS.countTo (s.ejectDistance s.motS.position s.motS.index - s.motS.position))
  else if s.ejectDistance 0 0 = 0 then s1.withJob { s1.scan.job with rested := true }
  else
    (s1.withJob { s1.scan.job with stepCount := 0 }).requestMove .s 0
      { s.scanMove with ask := .counted (s.ejectDistance 0 0) }

/-- R59: a slot whose job has ended: kept while its granted transfer or its readout runs, and freed at once otherwise. -/
def ScanUnit.release (u : ScanUnit) (d : Dram) (i : SlotId) : ScanUnit :=
  let inTransfer := match d.ending .scanWrite with
    | some (r, _) => r.slot == some i
    | none => false
  if inTransfer then u.useSlot i .doomed
  else if u.readouts.any fun r => r.slot == some i then u.useSlot i .filling
  else u.useSlot i .free

/-- R67, R69: captures end. Without a cut a readout runs on and its line is discarded; with one it ends here. The waiting writes
are withdrawn and their slots freed. -/
def State.endCaptures (s : State) (cut : Bool) : State :=
  let s1 := s.withdraw .scanWrite
  let u : ScanUnit := { s1.scan with
    writes := []
    readouts := if cut then [] else s1.scan.readouts.map Readout.unwanted }
  s1.withScan ((u.release s1.dram .a).release s1.dram .b)

/-- R67: the abort, but for the stop of channel S. The job is IDLE before its page closes, so that the reserve and the signals
of R11 no longer bear on it; an already closed page keeps its close (R68). -/
def State.scanAbort (s : State) (why : AbortReason) (cut : Bool) : State :=
  let j := s.scan.job
  let p := j.page.getD 0
  let s1 := s.endCaptures cut
  let s2 := (s1.withScan { s1.scan with job := ScanJob.idle, lamp := false }).withStore
    { s1.store with memoryLow := false, scanWaits := false }
  let s3 := if j.pageClosed then s2 else s2.closePage p true
  (s3.raise (.scanAborted p why)).lookLink

/-- R67, R68: an abort for FEED_FAILURE, DOC_JAM or CANCEL, with channel S asked to stop at a line boundary. -/
def State.scanAbortStop (s : State) (why : AbortReason) : State :=
  let r := (s.scanAbort why false).requestStop .s .scan
  if r.2 then r.1.holdAfterRest .s else r.1

/-- R65, R66: the calibration ends: the lamp goes off. -/
def State.endCalibration (s : State) : State := s.withScan { s.scan with calibration := none, lamp := false }

/-- R55, R69: every readout in progress is cut short, and the slot it fills is freed. -/
def ScanUnit.cutReadouts (u : ScanUnit) : ScanUnit :=
  { u.readouts.foldl (fun x r => match r.slot with
      | some i => x.useSlot i .free
      | none => x) u with readouts := [] }

/-- R66, R69: COVER_OPEN has become active; channel S is halted in the same step. -/
def State.scanCover (s : State) : State :=
  match s.scan.job.state with
  | .idle =>
    let s1 := s.withScan s.scan.cutReadouts
    if s1.scan.calibration.isSome then s1.endCalibration else s1
  | .eject => ((s.withScan s.scan.cutReadouts).withJob { s.scan.job with coverEnd := true }).ejectCheck
  | .starting | .feedIn | .offset | .capture | .stalled | .tail => s.scanAbort .cover true

/-! ### Feeding and edges (R48 to R52) -/

/-- R49: entry to FEED_IN. -/
def State.enterFeedIn (s : State) : State :=
  let s1 := s.withScan { s.scan with lamp := true, job := { s.scan.job with state := .feedIn, startEnds := none } }
  s1.requestMove .s 0 s1.scanMove

/-- R47, R48, R64: a job goes to work: FEED_IN for a SENSOR source, CAPTURE for a PATTERN source. -/
def State.scanBegin (s : State) : State :=
  if s.scan.job.source = some .pattern then
    (s.withJob { s.scan.job with state := .capture, startEnds := none }).nextPatternReadout
  else s.enterFeedIn

/-- R49, R51: the job's own count of consecutive step samples that differ from its edge level. -/
def ScanJob.edgeSample (j : ScanJob) (sample : Bool) : ScanJob :=
  if sample = j.edgeLevel then { j with edgeSamples := 0 } else { j with edgeSamples := j.edgeSamples + 1 }

/-- R49, R51: two consecutive step samples confirm an edge. -/
def ScanJob.confirms (j : ScanJob) : Bool := decide (2 ≤ j.edgeSamples)

/-- R49, R51: the job with a confirmed edge. -/
def ScanJob.confirmed (j : ScanJob) : ScanJob := { j with edgeLevel := !j.edgeLevel, edgeSamples := 0 }

/-- R50: line boundary 0: the channel is aligned, the job enters CAPTURE, and line 0 is captured. -/
def State.firstBoundary (s : State) : State :=
  ((s.withMot .s s.motS.align).withJob { s.scan.job with state := .capture, stepsLeft := 0 }).capture

/-- R63: the lamp test at the lead edge. -/
def State.lampTest (s : State) : State :=
  if (s.mon.channel 2).band = some .low then s.raise (.lampLow (s.scan.job.page.getD 0)) else s

/-- R49: the lead edge is confirmed. -/
def State.leadEdge (s : State) : State :=
  let s1 := ((s.withJob s.scan.job.confirmed).raise (.scanEdge (s.scan.job.page.getD 0))).lampTest
  let n := s.tables.p Param.edgeOffset
  let s2 := s1.withJob { s1.scan.job with state := .offset, stepsLeft := n }
  if n = 0 then s2.firstBoundary else s2

/-- R49 to R52: the Scan Unit is told of a step event of its move, with the step sample of DOC_EDGE (true is active). -/
def State.scanStep (s : State) (sample : Bool) : State :=
  let j := { s.scan.job with stepCount := min 65535 (s.scan.job.stepCount + 1) }
  let atLine := s.motS.position == 0
  match j.state with
  | .feedIn =>
    let s1 := s.withJob (j.edgeSample sample)
    if s1.scan.job.confirms then s1.leadEdge
    else if s.tables.p Param.feedLimit ≤ j.stepCount then s1.scanAbortStop .feedFailure
    else s1
  | .offset =>
    let s1 := s.withJob { j.edgeSample sample with stepsLeft := j.stepsLeft - 1 }
    if s1.scan.job.confirms then
      (((s1.withJob s1.scan.job.confirmed).withMot .s s1.motS.align).enterEject).ejectCheck
    else if s1.scan.job.stepsLeft = 0 then s1.firstBoundary
    else s1
  | .capture =>
    let s1 := if atLine then (s.withJob j).capture else s.withJob j
    let s2 := s1.withJob (s1.scan.job.edgeSample sample)
    if s2.scan.job.confirms then
      let n := s.tables.p Param.trailOffset
      let k := s2.scan.job
      let s3 := s2.withJob
        { k.confirmed with state := .tail, stepsLeft := n, resume := if k.stopping then some .tail else k.resume }
      if n = 0 then s3.enterEject.ejectCheck else s3
    else s2
  | .tail =>
    let s1 := if atLine then (s.withJob { j with stepsLeft := j.stepsLeft - 1 }).capture
      else s.withJob { j with stepsLeft := j.stepsLeft - 1 }
    if s1.scan.job.stepsLeft = 0 then s1.enterEject.ejectCheck else s1
  | .eject => s.withJob j
  | .idle | .starting | .stalled => s

/-- R53, R61, R118: the Scan Unit is told that channel S has come to rest. -/
def State.scanRest (s : State) : State :=
  let j := s.scan.job
  match j.state with
  | .eject => (s.withJob { j with rested := true }).ejectCheck
  | .capture | .tail => if j.stopping then s.scanStall else s
  | .idle | .starting | .feedIn | .offset | .stalled => s

/-! ### Readouts and writes (R55, R59, R60, R64) -/

/-- R59, R60: a slot's write or discarded readout has ended: it stays occupied while a write of the list needs it. -/
def ScanUnit.settleSlot (u : ScanUnit) (i : SlotId) : ScanUnit :=
  u.useSlot i (if u.writes.any fun w => w.slot == i then .held else .free)

/-- R55, R59: a job's readout ends: its line stands in its slot and joins the list of writes. -/
def State.lineRead (s : State) (r : Readout) (samples : List Byte) : State :=
  match r.slot with
  | none => s
  | some i =>
    let dots := s.tables.line s.scan.job.pattern samples r.index
    s.withScan { s.scan.withSlot i { use := .held, dots := dots } with
      writes := insertWrite { index := r.index, slot := i, banded := false, requested := false } s.scan.writes }

/-- R64: a PATTERN readout raises lines produced, and the last one takes the job to EJECT. -/
def State.patternCount (s : State) : State :=
  let j := s.scan.job
  if j.source ≠ some .pattern then s
  else
    let s1 := s.withJob { j with produced := j.produced + 1 }
    if j.lineCount ≤ j.produced + 1 ∧ (j.state = .capture ∨ j.state = .stalled) then s1.enterEject else s1

/-- R55, R67: the oldest readout in progress ends with the converter's samples. That of an aborted job runs to its end in a gated
power state too (log entry 49). -/
def State.readoutOver (s : State) (samples : List Byte) : State :=
  match s.scan.readouts with
  | [] => s
  | r :: rest =>
    let s1 := s.withScan { s.scan with readouts := rest }
    if r.live then
      ((((s1.patternCount).lineRead r samples).scanAdvance 3).nextPatternReadout).ejectCheck
    else
      match r.slot with
      | some i => (((s1.withScan (s1.scan.settleSlot i)).scanAdvance 3).nextPatternReadout)
      | none => s1.nextPatternReadout

/-- R54: a commit to a SENSOR job's page in CAPTURE or STALLED that reaches MAX_DOC_LINES aborts the job. -/
def State.jamTest (s : State) : State :=
  let j := s.scan.job
  if j.source = some .sensor ∧ (j.state = .capture ∨ j.state = .stalled) ∧
      (s.page (j.page.getD 0)).committed = s.tables.p Param.maxDocLines then s.scanAbortStop .docJam
  else s

/-- R59, R60: a write of the job has ended: it leaves the list, and its slot is freed unless another write needs it. -/
def ScanUnit.writeDone (u : ScanUnit) (index : Nat) (i : SlotId) : ScanUnit :=
  ScanUnit.settleSlot { u with writes := u.writes.filter fun w => w.index != index } i

/-- R6, R59: a scan line write transfer ends. A wanted one is committed, a STREAM page's bands are consumed and then the jam test
is made (log entry 20), and the next write is requested; an unwanted one frees its slot. -/
def State.scanWriteOver (s : State) (r : Request) : State :=
  let i := r.slot.getD .a
  if s.commits r .scan then
    ((((s.withScan (s.scan.writeDone r.index i)).commit r.page 1).jamTest).scanAdvance 3).ejectCheck
  else if (s.scan.slot i).use = .doomed then (s.withScan (s.scan.settleSlot i)).scanAdvance 3
  else s

/-! ### Calibration (R65) -/

/-- R65: a calibration whose readout ends at a time, with the readouts made and the sums so far. -/
def Calibration.reading (ends readouts : Nat) (sums : List Nat) : Calibration where
  settleEnds := none
  readoutEnds := some ends
  readouts := readouts
  sums := sums

/-- R65: the lamp is switched on and the first readout begins, whether or not an aborted job's discarded readout still runs (log
entry 34). -/
def State.beginReading (s : State) : State :=
  s.withScan { s.scan with
    lamp := true
    syncEnds := some (s.now + s.tables.syncTime)
    calibration := some (Calibration.reading (s.now + s.tables.readoutTime) 0
      (List.replicate (s.tables.p Param.scanWidth) 0)) }

/-- R65: the gain for a sum of eight samples. -/
def shadeGain (target sum : Nat) : Nat :=
  let avg := sum / 8
  if avg = 0 then 255 else min 255 ((target * 64 + avg / 2) / avg)

/-- R65: a readout's kept samples added to the sums. -/
def addSamples (samples : List Byte) (lead : Nat) (sums : List Nat) : List Nat :=
  sums.mapIdx fun j x => x + pixelValue none samples lead 0 j

/-- R65: a calibration readout ends: the sums are taken; after the eighth the gains are written together, the lamp goes off and
SHADE_DONE is raised. -/
def State.calibrationReadout (s : State) (c : Calibration) (samples : List Byte) : State :=
  let sums := addSamples samples (s.tables.p Param.sensorLead) c.sums
  if c.readouts + 1 < 8 then
    s.withScan { s.scan with
      syncEnds := some (s.now + s.tables.syncTime)
      calibration := some (Calibration.reading (s.now + s.tables.readoutTime) (c.readouts + 1) sums) }
  else
    let gains := sums.map (shadeGain (s.tables.p Param.shadeTarget))
    ((s.withTables (s.tables.putAll 1 0 gains)).endCalibration).raise
      (.shadeDone (gains.foldl min 255) (gains.foldl max 0))

end Sys2Proof.Machine
end

