-- ==== Sys2Proof/Machine/Monitor.lean ====
section
/-! DEFINITION. The Sensor Monitor's rounds, classification and debounce (07_sensor_monitor.md). -/

namespace Sys2Proof.Machine

/-! ### Analog channels (R127 to R129) -/

/-- The record of an analog channel replaced. -/
def State.withChannel (s : State) (ch : Nat) (r : AnalogRec) : State :=
  s.withMon { s.mon with analog := s.mon.analog.setIfInBounds ch r }

/-- R127: a raw result and an offset, clamped to 0 to 255. -/
def sampleValue (raw : Nat) (offset : Int) : Nat := (max 0 (min 255 ((raw : Int) + offset))).toNat

/-- R127: the clamp changed the sum. -/
def sampleSaturated (raw : Nat) (offset : Int) : Bool := decide ((raw : Int) + offset < 0 ∨ 255 < (raw : Int) + offset)

/-- R128: the class of a value against the thresholds. -/
def classify (low high value : Nat) : Level :=
  if high < value then .high else if value < low then .low else .normal

/-- R128: a channel after a sample of a class: its band and pending band. -/
def AnalogRec.classed (c : Level) (r : AnalogRec) : AnalogRec :=
  if r.band = some c then { r with pending := none }
  else if r.pending = some c then { r with band := some c, pending := none }
  else { r with pending := some c }

/-- R128: a changed band is handed to its user, channel 0's to the Print Unit, and reported unless the
channel's event mask, as taken at its turn (R129, R185), is on. -/
def State.bandChanged (s : State) (ch : Nat) (masked : Bool) : State :=
  let s1 := if ch = 0 then s.pausedTest else s
  let r := s1.mon.channel ch
  if masked then s1 else s1.raise (.sensorBand ch r.band r.value)

/-- R127, R128: a channel takes its raw result: the value is stored, saturation tested, and the value classified. -/
def State.takeSample (s : State) (ch raw : Nat) (masked : Bool) : State :=
  let r := s.mon.channel ch
  let off := s.tables.sensorOffset ch
  let v := sampleValue raw off
  let sat := sampleSaturated raw off
  let r1 := AnalogRec.classed (classify (s.tables.sensorLow ch) (s.tables.sensorHigh ch) v)
    { r with value := v, valid := true, saturated := sat }
  let s1 := s.withChannel ch r1
  let s2 := if sat ∧ r.saturated = false then s1.raise (.sensorSaturated ch) else s1
  if r1.band ≠ r.band then s2.bandChanged ch masked else s2

/-- R129: a channel whose turn finds it disabled is made empty. -/
def State.emptyChannel (s : State) (ch : Nat) : State :=
  let r := s.mon.channel ch
  let s1 := s.withChannel ch AnalogRec.empty
  if r.band ≠ none then s1.bandChanged ch (s.tables.sensorMasked ch) else s1

/-! ### Rounds (R126) -/

/-- R126: the round visits the last n channels, 8 − n upward, up to the next converter transaction. -/
def State.visit (s : State) : Nat → State
  | 0 => s
  | n + 1 =>
    let ch := 7 - n
    if s.tables.sensorEnabled ch then
      s.withMon { s.mon with
        transaction := some { channel := ch, endsAt := s.now + Config.us 10, masked := s.tables.sensorMasked ch } }
    else State.visit (s.emptyChannel ch) n

/-- R126: the round goes on; a round that was asked for while it ran follows at its end (log entry 11). -/
def State.goRound (s : State) (n : Nat) : State :=
  let s1 := s.visit n
  if s1.mon.transaction = none ∧ s1.mon.roundQueued then
    State.visit (s1.withMon { s1.mon with roundQueued := false }) 8
  else s1

/-- R126: the interval between rounds in ms: SENSOR_PERIOD, or eight times it in STANDBY and in a sleep entry begun there. -/
def State.roundPeriod (s : State) : Nat :=
  if s.power.state = .standby ∨ (s.power.state = .enteringSleep ∧ s.power.origin = some .standby) then
    8 * s.tables.p Param.sensorPeriod
  else s.tables.p Param.sensorPeriod

/-- R126: a round starts, and the next start is set from it. -/
def State.startRound (s : State) : State :=
  let s1 := s.withMon { s.mon with
    lastRound := some { start := s.now, period := s.tables.p Param.sensorPeriod }
    nextRound := some (s.now + Config.ms s.roundPeriod) }
  if s1.mon.transaction.isSome then s1.withMon { s1.mon with roundQueued := true } else s1.goRound 8

/-- R126: entry to STANDBY from RUN moves the next start to eight periods after the start of the last round, or starts one at
once where that has passed. The period is the SENSOR_PERIOD taken at that start (R185). -/
def State.moveRound (s : State) : State :=
  match s.mon.lastRound with
  | none => s
  | some r =>
    let next := r.start + Config.ms (8 * r.period)
    if next ≤ s.now then s.startRound else s.withMon { s.mon with nextRound := some next }

/-! ### Debounce (R131 to R133) -/

/-- R132: an unsettled input counts equal samples. -/
def InputRec.settling (need : Nat) (v : Bool) (r : InputRec) : InputRec :=
  let n := if r.sample = some v then r.count + 1 else 1
  if need ≤ n then { level := some v, count := 0, sample := none } else { level := none, count := n, sample := some v }

/-- R131: a sample of an input; the count needed is DEBOUNCE, or 2 in STEP mode. -/
def InputRec.take (need : Nat) (v : Bool) (r : InputRec) : InputRec :=
  match r.level with
  | none => r.settling need v
  | some l =>
    if v = l then { r with count := 0 }
    else if need ≤ r.count + 1 then { level := some v, count := 0, sample := none }
    else { r with count := r.count + 1 }

/-- R134: a settled level has changed; the adoption of a first level is no change. -/
def levelChanged (before after : InputRec) : Bool :=
  match before.level, after.level with
  | some a, some b => a != b
  | _, _ => false

/-- The record of an input. -/
def Monitor.input (m : Monitor) (n : Nat) : InputRec := m.inputs[n]?.getD InputRec.unsettled

/-- The record of an input replaced. -/
def State.withInput (s : State) (n : Nat) (r : InputRec) : State :=
  s.withMon { s.mon with inputs := s.mon.inputs.setIfInBounds n r }

/-- R134: INPUT_CHANGE is raised unless INPUT_EVENT_MASK excludes the input. -/
def State.reportInput (s : State) (n : Nat) (v : Bool) : State :=
  if s.tables.inputMasked n then s else s.raise (.inputChange n v)

/-- R133: the step sample of DOC_EDGE applied to the monitor's own level, with a count of 2. -/
def State.edgeStep (s : State) (v : Bool) : State :=
  let r := s.mon.input Input.docEdge
  let r1 := r.take 2 v
  let s1 := s.withInput Input.docEdge r1
  if levelChanged r r1 then s1.reportInput Input.docEdge v else s1

end Sys2Proof.Machine
end

