-- ==== Sys2Proof/Machine/Steps.lean ====
section
/-! DEFINITION. Step events, settles, gaps and holds on the whole part (R110, R111, R118, R119). -/

namespace Sys2Proof.Machine

/-- R118: the owner of a channel is told of its rest; a FEED move raises FEED_DONE. -/
def State.tellRest (s : State) (m : Motor) : State :=
  match (s.mot m).owner with
  | .scan => s.scanRest
  | .print => s.printRest
  | .feed => s.raise (.feedDone m)
  | .nobody => s

/-- R118: after the owner has been told of the rest, a held request is taken, or the hold timer starts, unless the owner has
already asked for a move. -/
def State.afterRest (s : State) (m : Motor) : State :=
  let s1 := s.tellRest m
  let c := s1.mot m
  if c.state ≠ .hold then s1
  else
    match c.held with
    | some r => s1.withMot m (c.take s1.tables m s1.now 0 r)
    | none => s1.withMot m (c.startHold s1.tables m s1.now)

/-- R111 step 3: the owner is told of the step event, and what it asks is applied. -/
def State.tellStep (s : State) (m : Motor) (sample : Bool) : State :=
  match (s.mot m).owner with
  | .scan => s.scanStep sample
  | .print => s.printStep
  | .feed | .nobody => s

/-- R111 steps 5 and 6: a stop that was PENDING before the event is taken, and the channel rests or goes on. -/
def State.finishStep (s : State) (m : Motor) (wasPending : Bool) : State :=
  let c := s.mot m
  let c1 := if wasPending ∧ c.stop = .pending then c.takeStop else c
  if c1.remaining = some 0 then (s.withMot m c1.rest).afterRest m
  else s.withMot m (c1.goOn s.tables m s.now)

/-- R111, R133: a step event, with the step sample of DOC_EDGE for channel S (true is active). DOC_EDGE's INPUT_CHANGE precedes
the owner's own events (log entry 20). -/
def State.stepNow (s : State) (m : Motor) (sample : Bool) : State :=
  let c := s.mot m
  let s1 := s.withMot m (c.advance s.tables m s.now)
  let s2 := match m with
    | .s => s1.edgeStep sample
    | .p => s1
  (s2.tellStep m sample).finishStep m (c.stop == .pending)

end Sys2Proof.Machine
end

