-- ==== Sys2Proof/Machine/PowerCtl.lean ====
section
/-! DEFINITION. The power states (11_power_states_and_boot.md): timers, RUN and STANDBY, sleep asked for, entered and left. -/

namespace Sys2Proof.Machine

/-! ### Timers and gating -/

/-- R191: LAMP, HPWR and CUT are driven off and a strobe in progress is cut; MPWR follows the channels going OFF. An aborted
job's readout that still runs is not cut (log entry 49). -/
def State.gateOutputs (s : State) : State :=
  let s1 := s.withScan { s.scan with lamp := false }
  s1.withPrint { s1.print with hpwr := false, cutter := false, seq := .idle, seqEnds := none }

/-- R193: the sleep timer's deadline in minutes from now; none for a delay of 0. -/
def State.sleepDeadline (s : State) : Option Nat :=
  let d := s.tables.p Param.sleepDelay
  if d = 0 then none else some (s.now + Config.min d)

/-- R192: the standby timer's deadline in seconds from now; none for a delay of 0. -/
def State.standbyDeadline (s : State) : Option Nat :=
  let d := s.tables.p Param.standbyDelay
  if d = 0 then none else some (s.now + Config.sec d)

/-- R192: the standby timer starts when its conditions become true together and stops when one fails. -/
def State.syncStandby (s : State) : State :=
  if s.standbyConditions then
    if s.power.quiet then s
    else s.withPower { s.power with quiet := true, standbyTimer := s.standbyDeadline }
  else s.withPower { s.power with quiet := false, standbyTimer := none }

/-- R38: the auto self-refresh timer starts if its conditions hold. -/
def State.startAuto (s : State) : State :=
  s.withDram (s.dram.startAuto s.now (s.tables.p Param.autoSrDelay) (s.power.state == .standby))

/-! ### RUN and STANDBY (R193, R194) -/

/-- R193: the machine enters STANDBY from RUN. A round that starts at once (R126) does so before STANDBY_ENTERED is raised (log
entry 51). -/
def State.enterStandby (s : State) : State :=
  let s1 := s.withPower { s.power with
    state := .standby
    standbyTimer := none
    quiet := false
    sleepTimer := s.sleepDeadline }
  ((s1.gateOutputs.offBoth.startAuto).moveRound).raise .standbyEntered

/-- R194: a job command accepted in STANDBY returns the machine to RUN. The round that starts at once (R126) does so before
RUN_ENTERED is raised (log entry 51). -/
def State.enterRun (s : State) : State :=
  let s1 := s.withPower { s.power with state := .run, sleepTimer := none }
  ((s1.withDram (s1.dram.runEntry s1.now (s1.tables.p Param.srExitTime))).startRound).raise .runEntered

/-- R160, R192, R194, R196: a job command is accepted: it makes a condition of the standby timer fail, so the timer stops; a
pending sleep is cancelled, and STANDBY is left for RUN. -/
def State.jobAccepted (s : State) : State :=
  let s1 := s.withPower { s.power with quiet := false, standbyTimer := none }
  let s2 :=
    if s1.power.sleepPending.isSome then
      (s1.withPower { s1.power with sleepPending := none }).raise .sleepCancelled
    else s1
  if s2.power.state = .standby then s2.enterRun else s2

/-! ### Asking for sleep (R195, R196) -/

/-- R197: ENTERING_SLEEP begins: steps 1 and 2, and the bound of step 3. -/
def State.enterSleeping (s : State) : State :=
  let s1 := s.withPower { s.power with
    origin := some s.power.state
    state := .enteringSleep
    sleepPending := none
    standbyTimer := none
    sleepTimer := none
    quiet := false
    heldWake := none
    drdyDropped := false
    drdyBound := some (s.now + Config.ms 2)
    ordered := false }
  (s1.gateOutputs.offBoth).withDram { s.dram with autoTimer := none }

/-- R195: a sleep request: the entry begins at once, or the sleep becomes pending. -/
def State.askSleep (s : State) : State :=
  if s.quiescent then s.enterSleeping
  else
    s.withPower { s.power with
      sleepPending := some (s.now + Config.sec (s.tables.p Param.sleepWait))
      standbyTimer := none
      sleepTimer := none
      quiet := false }

/-- R196: the deadline of a pending sleep expires. -/
def State.abandonSleep (s : State) : State :=
  let s1 := (s.withPower { s.power with sleepPending := none }).raise .sleepAbandoned
  if s1.power.state = .standby then s1.withPower { s1.power with sleepTimer := s1.sleepDeadline } else s1

/-- R192, R196: after a step that may have changed their conditions, a pending sleep is entered when the machine has become
quiescent, and the standby timer starts or stops. -/
def State.settled (s : State) : State :=
  (if s.power.sleepPending.isSome ∧ s.quiescent then s.enterSleeping else s).syncStandby

/-! ### Entering, sleeping and waking (R197 to R200) -/

/-- R199: WAKING begins with a source: the wake order is given and the wake timer stops. -/
def State.startWaking (s : State) (w : WakeSource) : State :=
  let s1 := s.withPower { s.power with state := .waking, wakeSource := some w, heldWake := none, wakeTimer := none }
  s1.withDram (s1.dram.wake s1.now (s1.tables.p Param.srExitTime))

/-- R198: a wake source seen in ENTERING_SLEEP is held, the first only; in SLEEP it starts WAKING; elsewhere it has no
effect. -/
def State.wakeSeen (s : State) (w : WakeSource) : State :=
  match s.power.state with
  | .enteringSleep =>
    if s.power.heldWake = none then s.withPower { s.power with heldWake := some w } else s
  | .sleep => s.startWaking w
  | .boot | .run | .standby | .waking => s

/-- R135: the inputs sampled in SLEEP: DOC_IN, RING and KEY where WAKE_MASK has them. -/
def State.watched (s : State) (n : Nat) : Bool :=
  (n == Input.docIn || n == Input.ring || n == Input.key) && s.tables.wakeMask n

/-- R135: on reaching SLEEP the counts of the inputs not watched become 0. -/
def State.narrowInputs (s : State) : State :=
  s.withMon { s.mon with
    inputs := s.mon.inputs.mapFinIdx fun i r _ => if s.watched i then r else { r with count := 0, sample := none }
    nextRound := none
    roundQueued := false }

/-- R198: step 5: HSTBY is asserted, the power state becomes SLEEP and the wake timer starts; a held wake source starts WAKING
at once. -/
def State.reachSleep (s : State) : State :=
  let d := s.tables.p Param.wakeTimer
  let s1 := (s.withPower { s.power with
    state := .sleep
    hstby := true
    origin := none
    ordered := false
    wakeTimer := if d = 0 then none else some (s.now + Config.min d) }).narrowInputs
  match s1.power.heldWake with
  | some w => s1.startWaking w
  | none => s1

/-- R39, R198: SELF_REFRESH with cause SLEEP is reported to the power controller, which makes step 5. -/
def State.reportAsleep (s : State) : State :=
  if s.dram.asleep ∧ s.power.state = .enteringSleep then s.reachSleep else s

/-- R197: step 3: DRDY is dropped. -/
def State.dropDrdy (s : State) : State := s.withPower { s.power with drdyDropped := true, drdyBound := none }

/-- R198: step 4: the sleep order is given. -/
def State.giveSleepOrder (s : State) : State :=
  let s1 := s.withPower { s.power with ordered := true }
  (s1.withDram (s1.dram.order s1.now)).reportAsleep

/-- R200: steps 2 to 5 of WAKING, at the end of the exit. -/
def State.wakeUp (s : State) (w : WakeSource) : State :=
  let s1 := s.withPower { s.power with
    state := .standby
    hstby := false
    wakeSource := none
    drdyDropped := false
    sleepTimer := s.sleepDeadline }
  (((s1.choose).startRound).startAuto).raise (.woke w)

end Sys2Proof.Machine
end

