-- ==== Sys2Proof/Machine/Boot.lean ====
section
/-! DEFINITION. Table loads (10), the pool (R8), warm resets (R205 and each block's own rule) and the boot (11.7). -/

namespace Sys2Proof.Machine

/-! ### Loadable tables (R8, R37, R107, R183) -/

/-- R183: when an entry may be loaded. -/
inductive LoadRule where
  | always
  | scanIdle
  | printIdle
  | sAtRest
  | pAtRest
  | bothAtRest
  | empty
deriving DecidableEq, Repr

/-- R187: the loading condition of each PARAM entry. -/
def paramRule (i : Nat) : LoadRule :=
  if i = 0 then .empty
  else if i = 2 ∨ (15 ≤ i ∧ i ≤ 17) then .printIdle
  else if i ≤ 14 then .scanIdle
  else if i ≤ 24 then .always
  else if i = 25 ∨ i = 27 ∨ i = 29 ∨ i = 31 ∨ (33 ≤ i ∧ i ≤ 35) then .sAtRest
  else if i = 26 ∨ i = 28 ∨ i = 30 ∨ i = 32 ∨ (36 ≤ i ∧ i ≤ 38) then .pAtRest
  else if i = 39 then .bothAtRest
  else .always

/-- R183: the loading condition of an entry of a table. -/
def loadRule (id i : Nat) : LoadRule :=
  match id with
  | 0 => paramRule i
  | 1 | 2 => .scanIdle
  | 4 | 6 => .sAtRest
  | 5 | 7 => .pAtRest
  | _ => .always

/-- R183: a loading condition holds now. -/
def State.allows (s : State) : LoadRule → Bool
  | .always => true
  | .scanIdle => s.scan.isIdle
  | .printIdle => s.print.isIdle
  | .sAtRest => s.motS.atRest
  | .pAtRest => s.motP.atRest
  | .bothAtRest => s.motS.atRest && s.motP.atRest
  | .empty => s.store.directoryEmpty && s.noJob

/-- R183: every entry a record would write may be loaded now. -/
def State.loadable (s : State) (id start n : Nat) : Bool :=
  (List.range n).all fun k => s.allows (loadRule id (start + k))

/-- R8: the pool is built from a number of banks. -/
def PageStore.build (banks : Nat) (p : PageStore) : PageStore :=
  { p with
    poolSize := Config.bandsPerBank * banks
    freeList := (List.finRange 512).take (Config.bandsPerBank * banks) }

/-- R8, R37: BANKS has been written with another value: the controller takes or holds the change, a pool already built is
built again, and what stood in banks beyond it is lost. -/
def State.banksChanged (s : State) : State :=
  let b := s.tables.p Param.banks
  let s1 := (s.withDram (s.dram.changeBanks b)).withMem (s.mem.below (b * Config.bankBytes))
  if s.store.poolSize = 0 then s1 else s1.withStore (s.store.build b)

/-- R107: the held coils of a channel are driven to the new pattern of a phase table. -/
def State.redriveHold (s : State) (m : Motor) : State :=
  let c := s.mot m
  if c.state = .hold then s.withMot m (c.redrive s.tables m s.now (s.tables.phase m c.phase)) else s

/-- R183, R184: the tables are replaced, and a change of BANKS or of a phase table takes its effect. A load that leaves a phase
table as it was drives nothing (log entry 35). -/
def State.replaceTables (s : State) (t : Tables) : State :=
  let s1 := s.withTables t
  let s2 := if t.phaseS ≠ s.tables.phaseS then s1.redriveHold .s else s1
  let s3 := if t.phaseP ≠ s.tables.phaseP then s2.redriveHold .p else s2
  if t.p Param.banks ≠ s.tables.p Param.banks then s3.banksChanged else s3

/-- What a LOAD TABLE comes to: refused for its range or its users, or accepted. -/
inductive LoadOutcome where
  | badParameter
  | tableBusy
  | accepted (written clamped : Nat)
deriving DecidableEq, Repr

/-- R166: the values a record's bytes hold for a table. -/
def loadValues (id : Nat) (bytes : List Byte) : List Nat := entryValues ((tableWidth id).getD 1) bytes

/-- R166, R183: the checks of a LOAD TABLE, and the counts of its reply. -/
def State.loadOutcome (s : State) (id start : Nat) (bytes : List Byte) : LoadOutcome :=
  match tableEntries id with
  | none => .badParameter
  | some n =>
    let vals := loadValues id bytes
    if vals = [] ∨ n < start + vals.length then .badParameter
    else if s.loadable id start vals.length then .accepted vals.length (clampedCount s.tables id start vals)
    else .tableBusy

/-- R183: the state after an accepted LOAD TABLE. -/
def State.applyLoad (s : State) (id start : Nat) (bytes : List Byte) : State :=
  s.replaceTables (s.tables.load id start (loadValues id bytes))

/-! ### Warm resets (R24, R44, R70, R90, R124, R136, R156) -/

/-- R24: a page record after a warm reset. -/
def PageRec.warm (r : PageRec) : PageRec :=
  let r1 := if r.state = .opened then r.close true else r
  { r1 with printHold := 0, linkHold := 0, consumer := none }

/-- R24: the Page Store after a warm reset: the filling bands of the open pages return, in page order. -/
def PageStore.warmReset (p : PageStore) : PageStore :=
  { p with
    pages := p.pages.map PageRec.warm
    freeList := p.freeList ++ p.pages.toList.flatMap fun r => if r.state = .opened then r.returned else []
    scanWaits := false
    memoryLow := false
    poolWait := none }

/-- R90: the Print Unit after a warm reset. -/
def PrintUnit.warmReset (u : PrintUnit) : PrintUnit := { PrintUnit.reset with headDots := u.headDots }

/-- R24, R44, R70, R90, R124: the warm reset of every block but the Sensor Monitor, the Stream Link and the power controller,
which take a WRST and a RESTART each in their own way. -/
def State.warmBlocks (s : State) : State :=
  ((((s.withStore s.store.warmReset).withDram s.dram.warmReset).withScan ScanUnit.reset).withPrint
    s.print.warmReset).resetBoth

/-- R136: the Sensor Monitor after WRST: sampling begins at once. -/
def State.warmMonitor (s : State) : State :=
  s.withMon { Monitor.reset with nextSample := some (s.now + Config.ms 1) }

/-! ### The boot (R201 to R204) -/

/-- R201: the boot source that the straps give; none where no stream is read. -/
def bootSource (bootsel1 bootsel0 : Bool) : Option BootSource :=
  match bootsel1, bootsel0 with
  | false, true => some .oneByte
  | true, false => some .twoByte
  | _, _ => none

/-- R202: the bytes the master sends in steps 1 to 3 of an attempt: the device select for writing, word address 0 in one byte
or two, and the device select for reading. -/
def BootSource.bytes : BootSource → List Byte
  | .oneByte => [0xA0#8, 0x00#8, 0xA1#8]
  | .twoByte => [0xA0#8, 0x00#8, 0x00#8, 0xA1#8]
  | .absent => []

/-- R202: how many bytes the master sends in steps 1 to 3 of an attempt. -/
def BootSource.sends (b : BootSource) : Nat := b.bytes.length

/-- R202: what the master puts on the bus for byte n of an attempt: a device select follows a start or repeated start. -/
def BootSource.signs (b : BootSource) (n : Nat) : List WireSign :=
  match b.bytes[n]? with
  | some x => if n = 0 ∨ n + 1 = b.sends then [.start, .byte x] else [.byte x]
  | none => []

/-- R205: a two-wire transfer is in progress: bytes are sent or read. -/
def TwoWire.busy : TwoWire → Bool
  | .sending _ | .reading => true
  | .idle | .waiting _ => false

/-- R201: a boot begins: HRSTO is asserted, the power state is BOOT and the boot record is reset. With source NONE the outcome
is NO_SOURCE at once. A transfer of an abandoned boot is ended with a stop condition (R205). -/
def State.beginBoot (s : State) (cause : BootCause) : State :=
  let src := bootSource s.power.bootsel1 s.power.bootsel0
  s.withPower { s.power with
    state := .boot
    origin := none
    sleepPending := none
    standbyTimer := none
    sleepTimer := none
    wakeTimer := none
    heldWake := none
    wakeSource := none
    hrsto := true
    drdyDropped := false
    drdyBound := none
    ordered := false
    quiet := false
    boot := { BootRec.start cause with
      source := some (src.getD .absent)
      outcome := if src.isSome then none else some .noSource }
    twoWire := if src.isSome then .sending 0 else .idle
    wire := (if s.power.twoWire.busy then [.stop] else []) ++ (src.getD .absent).signs 0
    bootHeader := []
    bootPayload := [] }

/-- The boot record replaced. -/
def State.withBoot (s : State) (b : BootRec) : State := s.withPower { s.power with boot := b }

/-- R203: the outcome is known and the two-wire master is idle. -/
def State.bootEnds (s : State) (o : BootOutcome) : State :=
  s.withPower { s.power with boot := { s.power.boot with outcome := some o }, twoWire := .idle }

/-- What the two-wire master puts on the bus at a step (R202). -/
def State.withWire (s : State) (w : List WireSign) : State := s.withPower { s.power with wire := w }

/-- R202: a byte of steps 1 to 3 has been sent. An attempt that fails ends with a stop condition and is counted, and the fourth
gives NO_DEVICE; one whose last byte is acknowledged is counted and reads on. -/
def State.byteSent (s : State) (n : Nat) (acknowledged : Bool) : State :=
  let b := s.power.boot
  let src := b.source.getD .absent
  let b1 := { b with attempts := b.attempts + 1 }
  if acknowledged then
    if n + 1 < src.sends then s.withPower { s.power with twoWire := .sending (n + 1), wire := src.signs (n + 1) }
    else s.withPower { s.power with twoWire := .reading, wire := [], boot := b1 }
  else if 4 ≤ b1.attempts then ((s.withBoot b1).bootEnds .noDevice).withWire [.stop]
  else s.withPower { s.power with twoWire := .waiting (s.now + Config.ms 10), wire := [.stop], boot := b1 }

/-- R202: the 10 ms wait after a failed attempt has ended, and a new attempt begins at step 1. -/
def State.attemptAgain (s : State) : State :=
  s.withPower { s.power with twoWire := .sending 0, wire := (s.power.boot.source.getD .absent).signs 0 }

/-- R203: whether a header with its LENGTH complete is a fault: a LENGTH above 2048, an END whose LENGTH is not 2, or a
LOAD TABLE too short for its id, start index and one byte. -/
def headerFault (kind : Byte) (length : Nat) : Bool :=
  decide (Config.maxPayload < length) || (kind == kindEnd && length != 2) ||
    (kind == kindLoadTable && decide (length < 4))

/-- The LENGTH of a complete header. -/
def headerLength : List Byte → Nat
  | [_, _, _, hi, lo] => (half hi lo).toNat
  | _ => 0

/-- The KIND of a header. -/
def headerKind (h : List Byte) : Byte := h[1]?.getD 0#8

/-- R203: a complete LOAD TABLE of the stream is applied as a host load taken at that instant would be; one that would be
refused is not, and is not counted. -/
def State.applyBootRecord (s : State) (payload : List Byte) : State :=
  match payload with
  | t :: hi :: lo :: entries =>
    match s.loadOutcome t.toNat (half hi lo).toNat entries with
    | .accepted _ _ =>
      let s1 := s.applyLoad t.toNat (half hi lo).toNat entries
      s1.withBoot { s1.power.boot with applied := min 255 (s1.power.boot.applied + 1) }
    | .badParameter | .tableBusy => s
  | _ => s

/-- R203: a header byte of the stream. -/
def State.bootHeaderByte (s : State) (b : Byte) : State :=
  let h := s.power.bootHeader ++ [b]
  let s1 := s.withPower { s.power with bootHeader := h, bootPayload := [] }
  if h.length = 1 ∧ b ≠ syncByte then s1.bootEnds .format
  else if h.length = 2 ∧ b ≠ kindLoadTable ∧ b ≠ kindEnd then s1.bootEnds .format
  else if h.length = 5 ∧ headerFault (headerKind h) (headerLength h) then s1.bootEnds .format
  else s1

/-- R203: a payload byte of the stream. -/
def State.bootPayloadByte (s : State) (b : Byte) : State :=
  let h := s.power.bootHeader
  let p := s.power.bootPayload ++ [b]
  let s1 := s.withPower { s.power with bootPayload := p }
  let done := s1.withPower { s1.power with bootHeader := [], bootPayload := [] }
  if headerKind h = kindEnd then
    match p with
    | [hi, lo] => done.bootEnds (if (half hi lo).toNat = s.power.boot.sum then .ok else .sum)
    | _ => s1
  else if p.length = 1 ∧ !loadFits b.toNat (headerLength h - 3) then s1.bootEnds .format
  else if p.length = headerLength h then done.applyBootRecord p
  else s1

/-- R203: the running sum takes every byte but those of END's payload. -/
def State.sumByte (s : State) (b : Byte) : State :=
  let r := s.power.boot
  let inEnd := s.power.bootHeader.length == 5 && headerKind s.power.bootHeader == kindEnd
  s.withBoot { r with bytes := r.bytes + 1, sum := if inEnd then r.sum else (r.sum + b.toNat) % 65536 }

/-- R202: the master acknowledges a byte it has read, and the byte that ends the stream it does not, but sends a stop. -/
def State.answerByte (s : State) : State :=
  s.withWire (if s.power.boot.outcome = none then [.acknowledge] else [.notAcknowledge, .stop])

/-- R203: a byte of the stream. A stream of 8192 bytes without its END is a fault. -/
def State.streamByte (s : State) (b : Byte) : State :=
  let s1 := s.sumByte b
  let s2 := if s1.power.bootHeader.length < 5 then s1.bootHeaderByte b else s1.bootPayloadByte b
  (if s2.power.boot.outcome = none ∧ Config.maxStreamBytes ≤ s2.power.boot.bytes then s2.bootEnds .format
    else s2).answerByte

/-- R189: the tables of a boot that ended in failure: the built-in defaults, BANKS kept while the directory holds a page. -/
def State.fallbackTables (s : State) : Tables :=
  if s.store.directoryEmpty then Tables.defaults
  else Tables.defaults.put 0 Param.banks (s.tables.p Param.banks)

/-- R204: whether an outcome writes the defaults. -/
def BootOutcome.failed : BootOutcome → Bool
  | .noDevice | .sum | .format => true
  | .ok | .noSource => false

/-- R204: the end of boot. -/
def State.finishBoot (s : State) (o : BootOutcome) : State :=
  let s1 := if o.failed then s.replaceTables s.fallbackTables else s
  let s2 := if s1.store.poolSize = 0 then s1.withStore (s1.store.build (s1.tables.p Param.banks)) else s1
  let n := s2.power.boot.applied
  let s3 := s2.withPower { s2.power with
    state := .run
    hrsto := false
    lastBoot := some (o, n)
    quiet := false }
  (s3.startRound).raise (.bootDone o n)

/-! ### WRST and RESTART (R205) -/

/-- R156: the Stream Link after WRST. -/
def Link.afterWrst (l : Link) : Link := { Link.reset with dataOut := l.dataOut }

/-- R205: WRST while the part boots keeps the cause POR. -/
def State.wrstCause (s : State) : BootCause :=
  if s.power.state = .boot ∧ s.power.boot.cause = .por then .por else .wrst

/-- R205: every block after WRST, with the controller's own timers and records cleared. R44: WRST acts on the page memory
controller as RUN entry does when the cause is none or AUTO. -/
def State.wrstBlocks (s : State) : State :=
  let s1 := s.warmBlocks.warmMonitor
  let s2 := s1.withLink s.link.afterWrst
  let s3 := s2.withDram (if s2.dram.cause = some .sleep then s2.dram
    else s2.dram.runEntry s2.now (s2.tables.p Param.srExitTime))
  s3.withPower { s3.power with
    sleepPending := none
    standbyTimer := none
    sleepTimer := none
    wakeTimer := none
    heldWake := none
    drdyBound := none
    quiet := false
    hrsto := true }

/-- R205: HSTBY is deasserted, the boot begins, and WOKE with source WRST stands before BOOT_DONE. -/
def State.wrstWoke (s : State) (cause : BootCause) : State :=
  ((s.withPower { s.power with hstby := false }).beginBoot cause).raise (.woke .wrst)

/-- R205: a WRST, by the power state that it finds. -/
def State.warmRestart (s : State) (bootsel1 bootsel0 : Bool) : State :=
  let cause := s.wrstCause
  let s0 := s.withPower { s.power with bootsel1 := bootsel1, bootsel0 := bootsel0 }
  let s1 := s0.wrstBlocks
  match s.power.state with
  | .boot | .run | .standby => s1.beginBoot cause
  | .enteringSleep =>
    if s.power.ordered = false then s1.beginBoot cause
    else if s1.dram.cause = some .sleep then s1.withPower { s1.power with heldWake := some .wrst }
    else s1.wrstWoke cause
  | .sleep => s1.startWaking .wrst
  | .waking => s1.withPower { s1.power with wakeSource := some .wrst }

/-- R41, R200, R205: SR_EXIT has ended: ACTIVE is entered, and WAKING continues to STANDBY or to the boot of a WRST. -/
def State.exitEnded (s : State) : State :=
  let woken := s.dram.wakeExit
  let s1 := (s.withDram (s.dram.enterActive s.now (s.tables.p Param.refreshInterval))).startAuto
  if woken ∧ s1.power.state = .waking then
    match s1.power.wakeSource with
    | some .wrst => s1.wrstWoke .wrst
    | some w => s1.wakeUp w
    | none => s1
  else s1

/-- R156: the Stream Link after RESTART, before its reply: the downstream and upstream FIFOs are kept. -/
def Link.afterRestart (l : Link) : Link :=
  { Link.reset with down := l.down, up := l.up, dataOut := l.dataOut }

/-- R198, R205: the power controller after RESTART: a pending sleep is cleared, an entry to sleep is ended in its origin, and
the timers start afresh. -/
def State.restartPower (s : State) : State :=
  let entering := s.power.state = .enteringSleep
  let st := if s.power.state = .enteringSleep then s.power.origin.getD .run else s.power.state
  let s1 := s.withPower { s.power with
    state := st
    origin := none
    sleepPending := none
    heldWake := none
    drdyDropped := false
    drdyBound := none
    ordered := false
    standbyTimer := none
    quiet := false
    sleepTimer := if st = .standby then s.sleepDeadline else none }
  if entering then s1.startAuto else s1

/-- R176, R205: the warm reset that a RESTART makes, before its reply. -/
def State.restartBlocks (s : State) : State :=
  let s1 := s.warmBlocks
  (s1.withLink s.link.afterRestart).restartPower

/-- R70, R90, R156: the events that follow a RESTART's reply. -/
def State.restartEvents (s : State) : List Event :=
  (if s.scan.job.state = .idle then [] else [.scanAborted (s.scan.job.page.getD 0) .restart]) ++
    s.print.queue.map (fun e => .printCancelled e.page) ++
    s.link.reads.map (fun e => .readDone e.page e.placed true)

end Sys2Proof.Machine
end

