-- ==== Sys2Proof/Machine/Inputs.lean ====
section
/-! DEFINITION. Digital inputs on the whole part (R131 to R135): what a change of level does, and the 1 ms sample. -/

namespace Sys2Proof.Machine

/-- R134: COVER_OPEN has become active: the Scan Unit acts, then the Print Unit, and both channels are halted, so that nothing
given to a channel in this step moves it (log entry 12). -/
def State.coverOpened (s : State) : State := s.scanCover.printCover.haltBoth

/-- R135: the wake source that an input is. -/
def wakeSourceOf (n : Nat) : Option WakeSource :=
  if n = Input.docIn then some .docIn
  else if n = Input.ring then some .ring
  else if n = Input.key then some .key
  else none

/-- R134, R135: a new level is handed to the blocks that act on it. -/
def State.handInput (s : State) (n : Nat) (v : Bool) : State :=
  if v = false then s
  else if n = Input.coverOpen then s.coverOpened
  else if n = Input.paperOut then s.printPaper
  else
    match wakeSourceOf n with
    | some w => if s.watched n then s.wakeSeen w else s
    | none => s

/-- R131, R134: an input takes a sample by time; a changed level is handed on and then reported, in BOOT as in any other state (log
entry 47). -/
def State.sampleInput (s : State) (n : Nat) (v : Bool) : State :=
  let r := s.mon.input n
  let r1 := r.take (s.tables.p Param.debounce) v
  let s1 := s.withInput n r1
  if levelChanged r r1 then (s1.handInput n v).reportInput n v else s1

/-- R131, R133, R135: whether an input is sampled by time now. DOC_EDGE is not while channel S moves, and in SLEEP and in
WAKING only the watched inputs are, but for the boot that a WRST begins. -/
def State.samples (s : State) (n : Nat) : Bool :=
  if n = Input.docEdge ∧ s.motS.moving then false
  else
    match s.power.state with
    | .sleep => s.watched n
    | .waking => s.watched n || s.power.wakeSource == some .wrst
    | .boot | .run | .standby | .enteringSleep => true

/-- R131: the inputs from number 6 − n on are sampled in order. A low pin is active. -/
def State.sampleInputs (s : State) (pins : BitVec 6) : Nat → State
  | 0 => s
  | n + 1 =>
    let i := 5 - n
    State.sampleInputs (if s.samples i then s.sampleInput i (!pins.getLsbD i) else s) pins n

end Sys2Proof.Machine
end

