-- ==== Sys2Proof/Machine/Commands.lean ====
section
/-! DEFINITION. The command reference (09) and the data records (08.4): each command's checks, effect and reply. -/

namespace Sys2Proof.Machine

/-! ### Replies (R142, R158) -/

/-- R158: a reply to a command. -/
def State.answer (s : State) (tag kind : Byte) (code : ResultCode) (data : List Byte) : State :=
  s.reply { tag := tag, kind := kind, code := code, data := data }

/-- R158: a refusal, which carries no result data and changes nothing else. -/
def State.refuse (s : State) (tag kind : Byte) (code : ResultCode) : State := s.answer tag kind code []

/-- R158: an acceptance without result data. -/
def State.accept (s : State) (tag kind : Byte) : State := s.answer tag kind .accepted []

/-- R160: the code that a check of the power state gives a job command, STANDBY or SLEEP in ENTERING_SLEEP. -/
def State.entering (s : State) : Bool := s.power.state == .enteringSleep

/-! ### Pages (R164, R167, R170, R171, R175) -/

/-- R167: the fields of an OPEN PAGE that are in range. -/
structure OpenFields where
  page : Nat
  kind : PageKind
  mode : PageMode
  width : Nat
  res : Resolution
  retain : Bool
  label : Half
deriving DecidableEq, Repr

/-- R167: 512 to 2048, a multiple of 64. -/
def widthOk (w : Nat) : Bool := decide (512 ≤ w ∧ w ≤ 2048) && w % 64 == 0

/-- R159, R167: the fields of an OPEN PAGE, none where one that is checked lies out of range. A BLOCK page's width and
resolution and a STREAM page's retain flag are not checked. -/
def openFields (page kind mode : Byte) (width : Half) (resolution retain : Byte) (label : Half) : Option OpenFields :=
  match kindOf kind, modeOf mode with
  | some k, some m =>
    if page.toNat ≤ 31 ∧ (k = .block ∨ (widthOk width.toNat ∧ (resolutionOf resolution).isSome)) ∧
        (m = .stream ∨ (flagOf retain).isSome) then
      some { page := page.toNat, kind := k, mode := m, width := width.toNat, res := (resolutionOf resolution).getD .std,
             retain := (flagOf retain).getD false, label := label }
    else none
  | _, _ => none

/-- R167. -/
def State.doOpenPage (s : State) (tag page kind mode : Byte) (width : Half) (resolution retain : Byte) (label : Half) :
    State :=
  match openFields page kind mode width resolution retain label with
  | none => s.refuse tag 0x01#8 .badParameter
  | some f =>
    if (s.page f.page).state ≠ .free then s.refuse tag 0x01#8 .pageInUse
    else
      (s.accept tag 0x01#8).withPage f.page (PageRec.opened f.kind f.mode .link f.width f.res f.retain f.label)

/-- R164. -/
def State.doClosePage (s : State) (tag page : Byte) : State :=
  let r := s.page page.toNat
  if 31 < page.toNat then s.refuse tag 0x02#8 .badParameter
  else if r.state = .free then s.refuse tag 0x02#8 .noPage
  else if r.state ≠ .opened ∨ r.writer ≠ some .link then s.refuse tag 0x02#8 .wrongState
  else (s.accept tag 0x02#8).closePage page.toNat false

/-- R19, R175. -/
def State.doReleasePage (s : State) (tag page : Byte) : State :=
  let r := s.page page.toNat
  if 31 < page.toNat then s.refuse tag 0x03#8 .badParameter
  else if r.state = .free then s.refuse tag 0x03#8 .noPage
  else if 0 < r.printHold ∨ 0 < r.linkHold then s.refuse tag 0x03#8 .pageHeld
  else if r.state = .opened ∧ r.writer = some .scan then s.refuse tag 0x03#8 .wrongState
  else (s.accept tag 0x03#8).releasePage page.toNat

/-- The code of a value that may be absent, which is sent as 0. -/
def codeOf {α : Type} (f : α → Nat) : Option α → Nat
  | some x => f x
  | none => 0

/-- R23, 13.4: the result data of QUERY PAGE. -/
def PageRec.report (r : PageRec) : List Byte :=
  [byteOf r.state.code, byteOf (codeOf PageKind.code r.kind), byteOf (codeOf PageMode.code r.mode),
   byteOf (codeOf Writer.code r.writer)] ++
  twoBytes (r.width.getD 0) ++
  [byteOf (codeOf Resolution.code r.resolution), flagByte (r.retain.getD false)] ++
  halfBytes r.label ++ threeBytes r.committed ++ threeBytes r.base ++ twoBytes r.chain.length ++
  [flagByte r.filling, byteOf r.printHold, byteOf r.linkHold, flagByte r.truncated, byteOf r.repeats,
   byteOf (codeOf Reader.code r.consumer)] ++
  threeBytes r.mark

/-- R170. -/
def State.doQueryPage (s : State) (tag page : Byte) : State :=
  if 31 < page.toNat then s.refuse tag 0x04#8 .badParameter
  else s.answer tag 0x04#8 .accepted (s.page page.toNat).report

/-- R23, R171, 13.4: the result data of QUERY POOL. -/
def State.poolReport (s : State) : List Byte :=
  twoBytes s.store.poolSize ++ twoBytes s.store.freeList.length ++ [byteOf s.reserve, flagByte s.store.poolWait.isSome]

/-- R171. -/
def State.doQueryPool (s : State) (tag : Byte) : State := s.answer tag 0x05#8 .accepted s.poolReport

/-! ### Scanning (R163, R178, R179) -/

/-- R47: the fields of a SCAN that are in range. -/
structure ScanFields where
  page : Nat
  res : Resolution
  mode : PageMode
  retain : Bool
  label : Half
  source : ScanSource
  pattern : Option Pattern
  lineCount : Nat
deriving DecidableEq, Repr

/-- R47, R159: the fields of a SCAN, none where one that is checked lies out of range. -/
def scanFields (maxLines : Nat) (page resolution mode retain : Byte) (label : Half) (source pattern : Byte)
    (lineCount : Half) : Option ScanFields :=
  match resolutionOf resolution, modeOf mode, sourceOf source with
  | some r, some m, some src =>
    if page.toNat ≤ 31 ∧ (m = .stream ∨ (flagOf retain).isSome) ∧
        (src = .sensor ∨ ((patternOf pattern).isSome ∧ 1 ≤ lineCount.toNat ∧ lineCount.toNat ≤ maxLines)) then
      some { page := page.toNat, res := r, mode := m, retain := (flagOf retain).getD false, label := label, source := src,
             pattern := if src = .pattern then patternOf pattern else none,
             lineCount := if src = .pattern then lineCount.toNat else 0 }
    else none
  | _, _, _ => none

/-- R47: the job record of an accepted SCAN. -/
def State.newJob (s : State) (f : ScanFields) : ScanJob :=
  { ScanJob.idle with
    state := .starting
    page := some f.page
    source := some f.source
    pattern := f.pattern
    lineCount := f.lineCount
    resolution := some f.res
    steps := f.res.scanSteps
    floor := s.tables.scanFloor f.res.scanSteps
    startEnds := some (s.now + Config.ms (s.tables.p Param.powerSettle)) }

/-- R47: the effect of an accepted SCAN. -/
def State.startScan (s : State) (f : ScanFields) : State :=
  let standby := s.power.state = .standby
  let s1 := (s.withPage f.page
    (PageRec.opened .image f.mode .scan (s.tables.p Param.scanWidth) f.res f.retain f.label)).withJob (s.newJob f)
  let s2 := s1.jobAccepted
  if standby then s2 else s2.scanBegin

/-- R47, R178. -/
def State.doScan (s : State) (tag page resolution mode retain : Byte) (label : Half) (source pattern : Byte)
    (lineCount : Half) : State :=
  match scanFields (s.tables.p Param.maxDocLines) page resolution mode retain label source pattern lineCount with
  | none => s.refuse tag 0x08#8 .badParameter
  | some f =>
    if s.entering then s.refuse tag 0x08#8 .wrongState
    else if s.scan.isIdle = false ∨ s.motS.atRest = false then s.refuse tag 0x08#8 .unitBusy
    else if (s.page f.page).state ≠ .free then s.refuse tag 0x08#8 .pageInUse
    else if f.source = .sensor ∧ s.active Input.docIn = false then s.refuse tag 0x08#8 .noMedia
    else if s.active Input.coverOpen then s.refuse tag 0x08#8 .coverOpen
    else (s.accept tag 0x08#8).startScan f

/-- R68, R163. -/
def State.doCancelScan (s : State) (tag : Byte) : State :=
  if s.scan.job.state = .idle then s.refuse tag 0x09#8 .wrongState
  else (s.accept tag 0x09#8).scanAbortStop .cancel

/-- R65: the effect of an accepted SHADE. -/
def State.startShade (s : State) : State :=
  let c : Calibration :=
    { settleEnds := some (s.now + Config.ms (s.tables.p Param.powerSettle)), readoutEnds := none, readouts := 0, sums := [] }
  let standby := s.power.state = .standby
  let s1 := (s.withScan { s.scan with calibration := some c }).jobAccepted
  if standby then s1 else s1.beginReading

/-- R65, R179. -/
def State.doShade (s : State) (tag : Byte) : State :=
  if s.entering then s.refuse tag 0x0A#8 .wrongState
  else if s.scan.isIdle = false ∨ s.active Input.docIn then s.refuse tag 0x0A#8 .wrongState
  else if s.active Input.coverOpen then s.refuse tag 0x0A#8 .coverOpen
  else (s.accept tag 0x0A#8).startShade

/-! ### Printing (R161, R168, R177) -/

/-- R72: the effect of an accepted PRINT. -/
def State.startPrint (s : State) (p copies : Nat) : State :=
  let standby := s.power.state == .standby
  let first := s.print.queue.isEmpty
  let r := s.page p
  let e : PrintEntry := { page := p, copies := copies, done := 0, cursor := if r.mode = some .stream then r.base else 0 }
  let s1 := (s.withPrint { s.print with queue := s.print.queue ++ [e] }).addHold p .print r.base
  let s2 := s1.jobAccepted
  if first then s2.beginCopy standby else s2

/-- R72, R168. -/
def State.doPrint (s : State) (tag page copies : Byte) : State :=
  let r := s.page page.toNat
  if 31 < page.toNat ∨ copies.toNat = 0 ∨ 99 < copies.toNat then s.refuse tag 0x0C#8 .badParameter
  else if s.entering then s.refuse tag 0x0C#8 .wrongState
  else if r.state = .free then s.refuse tag 0x0C#8 .noPage
  else if r.kind ≠ some .image then s.refuse tag 0x0C#8 .wrongState
  else if r.mode = some .stream ∧ copies.toNat ≠ 1 then s.refuse tag 0x0C#8 .badParameter
  else if r.mode = some .stream ∧ r.consumer.isSome then s.refuse tag 0x0C#8 .wrongState
  else if Config.printCapacity ≤ s.print.queue.length then s.refuse tag 0x0C#8 .queueFull
  else (s.accept tag 0x0C#8).startPrint page.toNat copies.toNat

/-- R161: how many entries of the print queue a cancellation matches. -/
def State.printMatches (s : State) (field : Nat) : Nat := s.print.queue.countP fun e => matchesPage field e.page

/-- R89, R161. -/
def State.doCancelPrint (s : State) (tag page : Byte) : State :=
  if 31 < page.toNat ∧ page.toNat ≠ 0xFF then s.refuse tag 0x0D#8 .badParameter
  else if page.toNat ≠ 0xFF ∧ s.printMatches page.toNat = 0 then s.refuse tag 0x0D#8 .wrongState
  else (s.answer tag 0x0D#8 .accepted [byteOf (s.printMatches page.toNat)]).cancelPrints page.toNat

/-- R88, R177. -/
def State.doResumePrint (s : State) (tag : Byte) : State :=
  if s.entering then s.refuse tag 0x0E#8 .wrongState
  else if s.print.copy.state ≠ .suspended then s.refuse tag 0x0E#8 .wrongState
  else if s.active Input.coverOpen then s.refuse tag 0x0E#8 .coverOpen
  else if s.active Input.paperOut then s.refuse tag 0x0E#8 .noMedia
  else (((s.accept tag 0x0E#8).jobAccepted).resetCursor).startCopy true

/-! ### Reading out (R162, R173) -/

/-- R173: the greatest start and count of a page's kind. -/
def PageRec.readRange (r : PageRec) : Nat × Nat :=
  if r.kind = some .block then (Config.maxBlockBytes, Config.maxBlockBytes) else (Config.maxLines, Config.maxLines + 1)

/-- R147, R16, R17: the effect of an accepted READ PAGE. The cursor begins at the start, of a KEEP page too, where R15 has the
cursor begin at 0 (log entry 43). The consume mark's start may consume bands. -/
def State.startRead (s : State) (p start count : Nat) : State :=
  let e : ReadEntry := { page := p, start := start, count := count, cursor := start, placed := 0 }
  let s1 := ((s.withReads (s.link.reads ++ [e])).addHold p .link start).jobAccepted
  let s2 := if (s1.page p).mode = some .stream then s1.consumeAll p else s1
  if s.link.reads = [] then s2.readOn else s2

/-- R173. The range check of start and count, which needs the page's kind, stands where R173's table puts it, behind the check
of ENTERING_SLEEP (R160) and NO_PAGE (log entry 37). -/
def State.doReadPage (s : State) (tag page : Byte) (start count : Offset) : State :=
  let r := s.page page.toNat
  if 31 < page.toNat then s.refuse tag 0x10#8 .badParameter
  else if s.entering then s.refuse tag 0x10#8 .wrongState
  else if r.state = .free then s.refuse tag 0x10#8 .noPage
  else if r.readRange.1 < start.toNat ∨ r.readRange.2 < count.toNat then s.refuse tag 0x10#8 .badParameter
  else if r.mode = some .stream ∧ r.consumer.isSome then s.refuse tag 0x10#8 .wrongState
  else if r.mode = some .stream ∧ start.toNat < r.base then s.refuse tag 0x10#8 .badParameter
  else if Config.readCapacity ≤ s.link.reads.length then s.refuse tag 0x10#8 .queueFull
  else (s.accept tag 0x10#8).startRead page.toNat start.toNat count.toNat

/-- R162: how many entries of the link read queue a cancellation matches. -/
def State.readMatches (s : State) (field : Nat) : Nat := s.link.reads.countP fun e => matchesPage field e.page

/-- R151, R162. -/
def State.doCancelRead (s : State) (tag page : Byte) : State :=
  if 31 < page.toNat ∧ page.toNat ≠ 0xFF then s.refuse tag 0x11#8 .badParameter
  else if page.toNat ≠ 0xFF ∧ s.readMatches page.toNat = 0 then s.refuse tag 0x11#8 .wrongState
  else (s.answer tag 0x11#8 .accepted [byteOf (s.readMatches page.toNat)]).cancelReads page.toNat

/-! ### Motors (R165) -/

/-- R122: the effect of an accepted FEED: a counted move, its settle lengthened by POWER_SETTLE when it is taken in
STANDBY. -/
def State.startFeed (s : State) (m : Motor) (n : Nat) : State :=
  let power := if s.power.state = .standby then s.tables.p Param.powerSettle else 0
  (s.jobAccepted).requestMove m power
    { owner := .feed, ask := .counted n, steps := 1, cruise := s.tables.p Param.cruiseFeed, floor := 0 }

/-- R121: whether the unit of a channel is idle. -/
def State.unitIdle (s : State) : Motor → Bool
  | .s => s.scan.isIdle
  | .p => s.print.isIdle

/-- R121, R165. -/
def State.doFeed (s : State) (tag channel : Byte) (steps : Half) : State :=
  match motorOf channel with
  | none => s.refuse tag 0x14#8 .badParameter
  | some m =>
    if steps.toNat = 0 then s.refuse tag 0x14#8 .badParameter
    else if s.entering then s.refuse tag 0x14#8 .wrongState
    else if s.active Input.coverOpen then s.refuse tag 0x14#8 .coverOpen
    else if s.unitIdle m = false then s.refuse tag 0x14#8 .unitBusy
    else if (s.mot m).atRest = false then s.refuse tag 0x14#8 .unitBusy
    else (s.accept tag 0x14#8).startFeed m steps.toNat

/-! ### Tables (R166, R174) -/

/-- R166. -/
def State.doLoadTable (s : State) (tag table : Byte) (start : Half) (entries : List Byte) : State :=
  match s.loadOutcome table.toNat start.toNat entries with
  | .badParameter => s.refuse tag 0x18#8 .badParameter
  | .tableBusy => s.refuse tag 0x18#8 .tableBusy
  | .accepted written clamped =>
    (s.answer tag 0x18#8 .accepted (twoBytes written ++ twoBytes clamped)).applyLoad table.toNat start.toNat entries

/-- R174, R186. -/
def State.doReadTable (s : State) (tag table : Byte) (start count : Half) : State :=
  match tableEntries table.toNat, tableWidth table.toNat with
  | some n, some w =>
    if count.toNat = 0 ∨ n < start.toNat + count.toNat then s.refuse tag 0x19#8 .badParameter
    else if 1016 < w * count.toNat then s.refuse tag 0x19#8 .badParameter
    else
      s.answer tag 0x19#8 .accepted
        ([table] ++ halfBytes start ++ halfBytes count ++ readEntries s.tables table.toNat w start.toNat count.toNat)
  | _, _ => s.refuse tag 0x19#8 .badParameter

/-! ### Power (R176, R180, R181) -/

/-- R181. -/
def State.doStandby (s : State) (tag : Byte) : State :=
  if s.power.state ≠ .run ∧ s.power.state ≠ .standby then s.refuse tag 0x1C#8 .wrongState
  else if s.power.sleepPending.isSome then s.refuse tag 0x1C#8 .wrongState
  else if s.noJob = false then s.refuse tag 0x1C#8 .wrongState
  else if s.power.state = .run then (s.accept tag 0x1C#8).enterStandby
  else s.accept tag 0x1C#8

/-- R180, R195: the outcome in the reply is ENTERING when the machine is quiescent, and PENDING otherwise. -/
def State.doSleep (s : State) (tag : Byte) : State :=
  if s.entering ∨ s.power.sleepPending.isSome then s.refuse tag 0x1D#8 .wrongState
  else (s.answer tag 0x1D#8 .accepted [if s.quiescent then 0#8 else 1#8]).askSleep

/-- R156, R176: the reply follows the warm reset and carries the number of replies discarded; the events follow it. -/
def State.doRestart (s : State) (tag : Byte) : State :=
  (s.restartBlocks.answer tag 0x1F#8 .accepted [byteOf s.link.replies.length]).raiseAll s.restartEvents

/-! ### Queries (R169, R172) -/

/-- R36, 13.4: the four counters. -/
def Dram.report (d : Dram) : List Byte :=
  twoBytes d.hits ++ twoBytes d.misses ++ twoBytes d.evictions ++ twoBytes d.overruns

/-- R36: the counters set to 0. -/
def Dram.clearCounters (d : Dram) : Dram := { d with hits := 0, misses := 0, evictions := 0, overruns := 0 }

/-- R36, R169. -/
def State.doQueryMemory (s : State) (tag : Byte) : State :=
  (s.answer tag 0x20#8 .accepted s.dram.report).withDram s.dram.clearCounters

/-- R190: the time left to a pending sleep's deadline in units of 0.1 s, rounded up. -/
def State.sleepTenths (s : State) : Nat :=
  match s.power.sleepPending with
  | some d => ceilDiv (d - s.now) (Config.tenths 1)
  | none => 0

/-- 13.4: a channel's seven bytes of QUERY STATUS. -/
def Channel.report (c : Channel) : List Byte :=
  [byteOf c.state.code, byteOf c.owner.code, byteOf c.index, byteOf c.position] ++ twoBytes (c.remaining.getD 0) ++
    [byteOf c.phase]

/-- 13.4: an analog channel's four bytes of QUERY STATUS. -/
def AnalogRec.report (r : AnalogRec) : List Byte :=
  [byteOf r.value, flagByte r.valid, byteOf (bandCode r.band), flagByte r.saturated]

/-- R137: the input set; an unsettled level is shown as inactive. -/
def State.inputSet (s : State) : Byte :=
  (List.range 6).foldl (fun b i => if s.active i then b ||| (1#8 <<< i) else b) 0#8

/-- R146: 0 EMPTY, 1 WRITING, 2 POOL_WAIT. -/
def State.writerCode (s : State) : Nat :=
  if s.link.writer.isNone then 0 else if s.store.poolWait.isSome then 2 else 1

/-- R172, 13.4: the power controller's, Page Store's and page memory controller's bytes 0 to 12. -/
def State.powerReport (s : State) : List Byte :=
  [byteOf s.power.state.code, flagByte s.power.sleepPending.isSome] ++ twoBytes s.sleepTenths ++
  [byteOf (codeOf (fun b => b.1.code) s.power.lastBoot), byteOf (codeOf (fun b => b.2) s.power.lastBoot),
   flagByte s.print.hpwr, flagByte s.mpwr] ++
  twoBytes s.store.freeList.length ++
  [byteOf s.dram.state.code, byteOf (codeOf SrCause.code s.dram.cause), byteOf s.dram.debt]

/-- R172, 13.4: the Scan Unit's and Print Unit's bytes 13 to 26. -/
def State.unitReport (s : State) : List Byte :=
  let e := s.print.queue.head?
  [byteOf s.scan.job.state.code, flagByte s.scan.calibration.isSome, byteOf (s.scan.job.page.getD 0)] ++
  twoBytes s.scan.job.nextLine ++ [byteOf s.scan.occupied] ++
  [byteOf s.print.copy.state.code, byteOf s.print.copy.reasonCode, byteOf s.print.queue.length,
   byteOf (codeOf (·.page) e), byteOf (codeOf (·.copies) e), byteOf (codeOf (·.done) e)] ++
  twoBytes (codeOf (·.cursor) e)

/-- R157, R172, 13.4: the Stream Link's bytes 74 to 89. -/
def State.linkReport (s : State) : List Byte :=
  let e := s.link.reads.head?
  [byteOf s.link.parser.state.code] ++ twoBytes s.link.down.length ++ twoBytes s.link.up.length ++
  [byteOf (s.link.replies.length + 1), byteOf s.link.eventCount, byteOf s.link.reads.length, byteOf s.writerCode,
   byteOf (codeOf (·.page) e)] ++
  threeBytes (codeOf (·.cursor) e) ++ threeBytes (codeOf (·.placed) e)

/-- R172, 13.4: the 90 bytes of QUERY STATUS. -/
def State.statusReport (s : State) : List Byte :=
  s.powerReport ++ s.unitReport ++ s.motS.report ++ s.motP.report ++
    s.mon.analog.toList.flatMap AnalogRec.report ++ [s.inputSet] ++ s.linkReport

/-- R172. -/
def State.doQueryStatus (s : State) (tag : Byte) : State := s.answer tag 0x1E#8 .accepted s.statusReport

/-! ### Data records (R5, R144, R145) -/

/-- R5: the Page Store's answer to a data record; none when it is taken. -/
def PageRec.refuses (kind : PageKind) (r : PageRec) : Option RefuseReason :=
  if r.state ≠ .opened ∨ r.writer ≠ some .link then some .notOpen
  else if r.kind ≠ some kind then some .kind
  else if kind = .image ∧ Config.maxLines ≤ r.committed then some .full
  else if kind = .block ∧ Config.maxBlockBytes ≤ r.committed then some .full
  else none

/-- R193: each data record that the link writer takes in STANDBY restarts the sleep timer, which stands while a sleep is
pending. -/
def State.dataInStandby (s : State) : State :=
  if s.power.state = .standby ∧ s.power.sleepPending = none then
    s.withPower { s.power with sleepTimer := s.sleepDeadline }
  else s

/-- R144: a line fitted to a page's width: white bytes added or the bytes beyond it dropped. -/
def fitLine (width : Nat) (data : List Byte) : List Byte :=
  data.take (width / 8) ++ List.replicate (width / 8 - data.length) 0#8

/-- The link with the link writer's record replaced. -/
def State.withWriter (s : State) (j : Option LinkJob) : State := s.withLink { s.link with writer := j }

/-- R144: the link writer takes a LINE record. -/
def State.takeLine (s : State) (page : Byte) (data : List Byte) : State :=
  let s1 := s.dataInStandby
  let r := s1.page page.toNat
  match r.refuses .image with
  | some why => s1.raise (.writeRefused page.toNat why)
  | none =>
    (s1.withWriter (some { isLine := true, page := page.toNat, next := r.committed,
                           data := fitLine (r.width.getD 0) data })).linkAdvance

/-- R145: the link writer takes a BLOCK record. Bytes beyond the page's room are dropped, and FULL is raised once (log entry
14). -/
def State.takeBlock (s : State) (page : Byte) (data : List Byte) : State :=
  let s1 := s.dataInStandby
  let r := s1.page page.toNat
  match r.refuses .block with
  | some why => s1.raise (.writeRefused page.toNat why)
  | none =>
    let room := Config.maxBlockBytes - r.committed
    let s2 := if room < data.length then s1.raise (.writeRefused page.toNat .full) else s1
    if data = [] then s2
    else
      (s2.withWriter (some { isLine := false, page := page.toNat, next := r.committed,
                             data := data.take room })).linkAdvance

/-- R6, R144, R145, R146: a wanted link write has ended: its line or piece is committed, and the record ends or goes on with
its next piece. -/
def State.linkWritten (s : State) (r : Request) (j : LinkJob) : State :=
  let s1 := s.commit r.page (if j.isLine then 1 else r.count)
  let rest := if j.isLine then [] else j.data.drop r.count
  if rest = [] then s1.withWriter none
  else (s1.withWriter (some { j with next := j.next + r.count, data := rest })).linkAdvance

/-- R13: a pool wait's deadline expires: the record is cut off, the page closed truncated and POOL_WAIT_TIMEOUT raised, after
every event of the close (log entry 13). -/
def State.poolTimeout (s : State) (w : PoolWait) : State :=
  let label := (s.page w.page).label
  let s1 := (s.withStore { s.store with poolWait := none }).withWriter none
  (s1.closePage w.page true).raise (.poolWaitTimeout w.page label)

end Sys2Proof.Machine
end

