-- ==== Sys2Proof/Machine/Parser.lean ====
section
/-! DEFINITION. The Stream Link's byte paths (08): the parser, handing on, the upstream assembler and the host's strobes. -/

namespace Sys2Proof.Machine

/-- What a command of the block comes to. -/
abbrev Result := Host.Outcome State Fault Refusal

/-! ### Handing on (R141, R142) -/

/-- R141: the condition under which a command or data record is handed on. -/
def State.takes (s : State) : Instr → Bool
  | .line _ _ | .block _ _ => s.takesData
  | .queryPool _ | .queryStatus _ => s.takesQuery
  | _ => s.takesCommand

/-- R142: a record's command is delivered to the block that owns it. Steps that no record carries are never delivered. -/
def State.deliver (s : State) : Instr → State
  | .openPage tag p k m w r f l => s.doOpenPage tag p k m w r f l
  | .closePage tag p => s.doClosePage tag p
  | .releasePage tag p => s.doReleasePage tag p
  | .queryPage tag p => s.doQueryPage tag p
  | .queryPool tag => s.doQueryPool tag
  | .scan tag p r m f l src pat c => s.doScan tag p r m f l src pat c
  | .cancelScan tag => s.doCancelScan tag
  | .shade tag => s.doShade tag
  | .print tag p c => s.doPrint tag p c
  | .cancelPrint tag p => s.doCancelPrint tag p
  | .resumePrint tag => s.doResumePrint tag
  | .readPage tag p st c => s.doReadPage tag p st c
  | .cancelRead tag p => s.doCancelRead tag p
  | .feed tag c n => s.doFeed tag c n
  | .loadTable tag t st es => s.doLoadTable tag t st es
  | .readTable tag t st c => s.doReadTable tag t st c
  | .standby tag => s.doStandby tag
  | .sleep tag => s.doSleep tag
  | .queryStatus tag => s.doQueryStatus tag
  | .restart tag => s.doRestart tag
  | .queryMemory tag => s.doQueryMemory tag
  | .line p d => s.takeLine p d
  | .block p d => s.takeBlock p d
  | _ => s

/-- The parser replaced. -/
def State.withParser (s : State) (p : Parser) : State := s.withLink { s.link with parser := p }

/-- R140: the parser in HEADER with no byte of a new header taken. -/
def Parser.ready : Parser where
  state := .header
  header := []
  taken := 0
  buffer := []

/-- What a complete record asks for: its command or data, or the BAD_RECORD answer that an unknown or malformed one gets. -/
inductive Handed where
  | command (i : Instr)
  | badRecord (tag kind : Byte)
deriving DecidableEq, Repr

/-- R140: what the complete record in the parser comes to. -/
def Parser.handed (p : Parser) : Handed :=
  let kind := headerKind p.header
  let tag := p.header[2]?.getD 0#8
  if recordClass kind = .unknown then .badRecord tag kind
  else
    match decodeCommand kind tag p.buffer with
    | some i => .command i
    | none => .badRecord tag kind

/-- R141: the condition of a complete record holds. -/
def State.mayHand (s : State) : Handed → Bool
  | .command i => s.takes i
  | .badRecord _ _ => s.takesCommand

/-- R140, R141: the complete record leaves the parser, which is ready for the next, and is handed on: a QUERY STATUS reports the
parser in HEADER (log entry 36). -/
def State.hand (s : State) (h : Handed) : State :=
  let s1 := s.withParser Parser.ready
  match h with
  | .command i => s1.deliver i
  | .badRecord tag kind => s1.refuse tag kind .badRecord

/-! ### The parser (R139, R140) -/

/-- R140: a record is complete: a data record without a page number is discarded, and any other is handed on or held. -/
def State.recordComplete (s : State) (p : Parser) : State :=
  if recordClass (headerKind p.header) = .data ∧ headerLength p.header = 0 then
    (s.withParser Parser.ready).raise (.writeRefused 0xFF .length)
  else if s.mayHand p.handed then s.hand p.handed
  else s.withParser { p with state := .held }

/-- R139: after a loss of frame HUNT examines the header bytes taken after SYNC; a SYNC among them begins a header. At most
four bytes are left, so none is complete. -/
def huntAgain (bytes : List Byte) : Parser :=
  match bytes.dropWhile (· ≠ syncByte) with
  | [] => Parser.reset
  | h => { Parser.ready with header := h }

/-- R139: a loss of frame. -/
def State.frameLost (s : State) (rest : List Byte) : State := (s.withParser (huntAgain rest)).raise .framing

/-- R139: a header byte taken in HEADER. -/
def State.headerByte (s : State) (b : Byte) : State :=
  let h := s.link.parser.header ++ [b]
  let p := { Parser.ready with header := h }
  if h.length = 1 ∧ b ≠ syncByte then s.frameLost []
  else if h.length < 5 then s.withParser p
  else if Config.maxPayload < headerLength h then s.frameLost (h.drop 1)
  else if headerLength h = 0 then s.recordComplete p
  else s.withParser { p with state := .payload }

/-- R140: a payload byte: kept for a command or data record, discarded for an unknown one. -/
def State.payloadByte (s : State) (b : Byte) : State :=
  let p := s.link.parser
  let p1 := { p with
    taken := p.taken + 1
    buffer := if recordClass (headerKind p.header) = .unknown then p.buffer else p.buffer ++ [b] }
  if headerLength p.header ≤ p1.taken then s.recordComplete p1 else s.withParser p1

/-- R139, R140: the parser takes the byte at the head of the downstream FIFO. In HELD it takes none. -/
def State.takeByte (s : State) : State :=
  match s.link.down with
  | [] => s
  | b :: rest =>
    let s1 := s.withLink { s.link with down := rest }
    match s.link.parser.state with
    | .hunt => if b = syncByte then s1.withParser { Parser.ready with header := [b] } else s1
    | .header => s1.headerByte b
    | .payload => s1.payloadByte b
    | .held => s

/-! ### Upstream (R153, R154) -/

/-- R152, R153: the record at the head of the event queue; the overflow entry stands last. -/
def Link.headEvent (l : Link) : List Byte :=
  match l.events, l.overflow with
  | e :: _, _ => eventRecord e.payload
  | [], some n => eventRecord (overflowPayload n)
  | [], none => []

/-- R153: the bytes of the chosen record. -/
def Link.chosenRecord (l : Link) (c : UpClass) : List Byte :=
  match c with
  | .reply => ((l.replies.head?).map Reply.record).getD []
  | .event => l.headEvent
  | .data => l.readBuf.record

/-- R152: the event queue without its head entry. -/
def Link.popEvent (l : Link) : Link :=
  match l.events with
  | _ :: es => { l with events := es }
  | [] => { l with overflow := none }

/-- R153: the FIFO's free space is at least the record's length. -/
def Link.fits (l : Link) (bytes : List Byte) : Bool := decide (l.up.length + bytes.length ≤ Config.upCapacity)

/-- R153: the chosen record is placed: its bytes join the upstream FIFO, it leaves its queue or buffer, its owner's effect is
taken, and the choice is made again. -/
def State.place (s : State) (c : UpClass) : State :=
  let l := { s.link with up := s.link.up ++ s.link.chosenRecord c, chosen := none }
  match c with
  | .reply => (s.withLink { l with replies := l.replies.tail }).choose
  | .event => (s.withLink l.popEvent).choose
  | .data => ((s.withLink l).readPlaced).choose

/-- R138: a byte that the host writes while DRDY is asserted joins the FIFO; otherwise it is not taken, and with the link not
ready it is a wake source in SLEEP and in ENTERING_SLEEP. -/
def State.hostWrites (s : State) (b : Byte) : State :=
  if s.drdy then s.withLink { s.link with down := s.link.down ++ [b] }
  else if s.power.state = .sleep ∨ (s.power.state = .enteringSleep ∧ s.power.drdyDropped) then s.wakeSeen .host
  else s

/-- R154: a byte that the host reads; 0x00 is presented while UREADY is deasserted. -/
def State.hostReads (s : State) : State :=
  match s.link.up with
  | b :: rest =>
    if s.uready then s.withLink { s.link with up := rest, dataOut := b }
    else s.withLink { s.link with dataOut := 0#8 }
  | [] => s.withLink { s.link with dataOut := 0#8 }

end Sys2Proof.Machine
end

