-- ==== Sys2Proof/Machine/ExecCommands.lean ====
section
/-! DEFINITION. Meanings of the command records (09). -/

namespace Sys2Proof.Machine

/-! Each record is handed on when its condition of R141 holds; given at another moment it changes nothing (log entry 4). -/

/-- OPEN_PAGE (R167). -/
def execOpenPage (tag page kind mode : Byte) (width : Half) (resolution retain : Byte) (label : Half) (s : State) : Result :=
  .next (if s.takesCommand then s.doOpenPage tag page kind mode width resolution retain label else s)

/-- CLOSE_PAGE (R164). -/
def execClosePage (tag page : Byte) (s : State) : Result :=
  .next (if s.takesCommand then (s.doClosePage tag page).settled else s)

/-- RELEASE_PAGE (R175). -/
def execReleasePage (tag page : Byte) (s : State) : Result :=
  .next (if s.takesCommand then s.doReleasePage tag page else s)

/-- QUERY_PAGE (R170). -/
def execQueryPage (tag page : Byte) (s : State) : Result :=
  .next (if s.takesCommand then s.doQueryPage tag page else s)

/-- QUERY_POOL (R171). -/
def execQueryPool (tag : Byte) (s : State) : Result :=
  .next (if s.takesQuery then s.doQueryPool tag else s)

/-- SCAN (R178). -/
def execScan (tag page resolution mode retain : Byte) (label : Half) (source pattern : Byte)
    (lineCount : Half) (s : State) : Result :=
  .next (if s.takesCommand then (s.doScan tag page resolution mode retain label source pattern lineCount).settled else s)

/-- CANCEL_SCAN (R163). -/
def execCancelScan (tag : Byte) (s : State) : Result :=
  .next (if s.takesCommand then (s.doCancelScan tag).settled else s)

/-- SHADE (R179). -/
def execShade (tag : Byte) (s : State) : Result :=
  .next (if s.takesCommand then (s.doShade tag).settled else s)

/-- PRINT (R168). -/
def execPrint (tag page copies : Byte) (s : State) : Result :=
  .next (if s.takesCommand then (s.doPrint tag page copies).settled else s)

/-- CANCEL_PRINT (R161). -/
def execCancelPrint (tag page : Byte) (s : State) : Result :=
  .next (if s.takesCommand then (s.doCancelPrint tag page).settled else s)

/-- RESUME_PRINT (R177). -/
def execResumePrint (tag : Byte) (s : State) : Result :=
  .next (if s.takesCommand then (s.doResumePrint tag).settled else s)

/-- READ_PAGE (R173). -/
def execReadPage (tag page : Byte) (start count : Offset) (s : State) : Result :=
  .next (if s.takesCommand then (s.doReadPage tag page start count).settled else s)

/-- CANCEL_READ (R162). -/
def execCancelRead (tag page : Byte) (s : State) : Result :=
  .next (if s.takesCommand then (s.doCancelRead tag page).settled else s)

/-- FEED (R165). -/
def execFeed (tag channel : Byte) (steps : Half) (s : State) : Result :=
  .next (if s.takesCommand then (s.doFeed tag channel steps).settled else s)

/-- LOAD_TABLE (R166). -/
def execLoadTable (tag table : Byte) (start : Half) (entries : List Byte) (s : State) : Result :=
  .next (if s.takesCommand then s.doLoadTable tag table start entries else s)

/-- READ_TABLE (R174). -/
def execReadTable (tag table : Byte) (start count : Half) (s : State) : Result :=
  .next (if s.takesCommand then s.doReadTable tag table start count else s)

/-- STANDBY (R181). -/
def execStandby (tag : Byte) (s : State) : Result :=
  .next (if s.takesCommand then s.doStandby tag else s)

/-- SLEEP (R180). -/
def execSleep (tag : Byte) (s : State) : Result :=
  .next (if s.takesCommand then s.doSleep tag else s)

/-- QUERY_STATUS (R172). -/
def execQueryStatus (tag : Byte) (s : State) : Result :=
  .next (if s.takesQuery then s.doQueryStatus tag else s)

/-- RESTART (R176). -/
def execRestart (tag : Byte) (s : State) : Result :=
  .next (if s.takesCommand then (s.doRestart tag).settled else s)

/-- QUERY_MEMORY (R169). -/
def execQueryMemory (tag : Byte) (s : State) : Result :=
  .next (if s.takesCommand then s.doQueryMemory tag else s)

end Sys2Proof.Machine
end

