-- ==== Sys2Proof/Machine/ExecLink.lean ====
section
/-! DEFINITION. Meanings of the link commands (08). -/

namespace Sys2Proof.Machine

/-- HOST_BYTE_WRITE (R138). -/
def execHostByteWrite (b : Byte) (s : State) : Result := .next (s.hostWrites b)

/-- PARSER_BYTE_TAKEN (R139, R140): made while the downstream side works (R155). -/
def execParserByteTaken (s : State) : Result :=
  .next (if s.power.downstreamWorks then s.takeByte.settled else s)

/-- HELD_RECORD_HANDED_ON (R141): the record in HELD is handed on once its condition holds. -/
def execHeldRecordHandedOn (s : State) : Result :=
  .next (if s.power.downstreamWorks ∧ s.link.parser.state = .held ∧ s.mayHand s.link.parser.handed then
      (s.hand s.link.parser.handed).settled
    else s)

/-- UPSTREAM_RECORD_PLACED (R153): the chosen record is placed once there is room for it. -/
def execUpstreamRecordPlaced (s : State) : Result :=
  match s.link.chosen with
  | some c =>
    .next (if s.power.upstreamWorks ∧ s.link.fits (s.link.chosenRecord c) then (s.place c).settled else s)
  | none => .next s

/-- HOST_BYTE_READ (R154). -/
def execHostByteRead (s : State) : Result := .next s.hostReads

/-- LINE (R144): the link writer takes the record when it holds none (R141). -/
def execLine (page : Byte) (data : List Byte) (s : State) : Result :=
  .next (if s.takesData then s.takeLine page data else s)

/-- BLOCK (R145): the link writer takes the record when it holds none (R141). -/
def execBlock (page : Byte) (data : List Byte) (s : State) : Result :=
  .next (if s.takesData then s.takeBlock page data else s)

/-- POOL_WAIT_EXPIRY (R13). -/
def execPoolWaitExpiry (s : State) : Result :=
  match s.store.poolWait with
  | some w => .next ((s.at w.deadline).poolTimeout w).settled
  | none => .next s

end Sys2Proof.Machine
end

