-- ==== Sys2Proof/Machine/ExecMemory.lean ====
section
/-! DEFINITION. Meanings of the page memory controller's commands (02). -/

namespace Sys2Proof.Machine

/-- R32: a refresh tick: at debt 4 an overrun is counted and REFRESH_OVERRUN raised. -/
def State.tickNow (s : State) : State :=
  let s1 := s.withDram (s.dram.tick s.now (s.tables.p Param.refreshInterval))
  if 4 ≤ s.dram.debt then s1.raise .refreshOverrun else s1

/-- REFRESH_TICK (R32): ticks are counted in ACTIVE only. -/
def execRefreshTick (s : State) : Result :=
  match s.dram.state, s.dram.nextTick with
  | .active, some d => .next (s.at d).tickNow
  | _, _ => .next s

/-- REFRESH_END (R33): the arbiter makes its next decision. -/
def execRefreshEnd (s : State) : Result :=
  match s.dram.current with
  | some (.refresh e) =>
    let s1 := s.at e
    .next (s1.withDram (s1.dram.finish s1.now))
  | _ => .next s

/-- R29: the bytes of a write stand in the DRAM at the end of its transfer, whatever becomes of them. -/
def State.storeBytes (s : State) (r : Request) : State := s.withMem (s.mem.writeAll r.address r.data)

/-- R29: the bytes that a read has moved. -/
def State.readBytes (s : State) (r : Request) : List Byte := s.mem.readAll r.address r.count

/-- The unwanted transfer has ended for its requester. -/
def State.outlived (s : State) : State := s.withDram s.dram.outlived

/-- R59: the transfer that has ended holds its line slot no longer. -/
def State.slotless (s : State) : State := s.withDram s.dram.slotless

/-- SCAN_LINE_WRITE_END (R59). -/
def execScanLineWriteEnd (s : State) : Result :=
  match s.dram.ending .scanWrite with
  | some (r, e) => .next (((((s.at e).storeBytes r).slotless).scanWriteOver r).endTransfer).settled
  | none => .next s

/-- R76: a print line fetch ends: its line fills FETCH, or is discarded and a fetch made meanwhile is requested. -/
def State.fetchOver (s : State) (r : Request) : State :=
  if r.live then s.fetchArrived r (s.readBytes r)
  else
    let s1 := s.outlived
    if s1.print.copy.fetch.status = .requested then s1.requestFetch else s1

/-- PRINT_FETCH_END (R76). -/
def execPrintFetchEnd (s : State) : Result :=
  match s.dram.ending .printFetch with
  | some (r, e) => .next ((s.at e).fetchOver r).endTransfer
  | none => .next s

/-- R6, R144, R145: a link write ends: committed, or not; a record taken meanwhile is requested. -/
def State.linkWriteOver (s : State) (r : Request) : State :=
  if r.live then
    match s.link.writer with
    | some j => if s.commits r .link then s.linkWritten r j else s.withWriter none
    | none => s
  else
    let s1 := s.outlived
    if s1.link.writer.isSome ∧ s1.store.poolWait = none then s1.linkRequest else s1

/-- LINK_WRITE_END (R6). -/
def execLinkWriteEnd (s : State) : Result :=
  match s.dram.ending .linkWrite with
  | some (r, e) => .next ((((s.at e).storeBytes r).linkWriteOver r).endTransfer).settled
  | none => .next s

/-- R148, R149, R151: a link read ends: its bytes join the read buffer, or are discarded and a read made meanwhile is
requested. -/
def State.linkReadOver (s : State) (r : Request) : State :=
  if r.live then s.readPieceEnded (s.readBytes r)
  else
    let s1 := s.outlived
    if s1.link.readBuf.status = .filling then s1.requestReadPiece else s1

/-- LINK_READ_END (R148). -/
def execLinkReadEnd (s : State) : Result :=
  match s.dram.ending .linkRead with
  | some (r, e) => .next ((s.at e).linkReadOver r).endTransfer
  | none => .next s

/-- AUTO_SR_TIMER_EXPIRY (R38). -/
def execAutoSrTimerExpiry (s : State) : Result :=
  match s.dram.autoTimer with
  | some d =>
    let s1 := s.at d
    .next (s1.withDram (s1.dram.autoExpired s1.now))
  | none => .next s

/-- SR_ENTRY_END (R39): SELF_REFRESH, at once left with cause AUTO and a request waiting, or reported with cause SLEEP. -/
def execSrEntryEnd (s : State) : Result :=
  match s.dram.state, s.dram.stateEnds with
  | .srEntry, some d =>
    let s1 := s.at d
    .next (s1.withDram (s1.dram.entryEnd s1.now (s1.tables.p Param.srExitTime))).reportAsleep
  | _, _ => .next s

/-- SR_EXIT_END (R41). -/
def execSrExitEnd (s : State) : Result :=
  match s.dram.state, s.dram.stateEnds with
  | .srExit, some d => .next (s.at d).exitEnded
  | _, _ => .next s

end Sys2Proof.Machine
end

