-- ==== Sys2Proof/Machine/ExecMotor.lean ====
section
/-! DEFINITION. Meanings of the Motor Timing Unit's commands (06). -/

namespace Sys2Proof.Machine

/-- STEP_EVENT (R111, R133): a moving channel's interval ends. The pin of DOC_EDGE is active low. -/
def execStepEvent (channel : Motor) (docEdgePin : Bool) (s : State) : Result :=
  match (s.mot channel).interval with
  | some iv =>
    .next (if (s.mot channel).moving then ((s.at iv.endsAt).stepNow channel (!docEdgePin)).settled else s)
  | none => .next s

/-- SETTLE_END (R110). -/
def execSettleEnd (channel : Motor) (s : State) : Result :=
  match (s.mot channel).state, (s.mot channel).settleEnds with
  | .settle, some d =>
    let s1 := s.at d
    .next (s1.withMot channel ((s1.mot channel).firstInterval s1.tables channel s1.now))
  | _, _ => .next s

/-- FEED_POWER_SETTLE_END (R122): the coils are energised and the channel's own settle time runs. -/
def execFeedPowerSettleEnd (channel : Motor) (s : State) : Result :=
  match (s.mot channel).state, (s.mot channel).powerEnds with
  | .settle, some d =>
    let s1 := s.at d
    .next (s1.withMot channel ((s1.mot channel).beginSettle s1.tables channel s1.now))
  | _, _ => .next s

/-- NONOVERLAP_GAP_END (R107). -/
def execNonoverlapGapEnd (channel : Motor) (s : State) : Result :=
  match (s.mot channel).gaps with
  | g :: left =>
    let s1 := s.at g.endsAt
    .next (s1.withMot channel ((s1.mot channel).gapOver g left))
  | [] => .next s

/-- HOLD_TIMEOUT (R119). -/
def execHoldTimeout (channel : Motor) (s : State) : Result :=
  match (s.mot channel).state, (s.mot channel).holdTimer with
  | .hold, some d =>
    let s1 := s.at d
    .next (s1.withMot channel (s1.mot channel).switchOff).settled
  | _, _ => .next s

end Sys2Proof.Machine
end

