-- ==== Sys2Proof/Machine/ExecPower.lean ====
section
/-! DEFINITION. Meanings of the power timers and sleep steps (11.3 to 11.6). -/

namespace Sys2Proof.Machine

/-- STANDBY_TIMER_EXPIRY (R192). -/
def execStandbyTimerExpiry (s : State) : Result :=
  match s.power.state, s.power.standbyTimer with
  | .run, some d => .next (s.at d).enterStandby
  | _, _ => .next s

/-- SLEEP_TIMER_EXPIRY (R193, R195). -/
def execSleepTimerExpiry (s : State) : Result :=
  match s.power.state, s.power.sleepTimer with
  | .standby, some d =>
    let s1 := s.at d
    .next (s1.withPower { s1.power with sleepTimer := none }).askSleep
  | _, _ => .next s

/-- SLEEP_DEADLINE_EXPIRY (R196). -/
def execSleepDeadlineExpiry (s : State) : Result :=
  match s.power.sleepPending with
  | some d => .next ((s.at d).abandonSleep).settled
  | none => .next s

/-- R197: step 3 has not been made. -/
def State.beforeStepThree (s : State) : Bool := s.power.state == .enteringSleep && !s.power.drdyDropped

/-- DOWNSTREAM_READY_DROP (R197): the parser is at a record boundary and the downstream FIFO is empty. -/
def execDownstreamReadyDrop (s : State) : Result :=
  .next (if s.beforeStepThree ∧ s.link.parser.atBoundary ∧ s.link.down = [] then s.dropDrdy else s)

/-- DRDY_DROP_BOUND_EXPIRY (R197). -/
def execDrdyDropBoundExpiry (s : State) : Result :=
  match s.beforeStepThree, s.power.drdyBound with
  | true, some d => .next (s.at d).dropDrdy
  | _, _ => .next s

/-- SLEEP_ORDER (R198): step 4, once DRDY has been dropped and the link writer holds no record. -/
def execSleepOrder (s : State) : Result :=
  .next (if s.power.state = .enteringSleep ∧ s.power.drdyDropped ∧ s.power.ordered = false ∧ s.link.writer = none then
      s.giveSleepOrder
    else s)

/-- WAKE_TIMER_EXPIRY (R199). -/
def execWakeTimerExpiry (s : State) : Result :=
  match s.power.state, s.power.wakeTimer with
  | .sleep, some d => .next ((s.at d).startWaking .timer)
  | _, _ => .next s

end Sys2Proof.Machine
end

