-- ==== Sys2Proof/Machine/ExecPrint.lean ====
section
/-! DEFINITION. Meanings of the Print Unit's commands (04, 05). -/

namespace Sys2Proof.Machine

/-- PRINT_STARTING_END (R73). -/
def execPrintStartingEnd (s : State) : Result :=
  match s.print.copy.state, s.print.copy.startEnds with
  | .starting, some d => .next ((s.at d).startCopy false)
  | _, _ => .next s

/-- R78: the line in SHIFT has been shifted into the head. -/
def State.shiftDone (s : State) : State :=
  s.withCopy { s.print.copy with shift := { s.print.copy.shift with status := .complete, doneAt := none } }

/-- SHIFT_COMPLETE (R78). -/
def execShiftComplete (s : State) : Result :=
  match s.print.copy.shift.status, s.print.copy.shift.doneAt with
  | .shifting, some d => .next (s.at d).shiftDone
  | _, _ => .next s

/-- R100: after a recovery the next phase is fired, or the sequencer is IDLE, with the number of the last phase kept (log entry
42). -/
def State.nextPhase (s : State) : State :=
  match s.print.strobe with
  | some r =>
    if s.print.seqPhase + 1 < r.phases.length then
      s.withPrint { s.print with
        seq := .pulse
        seqPhase := s.print.seqPhase + 1
        seqEnds := some (s.now + Config.us r.width) }
    else (s.withPrint { s.print with seq := .idle, seqEnds := none }).strobeIdle
  | none => (s.withPrint { s.print with seq := .idle, seqEnds := none }).strobeIdle

/-- R100: a pulse ends: RECOVER for the recovery time, or on at once where it is 0. -/
def State.pulseOver (s : State) : State :=
  let tr := ((s.print.strobe).map (·.recovery)).getD 0
  if tr = 0 then s.nextPhase
  else s.withPrint { s.print with seq := .recover, seqEnds := some (s.now + Config.us tr) }

/-- STROBE_PULSE_END (R100). -/
def execStrobePulseEnd (s : State) : Result :=
  match s.print.seq, s.print.seqEnds with
  | .pulse, some d => .next ((s.at d).pulseOver).settled
  | _, _ => .next s

/-- STROBE_RECOVERY_END (R100). -/
def execStrobeRecoveryEnd (s : State) : Result :=
  match s.print.seq, s.print.seqEnds with
  | .recover, some d => .next ((s.at d).nextPhase).settled
  | _, _ => .next s

/-- CUT_TIME_END (R84). -/
def execCutTimeEnd (s : State) : Result :=
  match s.print.copy.state, s.print.copy.cutEnds with
  | .cut, some d => .next ((s.at d).leaveCut).settled
  | _, _ => .next s

end Sys2Proof.Machine
end

