-- ==== Sys2Proof/Machine/ExecReset.lean ====
section
/-! DEFINITION. Meanings of the reset and boot commands (11.7, 11.8). -/

namespace Sys2Proof.Machine

/-- POWER_ON_RESET (R205): every block at its power-on values, POR asserted. The model's own clock and queue go on. -/
def execPowerOnReset (s : State) : Result := .next { State.reset with now := s.now, pending := s.pending }

/-- R26, R132, R201: the release of POR: INIT's wait begins, inputs are sampled, and the boot begins with cause POR. -/
def State.releasePor (s : State) (bootsel1 bootsel0 : Bool) : State :=
  let s1 := s.withPower { s.power with por := false, bootsel1 := bootsel1, bootsel0 := bootsel0 }
  ((s1.withDram { s1.dram with stateEnds := some (s1.now + 4032) }).withMon
    { s1.mon with nextSample := some (s1.now + Config.ms 1) }).beginBoot .por

/-- POR_RELEASE (R201): without effect where POR is not asserted. -/
def execPorRelease (bootsel1 bootsel0 : Bool) (s : State) : Result :=
  .next (if s.power.por then s.releasePor bootsel1 bootsel0 else s)

/-- WRST (R205): without effect while POR holds the part in reset. -/
def execWrst (bootsel1 bootsel0 : Bool) (s : State) : Result :=
  .next (if s.power.por then s else s.warmRestart bootsel1 bootsel0)

/-- INIT_END (R26): the eighth start-up cycle ends; ACTIVE is entered and the first tick is set. -/
def execInitEnd (s : State) : Result :=
  match s.dram.state, s.dram.stateEnds with
  | .init, some d =>
    let s1 := s.at d
    .next (s1.withDram (s1.dram.enterActive s1.now (s1.tables.p Param.refreshInterval)))
  | _, _ => .next s

/-- TWO_WIRE_BYTE_SENT (R202). -/
def execTwoWireByteSent (acknowledged : Bool) (s : State) : Result :=
  match s.power.twoWire with
  | .sending n => .next (s.byteSent n acknowledged)
  | .idle | .waiting _ | .reading => .next s

/-- BOOT_RETRY_WAIT_END (R202): the 10 ms wait ends and a new attempt begins at step 1. -/
def execBootRetryWaitEnd (s : State) : Result :=
  match s.power.twoWire with
  | .waiting d => .next (s.at d).attemptAgain
  | .idle | .sending _ | .reading => .next s

/-- BOOT_STREAM_BYTE (R203). -/
def execBootStreamByte (b : Byte) (s : State) : Result :=
  .next (if s.power.twoWire = .reading then s.streamByte b else s)

/-- END_OF_BOOT (R204): made when the outcome and the reports are all present. -/
def execEndOfBoot (s : State) : Result :=
  match s.bootComplete, s.power.boot.outcome with
  | true, some o => .next (s.finishBoot o).settled
  | _, _ => .next s

end Sys2Proof.Machine
end

