-- ==== Sys2Proof/Machine/ExecScan.lean ====
section
/-! DEFINITION. Meanings of the Scan Unit's commands (03). -/

namespace Sys2Proof.Machine

/-- SCAN_STARTING_END (R48). -/
def execScanStartingEnd (s : State) : Result :=
  match s.scan.job.state, s.scan.job.startEnds with
  | .starting, some d => .next (s.at d).scanBegin
  | _, _ => .next s

/-- READOUT_END (R55): the oldest readout in progress ends. -/
def execReadoutEnd (samples : List Byte) (s : State) : Result :=
  match s.scan.readouts with
  | r :: _ => .next ((s.at r.endsAt).readoutOver samples).settled
  | [] => .next s

/-- CALIBRATION_SETTLE_END (R65). -/
def execCalibrationSettleEnd (s : State) : Result :=
  match s.scan.calibration.bind (·.settleEnds) with
  | some d => .next (s.at d).beginReading
  | none => .next s

/-- CALIBRATION_READOUT_END (R65). -/
def execCalibrationReadoutEnd (samples : List Byte) (s : State) : Result :=
  match s.scan.calibration with
  | some c =>
    match c.readoutEnds with
    | some d => .next ((s.at d).calibrationReadout c samples).settled
    | none => .next s
  | none => .next s

end Sys2Proof.Machine
end

