-- ==== Sys2Proof/Machine/ExecSensor.lean ====
section
/-! DEFINITION. Meanings of the Sensor Monitor's commands (07). -/

namespace Sys2Proof.Machine

/-- ROUND_START (R126). -/
def execRoundStart (s : State) : Result :=
  match s.mon.nextRound with
  | some d => .next ((s.at d).startRound).settled
  | none => .next s

/-- R127: a transaction ends: its channel takes the raw result and the round moves on. -/
def State.transactionOver (s : State) (t : Transaction) (raw : Byte) : State :=
  ((s.withMon { s.mon with transaction := none }).takeSample t.channel raw.toNat t.masked).goRound (7 - t.channel)

/-- CONVERTER_TRANSACTION_END (R127). -/
def execConverterTransactionEnd (raw : Byte) (s : State) : Result :=
  match s.mon.transaction with
  | some t => .next ((s.at t.endsAt).transactionOver t raw).settled
  | none => .next s

/-- R131: the 1 ms sample, with the next one set. -/
def State.inputsNow (s : State) (pins : BitVec 6) : State :=
  (s.withMon { s.mon with nextSample := some (s.now + Config.ms 1) }).sampleInputs pins 6

/-- INPUT_SAMPLE (R131). -/
def execInputSample (pins : BitVec 6) (s : State) : Result :=
  match s.mon.nextSample with
  | some d => .next ((s.at d).inputsNow pins).settled
  | none => .next s

end Sys2Proof.Machine
end

