-- ==== Sys2Proof/Machine/Dispatch.lean ====
section
/-! DEFINITION. The effect of each command: one arm per constructor of Instr, one direct call of its meaning. -/

namespace Sys2Proof.Machine

def exec (i : Instr) (s : State) : Host.Outcome State Fault Refusal :=
  match i with
  | .powerOnReset => Sys2Proof.Machine.execPowerOnReset s
  | .porRelease bootsel1 bootsel0 => Sys2Proof.Machine.execPorRelease bootsel1 bootsel0 s
  | .wrst bootsel1 bootsel0 => Sys2Proof.Machine.execWrst bootsel1 bootsel0 s
  | .initEnd => Sys2Proof.Machine.execInitEnd s
  | .twoWireByteSent acknowledged => Sys2Proof.Machine.execTwoWireByteSent acknowledged s
  | .bootRetryWaitEnd => Sys2Proof.Machine.execBootRetryWaitEnd s
  | .bootStreamByte b => Sys2Proof.Machine.execBootStreamByte b s
  | .endOfBoot => Sys2Proof.Machine.execEndOfBoot s
  | .hostByteWrite b => Sys2Proof.Machine.execHostByteWrite b s
  | .parserByteTaken => Sys2Proof.Machine.execParserByteTaken s
  | .heldRecordHandedOn => Sys2Proof.Machine.execHeldRecordHandedOn s
  | .upstreamRecordPlaced => Sys2Proof.Machine.execUpstreamRecordPlaced s
  | .hostByteRead => Sys2Proof.Machine.execHostByteRead s
  | .openPage tag page kind mode width resolution retain label => Sys2Proof.Machine.execOpenPage tag page kind mode width resolution retain label s
  | .closePage tag page => Sys2Proof.Machine.execClosePage tag page s
  | .releasePage tag page => Sys2Proof.Machine.execReleasePage tag page s
  | .queryPage tag page => Sys2Proof.Machine.execQueryPage tag page s
  | .queryPool tag => Sys2Proof.Machine.execQueryPool tag s
  | .scan tag page resolution mode retain label source pattern lineCount => Sys2Proof.Machine.execScan tag page resolution mode retain label source pattern lineCount s
  | .cancelScan tag => Sys2Proof.Machine.execCancelScan tag s
  | .shade tag => Sys2Proof.Machine.execShade tag s
  | .print tag page copies => Sys2Proof.Machine.execPrint tag page copies s
  | .cancelPrint tag page => Sys2Proof.Machine.execCancelPrint tag page s
  | .resumePrint tag => Sys2Proof.Machine.execResumePrint tag s
  | .readPage tag page start count => Sys2Proof.Machine.execReadPage tag page start count s
  | .cancelRead tag page => Sys2Proof.Machine.execCancelRead tag page s
  | .feed tag channel steps => Sys2Proof.Machine.execFeed tag channel steps s
  | .loadTable tag table start entries => Sys2Proof.Machine.execLoadTable tag table start entries s
  | .readTable tag table start count => Sys2Proof.Machine.execReadTable tag table start count s
  | .standby tag => Sys2Proof.Machine.execStandby tag s
  | .sleep tag => Sys2Proof.Machine.execSleep tag s
  | .queryStatus tag => Sys2Proof.Machine.execQueryStatus tag s
  | .restart tag => Sys2Proof.Machine.execRestart tag s
  | .queryMemory tag => Sys2Proof.Machine.execQueryMemory tag s
  | .line page data => Sys2Proof.Machine.execLine page data s
  | .block page data => Sys2Proof.Machine.execBlock page data s
  | .poolWaitExpiry => Sys2Proof.Machine.execPoolWaitExpiry s
  | .refreshTick => Sys2Proof.Machine.execRefreshTick s
  | .refreshEnd => Sys2Proof.Machine.execRefreshEnd s
  | .scanLineWriteEnd => Sys2Proof.Machine.execScanLineWriteEnd s
  | .printFetchEnd => Sys2Proof.Machine.execPrintFetchEnd s
  | .linkWriteEnd => Sys2Proof.Machine.execLinkWriteEnd s
  | .linkReadEnd => Sys2Proof.Machine.execLinkReadEnd s
  | .autoSrTimerExpiry => Sys2Proof.Machine.execAutoSrTimerExpiry s
  | .srEntryEnd => Sys2Proof.Machine.execSrEntryEnd s
  | .srExitEnd => Sys2Proof.Machine.execSrExitEnd s
  | .scanStartingEnd => Sys2Proof.Machine.execScanStartingEnd s
  | .readoutEnd samples => Sys2Proof.Machine.execReadoutEnd samples s
  | .calibrationSettleEnd => Sys2Proof.Machine.execCalibrationSettleEnd s
  | .calibrationReadoutEnd samples => Sys2Proof.Machine.execCalibrationReadoutEnd samples s
  | .printStartingEnd => Sys2Proof.Machine.execPrintStartingEnd s
  | .shiftComplete => Sys2Proof.Machine.execShiftComplete s
  | .strobePulseEnd => Sys2Proof.Machine.execStrobePulseEnd s
  | .strobeRecoveryEnd => Sys2Proof.Machine.execStrobeRecoveryEnd s
  | .cutTimeEnd => Sys2Proof.Machine.execCutTimeEnd s
  | .stepEvent channel docEdgePin => Sys2Proof.Machine.execStepEvent channel docEdgePin s
  | .settleEnd channel => Sys2Proof.Machine.execSettleEnd channel s
  | .feedPowerSettleEnd channel => Sys2Proof.Machine.execFeedPowerSettleEnd channel s
  | .nonoverlapGapEnd channel => Sys2Proof.Machine.execNonoverlapGapEnd channel s
  | .holdTimeout channel => Sys2Proof.Machine.execHoldTimeout channel s
  | .roundStart => Sys2Proof.Machine.execRoundStart s
  | .converterTransactionEnd raw => Sys2Proof.Machine.execConverterTransactionEnd raw s
  | .inputSample pins => Sys2Proof.Machine.execInputSample pins s
  | .standbyTimerExpiry => Sys2Proof.Machine.execStandbyTimerExpiry s
  | .sleepTimerExpiry => Sys2Proof.Machine.execSleepTimerExpiry s
  | .sleepDeadlineExpiry => Sys2Proof.Machine.execSleepDeadlineExpiry s
  | .downstreamReadyDrop => Sys2Proof.Machine.execDownstreamReadyDrop s
  | .drdyDropBoundExpiry => Sys2Proof.Machine.execDrdyDropBoundExpiry s
  | .sleepOrder => Sys2Proof.Machine.execSleepOrder s
  | .wakeTimerExpiry => Sys2Proof.Machine.execWakeTimerExpiry s

end Sys2Proof.Machine
end

