-- ==== Sys2Proof/Machine/Step.lean ====
section
/-! DEFINITION. One step: the command at the front of the queue is taken; with none waiting time passes. -/

namespace Sys2Proof.Machine

/-- What the block does when no command waits: 50 ns pass and nothing else changes (DESIGN CHOICE, log entry 1). -/
def State.idle (s : State) : State := s.withNow (s.now + 1)

/-- One step: the command at the front of the queue is run on the state with the queue's rest. -/
def step (s : State) : Host.Outcome State Fault Refusal :=
  match s.pending with
  | [] => .next s.idle
  | c :: rest => exec c (s.withPending rest)

/-- The state with a command put at the front of its queue. -/
def State.before (s : State) (c : Instr) : State := s.withPending (c :: s.pending)

/-- The host's question: the command that a word of the opcode table spells, put at the front of the queue; no row of the
table gives bits, so no word spells one. -/
def State.withFetchWord (s : State) (nbits w : Nat) : State :=
  match Sys2Proof.decodeTableWord nbits w with
  | some c => s.before c
  | none => s

end Sys2Proof.Machine
end

