-- ==== Sys2Proof/Safety.lean ====
section
/-! DEFINITION. What counts as a safe state: page memory in canonical form, tables within their ranges, queues within their
sizes, the controller's counts within theirs, every band of the pool in exactly one place, and the power record consistent. -/

namespace Sys2Proof.Machine

/-- R184, R187: an entry holds a value that its clamp leaves as it is, and that its width can hold. -/
abbrev entryOk (id i v : Nat) : Prop := clampEntry id i v = v ∧ v < 256 ^ (tableWidth id).getD 1

/-- R182, R184: every entry of every table is within its range, and SENSOR_TOTAL is at least SENSOR_LEAD + SCAN_WIDTH. -/
abbrev Tables.ok (t : Tables) : Prop :=
  (∀ id < 9, ∀ i < (tableEntries id).getD 0, entryOk id i (t.get id i)) ∧
    t.p Param.sensorLead + t.p Param.scanWidth ≤ t.p Param.sensorTotal

/-- R32, R34, R36: the refresh debt is at most 4, the row-hold table has at most three entries of different banks, and the
counters stop at 65535. -/
abbrev Dram.ok (d : Dram) : Prop :=
  d.debt ≤ 4 ∧ d.rowHold.length ≤ 3 ∧ (d.rowHold.map (·.1)).Nodup ∧ d.hits ≤ 65535 ∧ d.misses ≤ 65535 ∧
    d.evictions ≤ 65535 ∧ d.overruns ≤ 65535

/-- The bands held by the pages of a directory. -/
def PageStore.held (p : PageStore) : List Band := p.pages.toList.flatMap (·.chain)

/-- R8: the bands of a pool of a size. -/
def poolOf (size : Nat) : List Band := (List.finRange 512).take size

/-- R3, R8, R9: every band of the pool is in the free list or in one page's chain, once, and a FREE page has no bands. -/
abbrev PageStore.ok (p : PageStore) : Prop :=
  List.Perm (p.freeList ++ p.held) (poolOf p.poolSize) ∧ ∀ r ∈ p.pages.toList, r.state = .free → r.chain = []

/-- R138, R143, R147, R152, R153: the FIFOs and queues of the Stream Link are within their sizes. -/
abbrev Link.ok (l : Link) : Prop :=
  l.down.length ≤ Config.downCapacity ∧ l.up.length ≤ Config.upCapacity ∧
    l.replies.length ≤ Config.replyCapacity ∧ l.events.length ≤ Config.ordinaryEvents ∧
    (∀ c ∈ l.overflow, 1 ≤ c ∧ c ≤ 255) ∧ l.reads.length ≤ Config.readCapacity

/-- R71: the print queue is within its size. -/
abbrev PrintUnit.ok (u : PrintUnit) : Prop := u.queue.length ≤ Config.printCapacity

/-- R104: the phase index is 0 to 7. -/
abbrev Channel.ok (c : Channel) : Prop := c.phase < 8

/-- R190 to R205: what the power state says of the rest of the controller's record. POR holds the part in BOOT; HRSTO is
asserted in BOOT; HSTBY is asserted in SLEEP and WAKING exactly; a sleep is pending only in RUN or STANDBY; each timer stands
only in the state it belongs to; an entry to sleep has an origin, RUN or STANDBY, and alone holds a wake source. -/
abbrev Power.ok (p : Power) : Prop :=
  (p.por = true → p.state = .boot) ∧ (p.state = .boot → p.hrsto = true) ∧
    (p.hstby = true ↔ p.state = .sleep ∨ p.state = .waking) ∧
    (p.sleepPending.isSome = true → p.state = .run ∨ p.state = .standby) ∧
    (p.standbyTimer.isSome = true → p.state = .run) ∧ (p.sleepTimer.isSome = true → p.state = .standby) ∧
    (p.wakeTimer.isSome = true → p.state = .sleep) ∧ (p.wakeSource.isSome = true ↔ p.state = .waking) ∧
    (p.heldWake.isSome = true → p.state = .enteringSleep) ∧
    (p.state = .enteringSleep → p.origin = some .run ∨ p.origin = some .standby) ∧
    (p.state ≠ .enteringSleep → p.origin = none) ∧ (p.ordered = true → p.state = .enteringSleep ∧ p.drdyDropped = true)

/-- A safe state. -/
structure State.Safe (s : State) : Prop where
  mem : s.mem.wf = true
  tables : s.tables.ok
  dram : s.dram.ok
  store : s.store.ok
  link : s.link.ok
  print : s.print.ok
  motS : s.motS.ok
  motP : s.motP.ok
  power : s.power.ok

/-! ### Words that statements about one command use -/

/-- No unit waits for bands, none is told of memory, and no unit reads a page. -/
abbrev State.unattended (s : State) : Prop :=
  s.store.scanWaits = false ∧ s.store.memoryLow = false ∧ s.store.poolWait = none ∧ s.print.queue = [] ∧ s.link.reads = []

/-- R152: the event queue has room for n more ordinary events. -/
abbrev Link.room (l : Link) (n : Nat) : Prop := l.overflow = none ∧ l.events.length + n ≤ Config.ordinaryEvents

/-- The link with a reply at the tail of its queue, and with the assembler's choice as it then is. -/
abbrev Link.replied (l : Link) (tag kind : Byte) (code : ResultCode) (data : List Byte) (c : Option UpClass) : Link :=
  { l with replies := l.replies ++ [{ tag := tag, kind := kind, code := code, data := data }], chosen := c }

/-- The link with events at the tail of their queue, and with the assembler's choice as it then is. -/
abbrev Link.reported (l : Link) (es : List Event) (c : Option UpClass) : Link :=
  { l with events := l.events ++ es, chosen := c }

/-- R192: a power record with the standby timer, and whether its conditions hold, as another has them. -/
abbrev Power.timed (p q : Power) : Power := { p with quiet := q.quiet, standbyTimer := q.standbyTimer }

/-- R31: the order of the requester classes at a decision. -/
def ReqClass.rank : ReqClass → Nat
  | .scanWrite => 0
  | .printFetch => 1
  | .linkWrite => 2
  | .linkRead => 3

/-- The directory with one record replaced, the rest of the Page Store as it was. -/
abbrev PageStore.withPage (p : PageStore) (n : Nat) (r : PageRec) : PageStore :=
  { p with pages := p.pages.setIfInBounds n r }

/-- A safe run: every step that a number of steps makes from a state ends in a next state. -/
def State.runsSafely (s : State) : Nat → Prop
  | 0 => True
  | n + 1 =>
    match step s with
    | .next t => t.runsSafely n
    | .fault _ | .refused _ => False

end Sys2Proof.Machine
end

