-- ==== Sys2Proof/Certificates/Slice0/Obligations.lean ====
section
/-! DEFINITION. Statements about the model, for the provers. -/

open Sys2Proof Sys2Proof.Machine

/-! ### Steps and invariants -/

/-- A step takes the command at the front of the queue and runs it on the state with the queue's rest; with no command waiting 50
ns pass and nothing else changes (the model's choice, log entry 1). It rests on the model's choices of log entries 1 and 2. -/
def Obligations.StepTakesFrontCommand : Prop :=
  (∀ (c : Instr) (rest : List Instr) (s : State),
    step { s with pending := c :: rest } = exec c { s with pending := rest }) ∧
    ∀ s : State, s.pending = [] → step s = .next { s with now := s.now + 1 }

/-- Every command ends in a next state, with the queue of commands untouched and no time gone back: no command of the part faults,
and the model refuses none. It rests on the model's choices of log entries 1, 2 and 3. -/
def Obligations.EveryCommandCompletes : Prop :=
  ∀ (c : Instr) (s : State), ∃ t, exec c s = .next t ∧ t.pending = s.pending ∧ s.now ≤ t.now

/-- Page memory stays in its canonical form. -/
def Obligations.MemoryStaysCanonical : Prop :=
  ∀ s t : State, s.mem.wf = true → step s = .next t → t.mem.wf = true

/-- R2, R8: from the pool's build on each of its bands is in the free list or in one page's chain, once, and a FREE page holds
none. It rests on the model's choices of log entries 20 and 30. -/
def Obligations.BandsStayAccounted : Prop :=
  ∀ s t : State, s.store.ok → step s = .next t → t.store.ok

/-- R184, R187: every entry of every table stays within its range, and SENSOR_TOTAL covers SENSOR_LEAD and SCAN_WIDTH. -/
def Obligations.TablesStayInRange : Prop :=
  ∀ s t : State, s.tables.ok → step s = .next t → t.tables.ok

/-- R71, R138, R143, R147, R152, R153: no FIFO or queue grows beyond its size. R32, R34, R36, R104: the refresh debt, the row-hold
table, the counters and the phase indexes stay within their bounds. -/
def Obligations.QueuesAndCountsStayBounded : Prop :=
  ∀ s t : State, step s = .next t → (s.link.ok → t.link.ok) ∧ (s.print.ok → t.print.ok) ∧ (s.dram.ok → t.dram.ok) ∧
    (s.motS.ok → t.motS.ok) ∧ (s.motP.ok → t.motP.ok)

/-- R190 to R205: the power record stays consistent. HRSTO is asserted in BOOT, HSTBY in SLEEP and WAKING exactly, each timer
stands only in its own power state, and an entry to sleep has an origin, RUN or STANDBY. It rests on the model's choices of log
entry 31. -/
def Obligations.PowerRecordStaysConsistent : Prop :=
  ∀ s t : State, s.power.ok → step s = .next t → t.power.ok

/-- R205: under the POR input every block is at its power-on values and every output is off. The state meets every invariant
above. It rests on the model's choices of log entry 5. -/
def Obligations.ResetLeaves : Prop :=
  let s := State.reset
  s.Safe ∧
    (s.power.por = true ∧ s.power.state = .boot ∧ s.power.hrsto = true ∧ s.power.hstby = false ∧ s.power.lastBoot = none) ∧
    (s.scan.lamp = false ∧ s.print.hpwr = false ∧ s.print.cutter = false ∧ s.print.strobing = [] ∧ s.mpwr = false ∧
      s.motS.coils = 0#4 ∧ s.motP.coils = 0#4 ∧ s.drdy = false ∧ s.uready = false) ∧
    ((∀ p < 32, s.page p = PageRec.freed) ∧ s.store.poolSize = 0 ∧ s.store.freeList = []) ∧
    (s.dram.state = .init ∧ s.dram.debt = 0 ∧ s.dram.rowHold = [] ∧ s.dram.waiting = [] ∧ s.dram.hits = 0 ∧
      s.dram.misses = 0 ∧ s.dram.evictions = 0 ∧ s.dram.overruns = 0) ∧
    (s.motS.state = .off ∧ s.motP.state = .off ∧ s.scan.isIdle = true ∧ s.scan.occupied = 0 ∧ s.print.isIdle = true ∧
      s.print.seq = .idle) ∧
    ((∀ n < 8, s.mon.channel n = AnalogRec.empty) ∧ (∀ n < 6, s.mon.input n = InputRec.unsettled)) ∧
    (s.link.down = [] ∧ s.link.up = [] ∧ s.link.parser.state = .hunt ∧ s.link.replies = [] ∧ s.link.eventCount = 0 ∧
      s.link.writer = none ∧ s.link.reads = []) ∧
    s.tables = Tables.defaults

/-! ### Records -/

/-- R206, 13.3: the record that carries a well-formed command decodes to that command, with every operand at every value. -/
def Obligations.RecordsRoundTrip : Prop :=
  ∀ (i : Instr) (bytes : List Byte), i.wellFormed = true → encodeRecord i = some bytes → decodeRecord bytes = some i

/-- R206, 13.3: records written out byte by byte decode to the commands they stand for. -/
def Obligations.HandWrittenRecordsDecode : Prop :=
  decodeRecord [0x5A#8, 0x01#8, 0x11#8, 0x00#8, 0x09#8, 0x03#8, 0x00#8, 0x01#8, 0x06#8, 0xC0#8, 0x02#8, 0x01#8, 0xBE#8,
      0xEF#8] = some (.openPage 0x11#8 3#8 0#8 1#8 0x06C0#16 2#8 1#8 0xBEEF#16) ∧
    decodeRecord [0x5A#8, 0x08#8, 0x12#8, 0x00#8, 0x0A#8, 0x04#8, 0x01#8, 0x00#8, 0x01#8, 0x12#8, 0x34#8, 0x01#8, 0x03#8,
      0x00#8, 0x64#8] = some (.scan 0x12#8 4#8 1#8 0#8 1#8 0x1234#16 1#8 3#8 100#16) ∧
    decodeRecord [0x5A#8, 0x0C#8, 0x13#8, 0x00#8, 0x02#8, 0x04#8, 0x63#8] = some (.print 0x13#8 4#8 99#8) ∧
    decodeRecord [0x5A#8, 0x10#8, 0x14#8, 0x00#8, 0x07#8, 0x05#8, 0x00#8, 0x20#8, 0x00#8, 0x40#8, 0x00#8, 0x00#8] =
      some (.readPage 0x14#8 5#8 0x002000#24 0x400000#24) ∧
    decodeRecord [0x5A#8, 0x14#8, 0x15#8, 0x00#8, 0x03#8, 0x01#8, 0x02#8, 0x58#8] = some (.feed 0x15#8 1#8 600#16) ∧
    decodeRecord [0x5A#8, 0x18#8, 0x16#8, 0x00#8, 0x05#8, 0x00#8, 0x00#8, 0x28#8, 0x00#8, 0x10#8] =
      some (.loadTable 0x16#8 0#8 40#16 [0x00#8, 0x10#8]) ∧
    decodeRecord [0x5A#8, 0x1E#8, 0x17#8, 0x00#8, 0x00#8] = some (.queryStatus 0x17#8) ∧
    decodeRecord [0x5A#8, 0x40#8, 0x00#8, 0x00#8, 0x03#8, 0x02#8, 0xFF#8, 0x01#8] = some (.line 2#8 [0xFF#8, 0x01#8]) ∧
    decodeRecord [0x5A#8, 0x03#8, 0x18#8, 0x00#8, 0x02#8, 0x05#8, 0x05#8] = none

/-- R139 to R142: the parser, at a record boundary, takes the bytes of a whole record one by one and hands its command on, once,
and leaves the bytes behind it. It speaks of the parser's own step, without the test of the sleep and standby timers (R192, R196)
that a PARSER_BYTE_TAKEN makes behind it. For a QUERY STATUS the clause says that its reply shows the parser in HEADER: that
instance is no rule's, it is the model's choice (log entry 36). It rests on the model's choices of log entries 4 and 36. -/
def Obligations.ParserDeliversWholeRecord : Prop :=
  ∀ (i : Instr) (bytes rest : List Byte) (s : State), i.wellFormed = true → encodeRecord i = some bytes →
    s.link.down = bytes ++ rest → (s.link.parser = Parser.reset ∨ s.link.parser = Parser.ready) → s.takes i = true →
    State.takeByte^[bytes.length] s =
      ({ s with link := { s.link with down := rest, parser := Parser.ready } } : State).deliver i

/-! ### Reset and boot -/

/-- R201, R205, R26, R132: POR puts every block at its power-on values; its release begins INIT's wait of 200 µs and eight refresh
cycles, the sampling of the inputs, and the boot that the straps name: a start condition and the device select 0xA0 go out at once
where a stream is read. The model's clock and queue go on through POR (log entry 5), and the first sample is taken 1 ms after the
release (log entry 10). It rests on the model's choices of log entries 2, 5, 8 and 10. -/
def Obligations.PowerOnResetAndRelease : Prop :=
  (∀ s : State, exec .powerOnReset s = .next { State.reset with now := s.now, pending := s.pending }) ∧
    ∀ (b1 b0 : Bool) (s : State), s.power.por = true →
      let source : BootSource := if b1 = b0 then .absent else if b0 = true then .oneByte else .twoByte
      exec (.porRelease b1 b0) s = .next { s with
        dram := { s.dram with stateEnds := some (s.now + 20 * 200 + 8 * 4) }
        mon := { s.mon with nextSample := some (s.now + 20000) }
        power := { s.power with
          por := false
          bootsel1 := b1
          bootsel0 := b0
          state := .boot
          origin := none
          sleepPending := none
          standbyTimer := none
          sleepTimer := none
          wakeTimer := none
          heldWake := none
          wakeSource := none
          hrsto := true
          drdyDropped := false
          drdyBound := none
          ordered := false
          quiet := false
          boot :=
            { cause := .por
              source := some source
              attempts := 0
              bytes := 0
              sum := 0
              applied := 0
              outcome := if b1 = b0 then some .noSource else none }
          twoWire := if b1 = b0 then .idle else .sending 0
          wire :=
            (if s.power.twoWire.busy = true then [.stop] else []) ++
              (if b1 = b0 then [] else [.start, .byte 0xA0#8])
          bootHeader := []
          bootPayload := [] } }

/-- R24, R44, R70, R90, R124, R136, R156, R205: a WRST keeps the tables, page memory and the controller's counters, closes the
open pages as truncated, gives their unused filling bands to the free list in page order, clears every hold, and puts the other
blocks at their warm reset values; from BOOT, RUN, STANDBY and a sleep entry before its step 4 a boot begins at once; a part that
has been ordered to sleep, sleeps or wakes leaves self-refresh first. The first sample of an input is taken 1 ms later (log entry
10), and S and the cruise index of a channel are kept (log entry 32). It rests on the model's choices of log entries 2, 8, 10, 20,
22, 24, 27 and 32. -/
def Obligations.WarmReset : Prop :=
  ∀ (b1 b0 : Bool) (s : State), s.power.por = false →
    ∃ t, exec (.wrst b1 b0) s = .next t ∧ t.now = s.now ∧ t.pending = s.pending ∧ t.mem = s.mem ∧ t.tables = s.tables ∧
      (∀ p < 32, (t.page p).state ≠ .opened ∧ (t.page p).printHold = 0 ∧ (t.page p).linkHold = 0 ∧
        (t.page p).consumer = none ∧ (t.page p).committed = (s.page p).committed ∧ (t.page p).label = (s.page p).label ∧
        ((s.page p).state = .opened →
          t.page p = { s.page p with
            state := .closed
            writer := none
            truncated := true
            filling := false
            chain := if (s.page p).filling = true then (s.page p).chain.dropLast else (s.page p).chain
            printHold := 0
            linkHold := 0
            consumer := none }) ∧
        ((s.page p).state ≠ .opened →
          t.page p = { s.page p with printHold := 0, linkHold := 0, consumer := none })) ∧
      t.store.freeList = s.store.freeList ++ (List.range 32).flatMap (fun p =>
        if (s.page p).state = .opened ∧ (s.page p).filling = true then (s.page p).chain.getLast?.toList else []) ∧
      t.store.poolSize = s.store.poolSize ∧ t.store.scanWaits = false ∧ t.store.memoryLow = false ∧
      t.store.poolWait = none ∧
      t.dram.waiting = [] ∧ t.dram.sleepOrder = false ∧ t.dram.hits = s.dram.hits ∧ t.dram.misses = s.dram.misses ∧
      t.dram.evictions = s.dram.evictions ∧ t.dram.overruns = s.dram.overruns ∧
      t.motS.state = .off ∧ t.motS.owner = .nobody ∧ t.motP.state = .off ∧ t.motP.owner = .nobody ∧
      (∀ m : Motor, (t.mot m).coils = 0#4 ∧ (t.mot m).move = none ∧ (t.mot m).floor = 0 ∧
        (t.mot m).steps = (s.mot m).steps ∧ (t.mot m).cruise = (s.mot m).cruise ∧ (t.mot m).phase = (s.mot m).phase) ∧
      t.scan = ScanUnit.reset ∧ t.print = { PrintUnit.reset with headDots := s.print.headDots } ∧
      t.mon = { Monitor.reset with nextSample := some (s.now + 20000) } ∧
      t.link = { Link.reset with dataOut := s.link.dataOut, events := t.link.events, chosen := t.link.chosen } ∧
      t.power.hrsto = true ∧ t.power.sleepPending = none ∧ t.power.standbyTimer = none ∧ t.power.sleepTimer = none ∧
      t.power.wakeTimer = none ∧
      ((s.power.state = .boot ∨ s.power.state = .run ∨ s.power.state = .standby) →
        t.power.state = .boot ∧ t.link.events = []) ∧
      (s.power.state = .sleep → t.power.state = .waking ∧ t.power.wakeSource = some .wrst ∧ t.link.events = []) ∧
      (s.power.state = .waking → t.power.state = .waking ∧ t.power.wakeSource = some .wrst ∧ t.link.events = []) ∧
      (s.power.state = .enteringSleep → s.power.ordered = false → t.power.state = .boot ∧ t.link.events = []) ∧
      (s.power.state = .enteringSleep → s.power.ordered = true → s.dram.cause = some .sleep →
        t.power.state = .enteringSleep ∧ t.power.heldWake = some .wrst ∧ t.link.events = []) ∧
      (s.power.state = .enteringSleep → s.power.ordered = true → s.dram.cause ≠ some .sleep →
        t.power.state = .boot ∧ t.power.hstby = false ∧ t.link.events = [.woke .wrst])

/-- R70, R156, R176, R205: a RESTART keeps the tables, page memory, FIFOs and the Sensor Monitor, closes the open pages as
truncated, gives their unused filling bands to the free list in page order, puts the other blocks at their warm reset values, and
answers with the number of replies it discarded; the ends of the jobs it cut off are reported after the reply. It rests on the
model's choices of log entries 2, 20, 21, 22, 24 and 32. -/
def Obligations.RestartResets : Prop :=
  ∀ (tag : Byte) (s : State), s.takesCommand = true → s.power.state = .run → s.link.ok → s.print.ok →
    ∃ t, exec (.restart tag) s = .next t ∧ t.now = s.now ∧ t.pending = s.pending ∧ t.mem = s.mem ∧ t.tables = s.tables ∧
      t.mon.analog = s.mon.analog ∧
      (∀ p < 32, (t.page p).state ≠ .opened ∧ (t.page p).printHold = 0 ∧ (t.page p).linkHold = 0 ∧
        (t.page p).consumer = none ∧ (t.page p).committed = (s.page p).committed ∧ (t.page p).label = (s.page p).label ∧
        ((s.page p).state = .opened →
          t.page p = { s.page p with
            state := .closed
            writer := none
            truncated := true
            filling := false
            chain := if (s.page p).filling = true then (s.page p).chain.dropLast else (s.page p).chain
            printHold := 0
            linkHold := 0
            consumer := none }) ∧
        ((s.page p).state ≠ .opened →
          t.page p = { s.page p with printHold := 0, linkHold := 0, consumer := none })) ∧
      t.store.freeList = s.store.freeList ++ (List.range 32).flatMap (fun p =>
        if (s.page p).state = .opened ∧ (s.page p).filling = true then (s.page p).chain.getLast?.toList else []) ∧
      t.store.poolSize = s.store.poolSize ∧ t.store.scanWaits = false ∧ t.store.memoryLow = false ∧
      t.store.poolWait = none ∧
      t.dram = { s.dram with waiting := [], sleepOrder := false, current := t.dram.current } ∧
      t.motS.state = .off ∧ t.motS.owner = .nobody ∧ t.motP.state = .off ∧ t.motP.owner = .nobody ∧
      (∀ m : Motor, (t.mot m).coils = 0#4 ∧ (t.mot m).move = none ∧ (t.mot m).floor = 0 ∧
        (t.mot m).steps = (s.mot m).steps ∧ (t.mot m).cruise = (s.mot m).cruise ∧ (t.mot m).phase = (s.mot m).phase) ∧
      t.scan = ScanUnit.reset ∧ t.print = { PrintUnit.reset with headDots := s.print.headDots } ∧
      t.link = { Link.reset with
        down := s.link.down
        up := s.link.up
        dataOut := s.link.dataOut
        replies := [{ tag := tag, kind := 0x1F#8, code := .accepted, data := [byteOf s.link.replies.length] }]
        events :=
          (if s.scan.job.state = .idle then [] else [.scanAborted (s.scan.job.page.getD 0) .restart]) ++
            s.print.queue.map (fun e => .printCancelled e.page) ++
            s.link.reads.map (fun e => .readDone e.page e.placed true)
        chosen := some .reply } ∧
      t.power.state = .run ∧ t.power.sleepPending = none

/-- R202: an attempt sends three bytes to a 1-byte EEPROM and four to a 2-byte one: 0xA0 behind a start condition, one or two zero
bytes of word address, and 0xA1 behind a repeated start. One that is acknowledged whole reads on; one that is not ends with a stop
condition and is tried again after 10 ms, and the fourth failure gives NO_DEVICE. It rests on the model's choices of log entries 2
and 28. -/
def Obligations.TwoWireAttempts : Prop :=
  (∀ (n : Nat) (acknowledged : Bool) (s : State), s.power.twoWire = .sending n →
    (s.power.boot.source = some .oneByte ∨ s.power.boot.source = some .twoByte) →
    let last := if s.power.boot.source = some .oneByte then 2 else 3
    let counted := { s.power.boot with attempts := s.power.boot.attempts + 1 }
    exec (.twoWireByteSent acknowledged) s = .next { s with
      power :=
        if acknowledged = true ∧ n < last then
          { s.power with
            twoWire := .sending (n + 1)
            wire := if n + 1 = last then [.start, .byte 0xA1#8] else [.byte 0x00#8] }
        else if acknowledged = true then { s.power with twoWire := .reading, wire := [], boot := counted }
        else if s.power.boot.attempts < 3 then
          { s.power with twoWire := .waiting (s.now + 200000), wire := [.stop], boot := counted }
        else { s.power with twoWire := .idle, wire := [.stop], boot := { counted with outcome := some .noDevice } } }) ∧
    ∀ (d : Nat) (s : State), s.power.twoWire = .waiting d →
      exec .bootRetryWaitEnd s = .next { s with
        now := max s.now d
        power := { s.power with
          twoWire := .sending 0
          wire :=
            if s.power.boot.source = some .oneByte ∨ s.power.boot.source = some .twoByte then [.start, .byte 0xA0#8]
            else [] } }

/-- R203: the boot parser. A record must begin with SYNC, its KIND be LOAD TABLE or END, its LENGTH at most 2048 and one that the
KIND admits, and a LOAD TABLE hold whole entries of its table; each fault gives FORMAT. Every byte but those of END's payload
joins the sum, a LOAD TABLE is applied at its last byte and counted, one that would be refused is passed over, and END gives OK or
SUM. R202: each byte is acknowledged, but the one that ends the stream, behind which a stop condition follows. It rests on the
model's choices of log entries 2 and 28. -/
def Obligations.BootStreamBytes : Prop :=
  ∀ (b : Byte) (s : State), s.power.twoWire = .reading → s.power.boot.outcome = none → s.power.boot.bytes + 1 < 8192 →
    let p := s.power
    let counted := { p.boot with bytes := p.boot.bytes + 1, sum := (p.boot.sum + b.toNat) % 65536 }
    let unsummed := { p.boot with bytes := p.boot.bytes + 1 }
    let next (boot : BootRec) (header payload : List Byte) : State :=
      { s with
        power := { p with boot := boot, bootHeader := header, bootPayload := payload, wire := [.acknowledge] } }
    let ended (boot : BootRec) (o : BootOutcome) (header payload : List Byte) : State :=
      { s with
        power := { p with
          boot := { boot with outcome := some o }
          bootHeader := header
          bootPayload := payload
          twoWire := .idle
          wire := [.notAcknowledge, .stop] } }
    (p.bootHeader = [] →
      exec (.bootStreamByte b) s =
        .next (if b = 0x5A#8 then next counted [b] [] else ended counted .format [b] [])) ∧
    (∀ sync : Byte, p.bootHeader = [sync] →
      exec (.bootStreamByte b) s =
        .next (if b = 0x18#8 ∨ b = 0x3F#8 then next counted [sync, b] [] else ended counted .format [sync, b] [])) ∧
    (∀ sync kind : Byte, p.bootHeader = [sync, kind] →
      exec (.bootStreamByte b) s = .next (next counted [sync, kind, b] [])) ∧
    (∀ sync kind tag : Byte, p.bootHeader = [sync, kind, tag] →
      exec (.bootStreamByte b) s = .next (next counted [sync, kind, tag, b] [])) ∧
    (∀ sync kind tag hi : Byte, p.bootHeader = [sync, kind, tag, hi] →
      let length := 256 * hi.toNat + b.toNat
      exec (.bootStreamByte b) s =
        .next (if 2048 < length ∨ (kind = 0x3F#8 ∧ length ≠ 2) ∨ (kind = 0x18#8 ∧ length < 4) then
            ended counted .format [sync, kind, tag, hi, b] []
          else next counted [sync, kind, tag, hi, b] [])) ∧
    (∀ sync tag : Byte, p.bootHeader = [sync, 0x3F#8, tag, 0#8, 2#8] → p.bootPayload = [] →
      exec (.bootStreamByte b) s = .next (next unsummed p.bootHeader [b])) ∧
    (∀ tag hi : Byte, p.bootHeader = [0x5A#8, 0x3F#8, tag, 0#8, 2#8] → p.bootPayload = [hi] →
      exec (.bootStreamByte b) s =
        .next (ended unsummed (if 256 * hi.toNat + b.toNat = p.boot.sum then .ok else .sum) [] [])) ∧
    (∀ sync tag n1 n0 : Byte, p.bootHeader = [sync, 0x18#8, tag, n1, n0] → p.bootPayload = [] →
      4 ≤ 256 * n1.toNat + n0.toNat →
      exec (.bootStreamByte b) s =
        .next (if b ∈ [0#8, 3#8, 4#8, 5#8] ∧ (256 * n1.toNat + n0.toNat - 3) % 2 ≠ 0 then
            ended counted .format p.bootHeader [b]
          else next counted p.bootHeader [b])) ∧
    (∀ sync tag n1 n0 : Byte, p.bootHeader = [sync, 0x18#8, tag, n1, n0] → p.bootPayload ≠ [] →
      p.bootPayload.length + 1 < 256 * n1.toNat + n0.toNat →
      exec (.bootStreamByte b) s = .next (next counted p.bootHeader (p.bootPayload ++ [b]))) ∧
    ∀ (tag n1 n0 table hi lo : Byte) (es : List Byte), p.bootHeader = [0x5A#8, 0x18#8, tag, n1, n0] →
      p.bootPayload = [table, hi, lo] ++ es → (half n1 n0).toNat = es.length + 4 →
      (∀ w c, s.loadOutcome table.toNat (half hi lo).toNat (es ++ [b]) = .accepted w c →
        ∃ t, exec (.bootStreamByte b) s = .next t ∧ t.now = s.now ∧ t.pending = s.pending ∧
          t.tables = s.tables.load table.toNat (half hi lo).toNat (loadValues table.toNat (es ++ [b])) ∧
          t.scan = s.scan ∧ t.print = s.print ∧ t.mon.analog = s.mon.analog ∧ t.link = s.link ∧
          t.power = { p with
            bootHeader := []
            bootPayload := []
            wire := [.acknowledge]
            boot := { counted with applied := min 255 (p.boot.applied + 1) } }) ∧
      ((∀ w c, s.loadOutcome table.toNat (half hi lo).toNat (es ++ [b]) ≠ .accepted w c) →
        exec (.bootStreamByte b) s = .next (next counted [] []))

/-- R8, R189, R204: the end of boot. A failed boot writes the built-in defaults, keeping BANKS while a page stands; the pool is
built where it never was; HRSTO is released, the part enters RUN, the first round starts, and BOOT_DONE is raised. It rests on the
model's choices of log entries 2 and 31. -/
def Obligations.EndOfBoot : Prop :=
  ∀ (o : BootOutcome) (s : State), s.power.state = .boot → s.power.por = false → s.power.boot.outcome = some o →
    s.mon.settled = true → s.dram.state ≠ .init → s.power.sleepPending = none → s.mon.transaction = none →
    (∀ n < 8, (s.mon.channel n).band = none) → s.link.room 1 →
    ∃ t, exec .endOfBoot s = .next t ∧ t.now = s.now ∧ t.pending = s.pending ∧
      t.power = ({ s.power with
        state := .run
        hrsto := false
        lastBoot := some (o, s.power.boot.applied) } : Power).timed t.power ∧
      t.link = s.link.reported [.bootDone o s.power.boot.applied] t.link.chosen ∧
      t.mon.lastRound = some { start := s.now, period := t.tables.p Param.sensorPeriod } ∧
      t.mon.nextRound = some (s.now + 20000 * t.tables.p Param.sensorPeriod) ∧
      t.scan = s.scan ∧ t.print = s.print ∧
      ((o = .ok ∨ o = .noSource) → t.tables = s.tables ∧ t.mem = s.mem ∧ t.dram = s.dram ∧ t.motS = s.motS ∧
        t.motP = s.motP) ∧
      ((o = .noDevice ∨ o = .sum ∨ o = .format) →
        t.tables = if s.store.directoryEmpty = true then Tables.defaults
          else Tables.defaults.put 0 Param.banks (s.tables.p Param.banks)) ∧
      (s.store.poolSize = 0 →
        t.store = { s.store with
          poolSize := 128 * t.tables.p Param.banks
          freeList := (List.finRange 512).take (128 * t.tables.p Param.banks) })

/-! ### The Page Memory Controller -/

/-- R26, R38, R39, R41: the controller's states with nothing waiting. INIT ends in ACTIVE; the auto self-refresh timer begins
SR_ENTRY, at once or at the end of a refresh; SR_ENTRY ends in SELF_REFRESH, or goes on to SR_EXIT where a request waits; and
SR_EXIT ends in ACTIVE with the debt 0 and the first tick REFRESH_INTERVAL away. R26, R33, R37: the RAS lines. In INIT all are
inactive under power-on reset and for the 200 µs, and all four are asserted in the eight cycles of 0.20 µs that end it, whatever
BANKS is; after INIT those of banks at or beyond BANKS are inactive; a refresh asserts those of banks 0 to BANKS − 1, and between
refreshes in ACTIVE the lines of the held rows are active. A line's level stands for the whole of a cycle, which is the model's
choice (log entry 38). It rests on the model's choices of log entries 2 and 38. -/
def Obligations.ControllerStates : Prop :=
  (∀ (d : Nat) (s : State), s.dram.sleepOrder = false → s.dram.heldBanks = none →
    let at_ := max s.now d
    let active : Dram :=
      { s.dram with
        state := .active
        stateEnds := none
        cause := none
        debt := 0
        rowHold := []
        nextTick := some (at_ + 20 * s.tables.p Param.refreshInterval)
        exitAsked := false
        wakeExit := false }
    (s.dram.state = .init → s.dram.stateEnds = some d → s.dram.current = none → s.dram.waiting = [] →
      s.dram.autoDue = false → exec .initEnd s = .next { s with now := at_, dram := active }) ∧
    (s.dram.state = .active → s.dram.autoTimer = some d → s.dram.current = none →
      exec .autoSrTimerExpiry s = .next { s with
        now := at_
        dram := { s.dram with
          state := .srEntry
          stateEnds := some (at_ + 4)
          cause := some .auto
          debt := 0
          nextTick := none
          rowHold := []
          autoTimer := none
          autoDue := false } }) ∧
    (∀ e, s.dram.state = .active → s.dram.autoTimer = some d → s.dram.current = some (.refresh e) →
      exec .autoSrTimerExpiry s = .next { s with
        now := at_
        dram := { s.dram with autoTimer := none, autoDue := true } }) ∧
    (s.dram.state = .srEntry → s.dram.stateEnds = some d → s.dram.cause = some .auto →
      exec .srEntryEnd s = .next { s with
        now := at_
        dram :=
          if s.dram.waiting = [] ∧ s.dram.exitAsked = false then
            { s.dram with state := .selfRefresh, stateEnds := none }
          else
            { s.dram with
              state := .srExit
              stateEnds := some (at_ + 20 * s.tables.p Param.srExitTime)
              exitAsked := false } }) ∧
    (s.dram.state = .srExit → s.dram.stateEnds = some d → s.dram.wakeExit = false → s.dram.current = none →
      s.dram.waiting = [] → s.dram.autoDue = false → s.power.state ≠ .standby →
      exec .srExitEnd s = .next { s with now := at_, dram := active })) ∧
  ∀ (now e : Nat) (dram : Dram) (k : Fin 4),
    (dram.state = .init → dram.stateEnds = none → dram.ras now k = false) ∧
    (dram.state = .init → dram.stateEnds = some e → (dram.ras now k = true ↔ e ≤ now + 8 * 4)) ∧
    (dram.state ≠ .init → dram.banks ≤ k.val → dram.ras now k = false) ∧
    (dram.state = .active → dram.current = some (.refresh e) → (dram.ras now k = true ↔ k.val < dram.banks)) ∧
    (dram.state = .active → (∀ e', dram.current ≠ some (.refresh e')) →
      (dram.ras now k = true ↔ k.val < dram.banks ∧ ∃ row, (k.val, row) ∈ dram.rowHold))

/-- R32, R33: a tick adds 1 to the debt, or at 4 counts an overrun and raises REFRESH_OVERRUN; a tick that finds the controller
with nothing to do is granted at once; and a refresh ends with nothing in progress where no work is left. It rests on the model's
choices of log entry 2. -/
def Obligations.RefreshTicks : Prop :=
  ∀ (d : Nat) (s : State), s.dram.state = .active →
    let at_ := max s.now d
    let next := some (at_ + 20 * s.tables.p Param.refreshInterval)
    (∀ a, s.dram.nextTick = some d → s.dram.current = some a → s.dram.debt < 4 →
      exec .refreshTick s = .next { s with
        now := at_
        dram := { s.dram with debt := s.dram.debt + 1, nextTick := next } }) ∧
    (∀ a, s.dram.nextTick = some d → s.dram.current = some a → s.dram.debt = 4 → s.link.room 1 →
      ∃ t, exec .refreshTick s = .next t ∧ t = { s with
        now := at_
        dram := { s.dram with nextTick := next, overruns := min 65535 (s.dram.overruns + 1) }
        link := s.link.reported [.refreshOverrun] t.link.chosen }) ∧
    (s.dram.nextTick = some d → s.dram.current = none → s.dram.waiting = [] → s.dram.debt = 0 →
      s.dram.sleepOrder = false → s.dram.autoDue = false → s.dram.heldBanks = none →
      exec .refreshTick s = .next { s with
        now := at_
        dram := { s.dram with nextTick := next, rowHold := [], current := some (.refresh (at_ + 4)) } }) ∧
    (s.dram.current = some (.refresh d) → s.dram.waiting = [] → s.dram.debt = 0 → s.dram.sleepOrder = false →
      s.dram.autoDue = false → s.dram.heldBanks = none →
      exec .refreshEnd s = .next { s with now := at_, dram := { s.dram with current := none } })

/-- R29, R31: a decision grants the first class in order that has work, its oldest request, for the time its row access and its
words take; a refresh comes first at debt 4 and after the print fetches otherwise; and nothing is granted where there is no work.
-/
def Obligations.ArbiterOrder : Prop :=
  ∀ (now : Nat) (d : Dram), d.state = .active → d.current = none → d.heldBanks = none → d.sleepOrder = false →
    d.autoDue = false → d.debt ≤ 4 →
    let e := d.arbitrate now
    (e.current = none ↔ d.waiting = [] ∧ d.debt = 0) ∧
    ((∃ x, e.current = some (.refresh x)) ↔ d.debt = 4 ∨ (0 < d.debt ∧ ∀ q ∈ d.waiting, 2 ≤ q.cls.rank)) ∧
    ∀ r x, e.current = some (.transfer r x) →
      r ∈ d.waiting ∧ (∀ q ∈ d.waiting, r.cls.rank ≤ q.cls.rank) ∧
        d.waiting.find? (fun q => q.cls == r.cls) = some r ∧ d.debt ≠ 4 ∧ (0 < d.debt → r.cls.rank < 2) ∧
        x = now + transferTime d.rowHold r

/-- R29, R34: a transfer's row access and time. The accessed row becomes the most recently used entry, the table keeps at most
three rows of different banks, a held row counts a hit and any other a miss, and a full table gives up its least recently used
entry and counts an eviction too. The transfer takes the setup time of its case and 50 ns for each 16-bit word with a byte in it.
-/
def Obligations.RowAccess : Prop :=
  (∀ c n : Nat, 0 < n → transferWords c n = ((Finset.range n).image fun i => (c + i) / 2).card) ∧
  ∀ (bank row : Nat) (d : Dram), d.ok →
    let e := d.openRow bank row
    let full := d.rowHold.length = 3 ∧ bank ∉ d.rowHold.map (·.1)
    (e.rowHold.length ≤ 3 ∧ (e.rowHold.map (·.1)).Nodup ∧ e.rowHold.getLast? = some (bank, row)) ∧
    (full → e.rowHold = d.rowHold.tail ++ [(bank, row)]) ∧
    (¬full → ∀ x, x.1 ≠ bank → (x ∈ e.rowHold ↔ x ∈ d.rowHold)) ∧
    ((bank, row) ∈ d.rowHold →
      e.hits = min 65535 (d.hits + 1) ∧ e.misses = d.misses ∧ e.evictions = d.evictions) ∧
    ((bank, row) ∉ d.rowHold → e.hits = d.hits ∧ e.misses = min 65535 (d.misses + 1)) ∧
    (full → e.evictions = min 65535 (d.evictions + 1)) ∧ (¬full → e.evictions = d.evictions) ∧
    e = { d with rowHold := e.rowHold, hits := e.hits, misses := e.misses, evictions := e.evictions } ∧
    ∀ r : Request, r.bank = bank → r.row = row →
      transferTime d.rowHold r = transferWords r.col r.count +
        (if (bank, row) ∈ d.rowHold then 0 else if bank ∈ d.rowHold.map (·.1) then 4 else if full then 3 else 2)

/-- R1: where a band's bytes and line slots lie. Byte o of band b has the DRAM address 8192 b + o, in the band's own eight rows;
line slot l begins at byte 256 l of its band. So no two bands, and no two line slots of one band, share a byte. -/
def Obligations.PageMemoryLayout : Prop :=
  (∀ (b : Band) (o : Nat), o < 8192 →
    dramAddress (bandBank b) (byteRow b o) (byteCol o) = 8192 * b.val + o ∧ byteCol o < 1024 ∧
      8 * (b.val % 128) ≤ byteRow b o ∧ byteRow b o ≤ 8 * (b.val % 128) + 7 ∧ bandBank b = b.val / 128) ∧
  (∀ (b : Band) (l i : Nat), l < 32 → i < 256 →
    dramAddress (bandBank b) (slotRow b l) (slotCol l) + i = 8192 * b.val + 256 * l + i ∧ slotCol l + i < 1024 ∧
      slotRow b l = byteRow b (256 * l)) ∧
  ∀ (b b' : Band) (o o' : Nat), o < 8192 → o' < 8192 → (b ≠ b' ∨ o ≠ o') →
    dramAddress (bandBank b) (byteRow b o) (byteCol o) ≠ dramAddress (bandBank b') (byteRow b' o') (byteCol o')

/-- R29: what a transfer has stored is read back from where it was stored, and every other byte is as it was. -/
def Obligations.StoredBytesReadBack : Prop :=
  ∀ (bytes : List Byte) (a : Nat) (m : Memory), m.wf = true →
    (m.writeAll a bytes).readAll a bytes.length = bytes ∧
      ∀ x, (x < a ∨ a + bytes.length ≤ x) → (m.writeAll a bytes).read x = m.read x

/-- R6, R29, R59, R144, R145: a write transfer ends. Its bytes stand from its address on, the line or bytes are committed, and the
writer's slot or record is free for the next. R2: the filling mark clears at the first commit into the band at the chain's tail,
and stands at a commit into the band before it. R17: a commit that completes a head band behind the consume mark consumes it: the
band joins the tail of the free list and the page's base rises. R18: with no consumer the page keeps it, although R17 names no
exception (log entry 39). It rests on the model's choices of log entries 2, 15, 20 and 39. -/
def Obligations.WritesCommit : Prop :=
  (∀ (r : Request) (e : Nat) (s : State), s.dram.current = some (.transfer r e) → r.live = true → r.page < 32 →
    (s.page r.page).state = .opened → (s.page r.page).mode = some .keep → s.print.queue = [] → s.link.reads = [] →
    s.power.sleepPending = none →
    let at_ := max s.now e
    let dram' := (s.dram.finish at_).startAuto at_ (s.tables.p Param.autoSrDelay) (s.power.state == .standby)
    let p := s.page r.page
    let unit := if p.kind = some .block then 8192 else 32
    let stored (n : Nat) : PageStore :=
      s.store.withPage r.page
        { p with
          committed := p.committed + n
          filling := if p.committed / unit - p.base / unit + 1 = p.chain.length then false else p.filling }
    (∀ (w : ScanWrite) (i : SlotId), r.cls = .scanWrite → r.slot = some i → s.scan.writes = [w] → w.index = r.index →
      w.slot = i → (s.page r.page).writer = some .scan → s.scan.job.state = .capture → s.scan.job.page = some r.page →
      (s.page r.page).committed + 1 ≠ s.tables.p Param.maxDocLines →
      ∃ t, exec .scanLineWriteEnd s = .next t ∧ t = { s with
        now := at_
        mem := s.mem.writeAll r.address r.data
        store := stored 1
        scan := { s.scan with writes := [], slotA := t.scan.slotA, slotB := t.scan.slotB }
        dram := dram'
        power := s.power.timed t.power } ∧
        (t.scan.slot i).use = .free ∧ ∀ j, j ≠ i → t.scan.slot j = s.scan.slot j) ∧
    (∀ j : LinkJob, r.cls = .linkWrite → s.link.writer = some j → (s.page r.page).writer = some .link →
      (j.isLine = true ∨ j.data.length ≤ r.count) →
      ∃ t, exec .linkWriteEnd s = .next t ∧ t = { s with
        now := at_
        mem := s.mem.writeAll r.address r.data
        store := stored (if j.isLine = true then 1 else r.count)
        link := { s.link with writer := none }
        dram := dram'
        power := s.power.timed t.power })) ∧
  ∀ (r : Request) (e : Nat) (j : LinkJob) (b : Band) (rest : List Band) (s : State),
    s.dram.current = some (.transfer r e) → r.live = true → r.cls = .linkWrite → r.page < 32 → s.link.writer = some j →
    j.isLine = true → s.store.scanWaits = false → s.store.memoryLow = false → s.store.poolWait = none →
    s.print.queue = [] → s.power.sleepPending = none →
    let p := s.page r.page
    p.state = .opened → p.mode = some .stream → p.kind = some .image → p.writer = some .link → p.chain = b :: rest →
    p.filling = false → p.base + 32 ≤ p.mark → p.committed + 1 = p.base + 32 →
    let at_ := max s.now e
    let written (store : PageStore) (t : State) : State := { s with
      now := at_
      mem := s.mem.writeAll r.address r.data
      store := store
      link := { s.link with writer := none }
      dram := (s.dram.finish at_).startAuto at_ (s.tables.p Param.autoSrDelay) (s.power.state == .standby)
      power := s.power.timed t.power }
    (∀ x : ReadEntry, p.consumer = some .link → s.link.reads = [x] → x.page = r.page → s.link.readBuf.status = .empty →
      p.committed + 1 ≤ x.cursor →
      ∃ t, exec .linkWriteEnd s = .next t ∧
        t = written (({ s.store with freeList := s.store.freeList ++ [b] } : PageStore).withPage r.page
          { p with committed := p.committed + 1, base := p.base + 32, chain := rest }) t) ∧
      (p.consumer = none → s.link.reads = [] →
        ∃ t, exec .linkWriteEnd s = .next t ∧
          t = written (s.store.withPage r.page { p with committed := p.committed + 1 }) t)

/-- R76, R77, R92, R148: a read transfer ends. A print fetch puts the line's head dots and dot counts in FETCH; a link read puts
the line in the read buffer, which waits for the upstream assembler. No byte of memory changes. It rests on the model's choices of
log entries 2 and 15. -/
def Obligations.ReadsDeliver : Prop :=
  ∀ (r : Request) (e : Nat) (s : State), s.dram.current = some (.transfer r e) → r.live = true →
    let at_ := max s.now e
    let dram' := (s.dram.finish at_).startAuto at_ (s.tables.p Param.autoSrDelay) (s.power.state == .standby)
    let bytes := s.mem.readAll r.address r.count
    (r.cls = .printFetch → s.print.copy.shift.status ≠ .empty →
      let dots := placeLine (s.tables.p Param.headWidth) (8 * r.count) bytes
      exec .printFetchEnd s = .next { s with
        now := at_
        print := { s.print with
          copy := { s.print.copy with
            fetch :=
              { status := .full
                line := r.index
                counts := dotCounts (s.tables.p Param.headWidth) dots
                dots := dots } } }
        dram := dram' }) ∧
    (r.cls = .linkRead → s.link.readBuf.isLine = true →
      ∃ t, exec .linkReadEnd s = .next t ∧ t = { s with
        now := at_
        link := { s.link with
          readBuf := { s.link.readBuf with status := .waiting, data := s.link.readBuf.data ++ bytes }
          chosen := t.link.chosen }
        dram := dram' })

/-! ### The Stream Link -/

/-- R138, R154, R198, R199: the host's strobes. A byte written while DRDY is asserted joins the downstream FIFO; one written while
it is not is lost, and in SLEEP it wakes the part, and late in ENTERING_SLEEP it is held as a wake source. A byte read while
UREADY is asserted leaves the upstream FIFO; otherwise 0x00 is presented. -/
def Obligations.HostBytes : Prop :=
  ∀ (b : Byte) (s : State),
    (s.drdy = true →
      exec (.hostByteWrite b) s = .next { s with link := { s.link with down := s.link.down ++ [b] } }) ∧
    (s.drdy = false → s.power.state ≠ .sleep → s.power.state ≠ .enteringSleep → exec (.hostByteWrite b) s = .next s) ∧
    (s.power.state = .sleep →
      ∃ t, exec (.hostByteWrite b) s = .next t ∧ t = { s with
        dram := t.dram
        power := { s.power with state := .waking, wakeSource := some .host, heldWake := none, wakeTimer := none } }) ∧
    (s.power.state = .enteringSleep → s.power.drdyDropped = true → s.power.heldWake = none →
      exec (.hostByteWrite b) s = .next { s with power := { s.power with heldWake := some .host } }) ∧
    (∀ rest, s.uready = true → s.link.up = b :: rest →
      exec .hostByteRead s = .next { s with link := { s.link with up := rest, dataOut := b } }) ∧
    (s.uready = false → exec .hostByteRead s = .next { s with link := { s.link with dataOut := 0x00#8 } })

/-- R139, R140: the parser takes the byte at the head of the downstream FIFO. HUNT discards what is not SYNC; SYNC begins a
header; a record that does not begin with SYNC, and a LENGTH above 2048, are a loss of frame; and in HELD no byte is taken. -/
def Obligations.ParserBytes : Prop :=
  ∀ (b : Byte) (rest : List Byte) (s : State), s.link.down = b :: rest → s.power.downstreamWorks = true →
    s.power.sleepPending = none →
    (s.link.parser.state = .hunt → b ≠ 0x5A#8 →
      ∃ t, exec .parserByteTaken s = .next t ∧
        t = { s with link := { s.link with down := rest }, power := s.power.timed t.power }) ∧
    (s.link.parser.state = .hunt → b = 0x5A#8 →
      ∃ t, exec .parserByteTaken s = .next t ∧ t = { s with
        link := { s.link with down := rest, parser := { state := .header, header := [b], taken := 0, buffer := [] } }
        power := s.power.timed t.power }) ∧
    (s.link.parser = Parser.ready → b ≠ 0x5A#8 → s.link.room 1 →
      ∃ t, exec .parserByteTaken s = .next t ∧ t = { s with
        link := ({ s.link with down := rest, parser := Parser.reset } : Link).reported [.framing] t.link.chosen
        power := s.power.timed t.power }) ∧
    (∀ kind tag hi : Byte, s.link.parser.state = .header → s.link.parser.header = [0x5A#8, kind, tag, hi] →
      2048 < 256 * hi.toNat + b.toNat → kind ≠ 0x5A#8 → tag ≠ 0x5A#8 → hi ≠ 0x5A#8 → b ≠ 0x5A#8 → s.link.room 1 →
      ∃ t, exec .parserByteTaken s = .next t ∧ t = { s with
        link := ({ s.link with down := rest, parser := Parser.reset } : Link).reported [.framing] t.link.chosen
        power := s.power.timed t.power }) ∧
    (s.link.parser.state = .held →
      ∃ t, exec .parserByteTaken s = .next t ∧ t = { s with power := s.power.timed t.power })

/-- R140 to R142: the record in HELD is handed on once its condition holds, and then the parser is at a record boundary; a record
that is unknown or malformed is answered with BAD_RECORD; and until the condition holds nothing changes. For a held QUERY STATUS
the first clause says that its reply shows the parser in HEADER: that instance is no rule's, it is the model's choice (log entry
36). It rests on the model's choices of log entries 31 and 36. -/
def Obligations.HeldRecordHandedOn : Prop :=
  ∀ s : State, s.power.downstreamWorks = true → s.link.parser.state = .held →
    (∀ i, s.link.parser.handed = .command i → s.takes i = true →
      exec .heldRecordHandedOn s =
        .next (({ s with link := { s.link with parser := Parser.ready } } : State).deliver i).settled) ∧
    (∀ tag kind, s.link.parser.handed = .badRecord tag kind → s.takesCommand = true → s.power.sleepPending = none →
      ∃ t, exec .heldRecordHandedOn s = .next t ∧ t = { s with
        link := ({ s.link with parser := Parser.ready } : Link).replied tag kind .badRecord [] t.link.chosen
        power := s.power.timed t.power }) ∧
    (s.mayHand s.link.parser.handed = false → exec .heldRecordHandedOn s = .next s)

/-- R152, R153, 13.3 to 13.5: the assembler places its chosen record when there is room for it: a reply, an event, the count of
lost events, or the read buffer's record; a reply waiting is chosen next before an event, and an event before read data. R150:
with its last record placed a read completes, its hold is removed and READ_DONE is raised. R18, R20, R21: the last hold gone, a
CLOSED KEEP page whose retain flag is clear, and a CLOSED STREAM page all read, is released; a STREAM page still OPEN loses its
consumer and the head bands behind the consume mark (R17). R12: the bands of a release go to a LINE that waits for one. The order
of these, one after another, is the model's (log entries 13 and 20). It rests on the model's choices of log entries 13, 20 and 31.
-/
def Obligations.UpstreamRecordPlaced : Prop :=
  (∀ s : State, s.power.upstreamWorks = true → s.power.sleepPending = none →
    (∀ (r : Reply) (rs : List Reply), s.link.chosen = some .reply → s.link.replies = r :: rs →
      s.link.up.length + (7 + r.data.length) ≤ 2048 →
      ∃ t, exec .upstreamRecordPlaced s = .next t ∧ t = { s with
        link := { s.link with
          up := s.link.up ++ ([0x5A#8, 0x80#8, r.tag] ++ twoBytes (r.data.length + 2) ++
            [r.kind, byteOf r.code.code] ++ r.data)
          replies := rs
          chosen :=
            if rs ≠ [] then some .reply
            else if s.link.events ≠ [] ∨ s.link.overflow.isSome = true then some .event
            else if s.link.readBuf.status = .waiting then some .data
            else none }
        power := s.power.timed t.power }) ∧
    (∀ (e : Event) (es : List Event), s.link.chosen = some .event → s.link.events = e :: es →
      s.link.up.length + (5 + e.payload.length) ≤ 2048 →
      ∃ t, exec .upstreamRecordPlaced s = .next t ∧ t = { s with
        link := { s.link with
          up := s.link.up ++ ([0x5A#8, 0x81#8, 0x00#8] ++ twoBytes e.payload.length ++ e.payload)
          events := es
          chosen := t.link.chosen }
        power := s.power.timed t.power }) ∧
    (∀ n : Nat, s.link.chosen = some .event → s.link.events = [] → s.link.overflow = some n →
      s.link.up.length + 8 ≤ 2048 →
      ∃ t, exec .upstreamRecordPlaced s = .next t ∧ t = { s with
        link := { s.link with
          up := s.link.up ++ [0x5A#8, 0x81#8, 0x00#8, 0x00#8, 0x03#8, 0x62#8, 0x00#8, byteOf n]
          overflow := none
          chosen := t.link.chosen }
        power := s.power.timed t.power }) ∧
    (∀ e : ReadEntry, s.link.chosen = some .data → s.link.reads = [e] → e.page < 32 →
      (s.page e.page).mode = some .keep → (s.page e.page).retain = some true →
      s.link.readBuf.first < s.link.readBuf.stop → e.count ≠ 0 →
      e.count = e.placed + (s.link.readBuf.stop - s.link.readBuf.first) →
      s.link.up.length + s.link.readBuf.record.length ≤ 2048 → s.link.room 1 →
      ∃ t, exec .upstreamRecordPlaced s = .next t ∧ t = { s with
        store := s.store.withPage e.page { s.page e.page with linkHold := (s.page e.page).linkHold - 1 }
        link := ({ s.link with
          up := s.link.up ++ s.link.readBuf.record
          reads := []
          readBuf := ReadBuf.none } : Link).reported [.readDone e.page e.count false] t.link.chosen
        power := s.power.timed t.power })) ∧
  ∀ (e : ReadEntry) (s : State), s.power.upstreamWorks = true → s.power.sleepPending = none → s.link.chosen = some .data →
    s.link.reads = [e] → e.page < 32 → s.link.readBuf.first < s.link.readBuf.stop → e.count ≠ 0 →
    e.count = e.placed + (s.link.readBuf.stop - s.link.readBuf.first) →
    s.link.up.length + s.link.readBuf.record.length ≤ 2048 → s.link.room 2 → s.print.queue = [] →
    s.store.scanWaits = false → s.store.memoryLow = false →
    let p := e.page
    let r := s.page p
    let placed (es : List Event) (t : State) : Link :=
      ({ s.link with up := s.link.up ++ s.link.readBuf.record, reads := [], readBuf := ReadBuf.none } : Link).reported es
        t.link.chosen
    let done : Event := .readDone p e.count false
    (r.state = .closed → r.printHold = 0 → r.linkHold = 1 → r.mode = some .keep → r.retain = some false →
      s.store.poolWait = none →
      ∃ t, exec .upstreamRecordPlaced s = .next t ∧ t = { s with
        store := ({ s.store with freeList := s.store.freeList ++ r.chain } : PageStore).withPage p PageRec.freed
        dram := { s.dram with current := t.dram.current }
        link := placed [done, .pageReleased p r.label] t
        power := s.power.timed t.power }) ∧
    (r.state = .closed → r.printHold = 0 → r.linkHold = 1 → r.mode = some .stream → r.kind = some .image →
      r.committed ≤ s.link.readBuf.stop → r.committed < r.base + 32 → s.store.poolWait = none →
      ∃ t, exec .upstreamRecordPlaced s = .next t ∧ t = { s with
        store := ({ s.store with freeList := s.store.freeList ++ r.chain } : PageStore).withPage p PageRec.freed
        dram := { s.dram with current := t.dram.current }
        link := placed [done, .pageReleased p r.label] t
        power := s.power.timed t.power }) ∧
    (∀ (b : Band) (rest : List Band), r.state = .opened → r.mode = some .stream → r.kind = some .image →
      r.consumer = some .link → r.chain = b :: rest → r.mark ≤ s.link.readBuf.stop → s.link.readBuf.stop = r.base + 32 → r.base + 32 ≤ r.committed →
      s.store.poolWait = none →
      ∃ t, exec .upstreamRecordPlaced s = .next t ∧ t = { s with
        store := ({ s.store with freeList := s.store.freeList ++ [b] } : PageStore).withPage p
          { r with
            base := r.base + 32
            chain := rest
            mark := r.base + 32
            linkHold := r.linkHold - 1
            consumer := none }
        link := placed [done] t
        power := s.power.timed t.power }) ∧
    ∀ (w : PoolWait) (j : LinkJob) (b : Band) (rest : List Band), r.state = .closed → r.printHold = 0 → r.linkHold = 1 →
      r.mode = some .keep → r.retain = some false → r.chain = b :: rest → s.store.freeList = [] →
      s.store.poolWait = some w → w.page ≠ p → w.page < 32 → s.link.writer = some j → j.isLine = true → j.page = w.page →
      (s.page w.page).state = .opened → (s.page w.page).base ≤ j.next →
      (s.page w.page).chain.length = j.next / 32 - (s.page w.page).base / 32 → s.reserve ≤ rest.length →
      s.dram.state = .active → (∃ x, s.dram.current = some (.refresh x)) →
      ∃ t, exec .upstreamRecordPlaced s = .next t ∧ t = { s with
        store := (({ s.store with freeList := rest, poolWait := none } : PageStore).withPage p PageRec.freed).withPage
          w.page { s.page w.page with chain := (s.page w.page).chain ++ [b], filling := true }
        dram := { s.dram with
          waiting := s.dram.waiting ++
            [{ lineRequest .linkWrite w.page j.next ((s.page w.page).width.getD 0) b j.data none with
                afterOrder := s.dram.sleepOrder }]
          autoTimer := none }
        link := placed [done, .pageReleased p r.label] t
        power := s.power.timed t.power }

/-- R5, R10, R12, R144: the link writer takes a LINE. It is refused where the page is not OPEN for it; in a band already begun its
transfer is requested; with a new band due the head of the free list is granted; and with no more bands free than the reserve the
pool wait begins. The line is fitted to the page's width. It rests on the model's choices of log entries 2 and 4. -/
def Obligations.LineTaken : Prop :=
  ∀ (page : Byte) (data : List Byte) (w : Nat) (s : State), s.takesData = true → s.power.state = .run →
    page.toNat < 32 →
    let p := page.toNat
    let r := s.page p
    let fitted := data.take (w / 8) ++ List.replicate (w / 8 - data.length) 0x00#8
    let job : LinkJob := { isLine := true, page := p, next := r.committed, data := fitted }
    (r.state ≠ .opened → s.link.room 1 →
      ∃ t, exec (.line page data) s = .next t ∧
        t = { s with link := s.link.reported [.writeRefused p .notOpen] t.link.chosen }) ∧
    (r.state = .opened → r.writer = some .link → r.kind = some .image → r.width = some w → r.committed < 16383 →
      s.dram.state = .active → (∃ a, s.dram.current = some a) → s.dram.lingering .linkWrite = false →
      (∀ b, r.committed % 32 ≠ 0 → r.bandOfLine r.committed = some b →
        exec (.line page data) s = .next { s with
          dram := { s.dram with
            waiting := s.dram.waiting ++
              [{ lineRequest .linkWrite p r.committed w b fitted none with afterOrder := s.dram.sleepOrder }]
            autoTimer := none }
          link := { s.link with writer := some job } }) ∧
      (∀ b free, r.committed % 32 = 0 → s.store.freeList = b :: free → s.reserve ≤ free.length → r.base ≤ r.committed →
        r.chain.length = r.committed / 32 - r.base / 32 →
        exec (.line page data) s = .next { s with
          store := ({ s.store with freeList := free } : PageStore).withPage p
            { r with chain := r.chain ++ [b], filling := true }
          dram := { s.dram with
            waiting := s.dram.waiting ++
              [{ lineRequest .linkWrite p r.committed w b fitted none with afterOrder := s.dram.sleepOrder }]
            autoTimer := none }
          link := { s.link with writer := some job } }) ∧
      (r.committed % 32 = 0 → s.store.freeList.length ≤ s.reserve →
        exec (.line page data) s = .next { s with
          store := { s.store with
            poolWait := some { page := p, deadline := s.now + 2000000 * s.tables.p Param.poolWait } }
          link := { s.link with writer := some job } }))

/-- R5, R28, R145: the link writer takes a BLOCK. It is refused for an IMAGE page; its bytes go in pieces that end at the
multiples of 256; and without bytes it changes nothing. It rests on the model's choices of log entry 4. -/
def Obligations.BlockTaken : Prop :=
  ∀ (page : Byte) (data : List Byte) (s : State), s.takesData = true → s.power.state = .run → page.toNat < 32 →
    (s.page page.toNat).state = .opened → (s.page page.toNat).writer = some .link →
    let p := page.toNat
    let r := s.page p
    let n := min (256 - r.committed % 256) data.length
    (r.kind = some .image → s.link.room 1 →
      ∃ t, exec (.block page data) s = .next t ∧
        t = { s with link := s.link.reported [.writeRefused p .kind] t.link.chosen }) ∧
    (r.kind = some .block → r.committed < 4194304 → data = [] → exec (.block page data) s = .next s) ∧
    (∀ b, r.kind = some .block → r.committed + data.length ≤ 4194304 → data ≠ [] → r.committed % 8192 ≠ 0 →
      r.bandOfByte r.committed = some b → s.dram.state = .active → (∃ a, s.dram.current = some a) →
      s.dram.lingering .linkWrite = false →
      exec (.block page data) s = .next { s with
        dram := { s.dram with
          waiting := s.dram.waiting ++
            [{ pieceRequest .linkWrite p r.committed n b (data.take n) with afterOrder := s.dram.sleepOrder }]
          autoTimer := none }
        link := { s.link with writer := some { isLine := false, page := p, next := r.committed, data := data } } })

/-- R7, R13: a pool wait's deadline expires: the record is cut off, the page is closed as truncated, and PAGE_CLOSED and
POOL_WAIT_TIMEOUT are raised. It rests on the model's choices of log entry 2. -/
def Obligations.PoolWaitExpires : Prop :=
  ∀ (w : PoolWait) (s : State), s.store.poolWait = some w → w.page < 32 → (s.page w.page).mode = some .keep →
    (s.page w.page).retain = some true → (s.page w.page).filling = false → s.store.scanWaits = false →
    s.store.memoryLow = false → s.print.queue = [] → s.link.reads = [] → s.power.sleepPending = none → s.link.room 2 →
    let r := s.page w.page
    ∃ t, exec .poolWaitExpiry s = .next t ∧ t = { s with
      now := max s.now w.deadline
      store := ({ s.store with poolWait := none } : PageStore).withPage w.page
        { r with state := .closed, writer := none, truncated := true }
      dram := { s.dram with current := t.dram.current }
      link := ({ s.link with writer := none } : Link).reported
        [.pageClosed w.page r.committed true r.label, .poolWaitTimeout w.page r.label] t.link.chosen
      power := s.power.timed t.power }

/-! ### Commands: pages, queries and tables -/

/-- R142, R158, R159: every command record is answered by exactly one reply, with its TAG and KIND, at the tail of the reply
queue, which a RESTART has emptied first; and a refusal changes nothing else, in what the record's delivery does and, with no
sleep pending, in what the command does, which also looks at the standby timer's conditions (R192). It rests on the model's
choices of log entry 4. -/
def Obligations.OneReplyPerCommand : Prop :=
  ∀ (i : Instr) (kind tag : Byte) (payload : List Byte) (s : State), commandRecord i = some (kind, tag, payload) →
    recordClass kind = .command → s.takes i = true →
    ∃ (t : State) (r : Reply), exec i s = .next t ∧
      t.link.replies = (if kind = 0x1F#8 then [] else s.link.replies) ++ [r] ∧ r.tag = tag ∧ r.kind = kind ∧
      (r.code ≠ .accepted →
        s.deliver i = { s with
          link := s.link.replied tag kind r.code [] (s.deliver i).link.chosen }) ∧
      (r.code ≠ .accepted → s.power.sleepPending = none →
        t = { s with
          link := s.link.replied tag kind r.code [] t.link.chosen
          power := s.power.timed t.power })

/-- R4, R159, R167: an OPEN PAGE of a FREE page makes it OPEN for the link with its fields, an IMAGE page with its width and
resolution and a KEEP page with its retain flag; a BLOCK STREAM page has none of these and they are not checked. A page that is
not FREE is refused with PAGE_IN_USE, and a width that is no multiple of 64 with BAD_PARAMETER. It rests on the model's choices of
log entry 4. -/
def Obligations.OpenPage : Prop :=
  ∀ (tag page kind mode : Byte) (width : Half) (resolution retain : Byte) (label : Half) (s : State),
    s.takesCommand = true → page.toNat < 32 →
    let p := page.toNat
    let c := Instr.openPage tag page kind mode width resolution retain label
    (∀ res, (s.page p).state = .free → kind = 0#8 → mode = 0#8 → 512 ≤ width.toNat → width.toNat ≤ 2048 →
      width.toNat % 64 = 0 → resolutionOf resolution = some res → (retain = 0#8 ∨ retain = 1#8) →
      ∃ t, exec c s = .next t ∧ t = { s with
        store := s.store.withPage p
          { state := .opened
            kind := some .image
            mode := some .keep
            writer := some .link
            width := some width.toNat
            resolution := some res
            retain := some (retain == 1#8)
            label := label
            committed := 0
            base := 0
            chain := []
            filling := false
            printHold := 0
            linkHold := 0
            truncated := false
            repeats := 0
            consumer := none
            mark := 0 }
        link := s.link.replied tag 0x01#8 .accepted [] t.link.chosen }) ∧
    ((s.page p).state = .free → kind = 1#8 → mode = 1#8 →
      ∃ t, exec c s = .next t ∧ t = { s with
        store := s.store.withPage p
          { PageRec.freed with
            state := .opened
            kind := some .block
            mode := some .stream
            writer := some .link
            label := label }
        link := s.link.replied tag 0x01#8 .accepted [] t.link.chosen }) ∧
    ((s.page p).state ≠ .free → kind = 1#8 → mode = 1#8 →
      ∃ t, exec c s = .next t ∧ t = { s with link := s.link.replied tag 0x01#8 .pageInUse [] t.link.chosen }) ∧
    (kind = 0#8 → width.toNat % 64 ≠ 0 →
      ∃ t, exec c s = .next t ∧ t = { s with link := s.link.replied tag 0x01#8 .badParameter [] t.link.chosen })

/-- R7, R19, R22, R164, R175: a CLOSE PAGE closes an OPEN page of the link, gives back a band it never wrote, and raises
PAGE_CLOSED; a RELEASE PAGE makes a CLOSED page FREE, gives its bands to the tail of the free list and raises PAGE_RELEASED; a
page with a reader is refused with PAGE_HELD. R20, R21: a KEEP page closed with its retain flag clear, and a STREAM page closed
with all of it behind the consume mark, is released at once when no reader holds it. R12: bands that join the free list go to a
scan job that waits for one before the command ends, and its line is requested in the band granted; the order of a page's two
gifts of bands, and of the events, is the model's (log entries 13 and 20). It rests on the model's choices of log entries 4, 13
and 20. -/
def Obligations.CloseAndReleasePage : Prop :=
  ∀ (tag page : Byte) (s : State), s.takesCommand = true → page.toNat < 32 → s.power.sleepPending = none →
    let p := page.toNat
    let r := s.page p
    (s.unattended → s.link.room 1 → r.state = .opened → r.writer = some .link → r.mode = some .keep →
      r.retain = some true →
      ∃ t, exec (.closePage tag page) s = .next t ∧ t = { s with
        store := ({ s.store with
          freeList := s.store.freeList ++ (if r.filling = true then r.chain.getLast?.toList else []) } :
            PageStore).withPage p
          { r with
            state := .closed
            writer := none
            truncated := false
            filling := false
            chain := if r.filling = true then r.chain.dropLast else r.chain }
        dram := { s.dram with current := t.dram.current }
        link := (s.link.replied tag 0x02#8 .accepted [] none).reported
          [.pageClosed p r.committed false r.label] t.link.chosen
        power := s.power.timed t.power }) ∧
    (s.unattended → s.link.room 1 → r.state = .closed → r.printHold = 0 → r.linkHold = 0 →
      ∃ t, exec (.releasePage tag page) s = .next t ∧ t = { s with
        store := ({ s.store with freeList := s.store.freeList ++ r.chain } : PageStore).withPage p PageRec.freed
        dram := { s.dram with current := t.dram.current }
        link := (s.link.replied tag 0x03#8 .accepted [] none).reported [.pageReleased p r.label] t.link.chosen }) ∧
    (r.state = .closed → (0 < r.printHold ∨ 0 < r.linkHold) →
      ∃ t, exec (.releasePage tag page) s = .next t ∧
        t = { s with link := s.link.replied tag 0x03#8 .pageHeld [] t.link.chosen }) ∧
    (s.unattended → s.link.room 2 → r.state = .opened → r.writer = some .link → r.printHold = 0 → r.linkHold = 0 →
      ((r.mode = some .keep ∧ r.retain = some false) ∨ (r.mode = some .stream ∧ r.committed ≤ r.mark)) →
      ∃ t, exec (.closePage tag page) s = .next t ∧
        t = { s with
        store := ({ s.store with
          freeList := s.store.freeList ++
            (if r.filling = true then r.chain.getLast?.toList ++ r.chain.dropLast else r.chain) } : PageStore).withPage p PageRec.freed
        dram := { s.dram with current := t.dram.current }
        link := (s.link.replied tag 0x02#8 .accepted [] none).reported
          [.pageClosed p r.committed false r.label, .pageReleased p r.label] t.link.chosen
        power := s.power.timed t.power }) ∧
    ∀ (q : Nat) (w : ScanWrite) (b : Band) (rest : List Band), r.state = .closed → r.printHold = 0 → r.linkHold = 0 →
      r.chain = b :: rest → rest.length < 4 → s.store.freeList = [] → s.store.scanWaits = true →
      s.store.memoryLow = true → s.store.poolWait = none → s.link.room 1 → s.scan.job.page = some q → q < 32 → q ≠ p →
      (s.page q).state = .opened → s.scan.writes = [w] → w.requested = false → w.banded = false →
      (s.scan.slot w.slot).use = .held → (s.page q).base ≤ w.index →
      (s.page q).chain.length = w.index / 32 - (s.page q).base / 32 → s.dram.state = .active →
      (∃ x, s.dram.current = some (.refresh x)) →
      ∃ t, exec (.releasePage tag page) s = .next t ∧ t = { s with
        store := (({ s.store with freeList := rest, scanWaits := false } : PageStore).withPage p PageRec.freed).withPage q
          { s.page q with chain := (s.page q).chain ++ [b], filling := true }
        scan := { s.scan with writes := [{ w with banded := true, requested := true }] }
        dram := { s.dram with
          waiting := s.dram.waiting ++
            [{ lineRequest .scanWrite q w.index ((s.page q).width.getD 0) b (s.scan.slot w.slot).dots (some w.slot) with
                afterOrder := s.dram.sleepOrder }]
          autoTimer := none }
        link := (s.link.replied tag 0x03#8 .accepted [] none).reported [.pageReleased p r.label] t.link.chosen }

/-- R23, R170 to R172, 13.4: QUERY PAGE answers with the 27 bytes of the page's record, QUERY POOL, taken whatever the link writer
holds, with the pool's six, and QUERY STATUS with 90; none changes anything else. Each field stands at its offset with the codes
of 13.4: a code is a value's place in the list that names the values in order. It rests on the model's choices of log entries 2
and 4. -/
def Obligations.QueriesReport : Prop :=
  let byte (n : Nat) : List Byte := [BitVec.ofNat 8 n]
  let two (n : Nat) : List Byte := [BitVec.ofNat 8 (n / 256), BitVec.ofNat 8 n]
  let three (n : Nat) : List Byte := [BitVec.ofNat 8 (n / 65536), BitVec.ofNat 8 (n / 256), BitVec.ofNat 8 n]
  let flag (b : Bool) : List Byte := if b = true then [1#8] else [0#8]
  (∀ (tag page : Byte) (s : State),
    (s.takesCommand = true → page.toNat < 32 →
      ∃ t, exec (.queryPage tag page) s = .next t ∧
        t = { s with link := s.link.replied tag 0x04#8 .accepted (s.page page.toNat).report t.link.chosen } ∧
        (s.page page.toNat).report.length = 27) ∧
    (s.takesCommand = true → 32 ≤ page.toNat →
      ∃ t, exec (.queryPage tag page) s = .next t ∧
        t = { s with link := s.link.replied tag 0x04#8 .badParameter [] t.link.chosen }) ∧
    (s.takesQuery = true →
      ∃ t, exec (.queryPool tag) s = .next t ∧ t = { s with
        link := s.link.replied tag 0x05#8 .accepted
          (twoBytes s.store.poolSize ++ twoBytes s.store.freeList.length ++
            [if s.scan.job.state = .idle then 0#8 else 2#8, if s.store.poolWait = none then 0#8 else 1#8])
          t.link.chosen }) ∧
    (s.takesQuery = true →
      ∃ t, exec (.queryStatus tag) s = .next t ∧
        t = { s with link := s.link.replied tag 0x1E#8 .accepted s.statusReport t.link.chosen } ∧
        s.statusReport.length = 90)) ∧
  (∀ r : PageRec,
    let holds (o : Nat) (bytes : List Byte) : Prop := (r.report.drop o).take bytes.length = bytes
    r.report.length = 27 ∧ holds 0 (byte ([PageState.free, .opened, .closed].idxOf r.state)) ∧
      holds 1 (byte ([PageKind.image, .block].idxOf (r.kind.getD .image))) ∧
      holds 2 (byte ([PageMode.keep, .stream].idxOf (r.mode.getD .keep))) ∧
      holds 3 (byte ([none, some Writer.scan, some .link].idxOf r.writer)) ∧ holds 4 (two (r.width.getD 0)) ∧
      holds 6 (byte ([Resolution.std, .fine, .sfine].idxOf (r.resolution.getD .std))) ∧ holds 7 (flag (r.retain.getD false)) ∧
      holds 8 (two r.label.toNat) ∧ holds 10 (three r.committed) ∧ holds 13 (three r.base) ∧ holds 16 (two r.chain.length) ∧
      holds 18 (flag r.filling) ∧ holds 19 (byte r.printHold) ∧ holds 20 (byte r.linkHold) ∧ holds 21 (flag r.truncated) ∧
      holds 22 (byte r.repeats) ∧ holds 23 (byte ([none, some Reader.print, some .link].idxOf r.consumer)) ∧
      holds 24 (three r.mark)) ∧
  ∀ s : State,
    let holds (o : Nat) (bytes : List Byte) : Prop := (s.statusReport.drop o).take bytes.length = bytes
    let j := s.scan.job
    let c := s.print.copy
    s.statusReport.length = 90 ∧
      (holds 0 (byte ([PowerState.boot, .run, .standby, .enteringSleep, .sleep, .waking].idxOf s.power.state)) ∧
        holds 1 (flag s.power.sleepPending.isSome) ∧
        (s.power.sleepPending = none → holds 2 (two 0)) ∧
        (∀ d, s.power.sleepPending = some d → holds 2 (two ((d - s.now + 1999999) / 2000000))) ∧
        (s.power.lastBoot = none → holds 4 [0#8, 0#8]) ∧
        (∀ o n, s.power.lastBoot = some (o, n) →
          holds 4 (byte ([BootOutcome.ok, .noSource, .noDevice, .sum, .format].idxOf o) ++ byte n)) ∧
        holds 6 (flag s.print.hpwr) ∧ holds 7 (flag (decide (s.motS.state ≠ .off ∨ s.motP.state ≠ .off))) ∧
        holds 8 (two s.store.freeList.length) ∧
        holds 10 (byte ([DramState.init, .active, .srEntry, .selfRefresh, .srExit].idxOf s.dram.state)) ∧
        holds 11 (byte ([none, some SrCause.auto, some .sleep].idxOf s.dram.cause)) ∧ holds 12 (byte s.dram.debt)) ∧
      (holds 13 (byte ([ScanState.idle, .starting, .feedIn, .offset, .capture, .stalled, .tail, .eject].idxOf j.state)) ∧
        holds 14 (flag s.scan.calibration.isSome) ∧ holds 15 (byte (j.page.getD 0)) ∧ holds 16 (two j.nextLine) ∧
        holds 18 (byte ([s.scan.slotA.use, s.scan.slotB.use].countP (· ≠ .free))) ∧
        holds 19 (byte ([CopyState.idle, .starting, .lead, .printing, .paused, .trail, .cut, .suspended].idxOf c.state)) ∧
        (c.pause = none ∨ c.suspend = none →
          holds 20 (byte
            ([(none, none), (some PauseReason.data, none), (some .heat, none), (none, some SuspendReason.paper),
              (none, some .cover)].idxOf (c.pause, c.suspend)))) ∧
        holds 21 (byte s.print.queue.length) ∧ (s.print.queue = [] → holds 22 (List.replicate 5 0#8)) ∧
        ∀ e es, s.print.queue = e :: es → holds 22 (byte e.page ++ byte e.copies ++ byte e.done ++ two e.cursor)) ∧
      (∀ m : Motor,
        let ch := s.mot m
        holds (if m = .s then 27 else 34)
          (byte ([ChanState.off, .settle, .hold, .accel, .run, .decel].idxOf ch.state) ++
            byte ([Owner.nobody, .scan, .print, .feed].idxOf ch.owner) ++ byte ch.index ++ byte ch.position ++
            two (ch.remaining.getD 0) ++ byte ch.phase)) ∧
      (∀ n < 8,
        let ch := s.mon.channel n
        holds (41 + 4 * n)
          (byte ch.value ++ flag ch.valid ++ byte ([none, some Level.low, some .normal, some .high].idxOf ch.band) ++
            flag ch.saturated)) ∧
      (∀ b, s.statusReport[73]? = some b → ∀ n < 8, b.getLsbD n = decide (n < 6 ∧ (s.mon.input n).level = some true)) ∧
      holds 74 (byte ([ParserState.hunt, .header, .payload, .held].idxOf s.link.parser.state)) ∧
      holds 75 (two s.link.down.length) ∧ holds 77 (two s.link.up.length) ∧ holds 79 (byte (s.link.replies.length + 1)) ∧
      holds 80 (byte (s.link.events.length + if s.link.overflow = none then 0 else 1)) ∧
      holds 81 (byte s.link.reads.length) ∧
      holds 82 (if s.link.writer = none then [0#8] else if s.store.poolWait = none then [1#8] else [2#8]) ∧
      (s.link.reads = [] → holds 83 (List.replicate 7 0#8)) ∧
      ∀ e es, s.link.reads = e :: es → holds 83 (byte e.page ++ three e.cursor ++ three e.placed)

/-- R169: QUERY MEMORY answers with the row hit, row miss, eviction and refresh overrun counts as they stand, and sets all four to
0 at that instant, so that a second one taken with nothing counted in between returns four zeros. A RESTART, a warm reset, does
not clear them. It rests on the model's choices of log entry 4. -/
def Obligations.QueryMemory : Prop :=
  ∀ (tag : Byte) (s : State), s.takesCommand = true →
    (∃ t, exec (.queryMemory tag) s = .next t ∧ t = { s with
      dram := { s.dram with hits := 0, misses := 0, evictions := 0, overruns := 0 }
      link := s.link.replied tag 0x20#8 .accepted
        (twoBytes s.dram.hits ++ twoBytes s.dram.misses ++ twoBytes s.dram.evictions ++ twoBytes s.dram.overruns)
        t.link.chosen } ∧
      ∀ (tag' : Byte) (u : State), t.takesCommand = true → exec (.queryMemory tag') t = .next u →
        u.link.replies = t.link.replies ++
          [{ tag := tag', kind := 0x20#8, code := .accepted, data := List.replicate 8 0#8 }]) ∧
    (s.dram.ok → ∀ n ∈ [s.dram.hits, s.dram.misses, s.dram.evictions, s.dram.overruns],
      n ≤ 65535 ∧ (BitVec.ofNat 16 n).toNat = n) ∧
    ∃ t, exec (.restart tag) s = .next t ∧ t.dram.hits = s.dram.hits ∧ t.dram.misses = s.dram.misses ∧
      t.dram.evictions = s.dram.evictions ∧ t.dram.overruns = s.dram.overruns

/-- R166, R174, R183, R186: an accepted LOAD TABLE writes its entries and answers with how many it wrote and how many differ from
what was sent; one whose entries are in use is refused with TABLE_BUSY; one beyond the table with BAD_PARAMETER. A READ TABLE
answers with the entries it names. R8, R37: a load that changes BANKS builds the pool again, loses what stood beyond the banks,
and changes the controller at once when it is ACTIVE and idle, and is held otherwise, to be applied before its next decision (the
order there is log entry 16's, what the lost bytes read as log entry 6's). R107: a load that changes a phase table drives the
coils of its channel when it is in HOLD: a gap that runs keeps its end for the coils still wanted, as R185 has it, and the coils
newly wanted wait for a gap of their own (log entry 35); one of a channel that is OFF drives nothing. The conditions under which
each entry may be loaded are those of R187. It rests on the model's choices of log entries 2, 4, 6, 16 and 35. -/
def Obligations.LoadAndReadTable : Prop :=
  ∀ (tag table : Byte) (start count : Half) (entries : List Byte) (s : State), s.takesCommand = true →
    let id := table.toNat
    let vals := loadValues id entries
    let loaded := s.tables.load id start.toNat vals
    (∀ n, tableEntries id = some n → vals ≠ [] → start.toNat + vals.length ≤ n →
      s.loadable id start.toNat vals.length = true → loaded.p Param.banks = s.tables.p Param.banks →
      loaded.phaseS = s.tables.phaseS → loaded.phaseP = s.tables.phaseP →
      ∃ t, exec (.loadTable tag table start entries) s = .next t ∧ t = { s with
        tables := loaded
        link := s.link.replied tag 0x18#8 .accepted
          (twoBytes vals.length ++ twoBytes (clampedCount s.tables id start.toNat vals)) t.link.chosen }) ∧
    (∀ n, tableEntries id = some n → vals ≠ [] → start.toNat + vals.length ≤ n →
      s.loadable id start.toNat vals.length = false →
      ∃ t, exec (.loadTable tag table start entries) s = .next t ∧
        t = { s with link := s.link.replied tag 0x18#8 .tableBusy [] t.link.chosen }) ∧
    (∀ n, tableEntries id = some n → n < start.toNat + vals.length →
      ∃ t, exec (.loadTable tag table start entries) s = .next t ∧
        t = { s with link := s.link.replied tag 0x18#8 .badParameter [] t.link.chosen }) ∧
    (∀ n w, tableEntries id = some n → tableWidth id = some w → 0 < count.toNat → start.toNat + count.toNat ≤ n →
      w * count.toNat ≤ 1016 →
      ∃ t, exec (.readTable tag table start count) s = .next t ∧ t = { s with
        link := s.link.replied tag 0x19#8 .accepted
          ([table] ++ halfBytes start ++ halfBytes count ++
            readEntries s.tables id w start.toNat count.toNat) t.link.chosen }) ∧
    (∀ n, tableEntries id = some n → vals ≠ [] → start.toNat + vals.length ≤ n →
      s.loadable id start.toNat vals.length = true → loaded.p Param.banks ≠ s.tables.p Param.banks →
      let b := loaded.p Param.banks
      ∃ t, exec (.loadTable tag table start entries) s = .next t ∧ t = { s with
        tables := loaded
        mem := s.mem.filter fun cell => cell.1 < 1048576 * b
        store :=
          if s.store.poolSize = 0 then s.store
          else { s.store with poolSize := 128 * b, freeList := (List.finRange 512).take (128 * b) }
        dram :=
          if s.dram.state = .active ∧ s.dram.current = none then
            { s.dram with banks := b, heldBanks := none, rowHold := [] }
          else { s.dram with heldBanks := some b }
        link := s.link.replied tag 0x18#8 .accepted
          (twoBytes vals.length ++ twoBytes (clampedCount s.tables id start.toNat vals)) t.link.chosen }) ∧
    (∀ m : Motor, id = (if m = .s then 6 else 7) → vals ≠ [] → start.toNat + vals.length ≤ 8 → (s.mot m).atRest = true →
      ((s.mot m).state = .hold → (∃ i < 8, loaded.get id i ≠ s.tables.get id i)) →
      let ch := s.mot m
      let pattern : BitVec 4 := BitVec.ofNat 4 (loaded.get id ch.phase)
      let waiting := ch.gaps.foldl (fun w g => w ||| g.coils) 0#4
      let newly := pattern &&& ~~~(ch.coils ||| waiting)
      let kept := (ch.gaps.map fun g => { g with coils := g.coils &&& pattern }).filter fun g => g.coils ≠ 0#4
      let gap := s.tables.p (if m = .s then Param.nonoverlapS else Param.nonoverlapP)
      let driven : Channel :=
        if ch.state ≠ .hold then ch
        else if gap = 0 ∨ newly = 0#4 then { ch with coils := (ch.coils &&& pattern) ||| newly, gaps := kept }
        else
          { ch with
            coils := ch.coils &&& pattern
            gaps := insertGap { coils := newly, endsAt := s.now + 20 * gap } kept }
      ∃ t, exec (.loadTable tag table start entries) s = .next t ∧ t = { s with
        tables := loaded
        motS := if m = .s then driven else s.motS
        motP := if m = .p then driven else s.motP
        link := s.link.replied tag 0x18#8 .accepted
          (twoBytes vals.length ++ twoBytes (clampedCount s.tables id start.toNat vals)) t.link.chosen }) ∧
    ∀ n : Nat,
      (s.loadable 0 start.toNat n = true ↔ ∀ i, start.toNat ≤ i → i < start.toNat + n →
        (i = 0 → (∀ p < 32, (s.page p).state = .free) ∧ s.noJob = true) ∧
          (i = 1 ∨ 3 ≤ i ∧ i ≤ 14 → s.scan.isIdle = true) ∧ (i = 2 ∨ 15 ≤ i ∧ i ≤ 17 → s.print.isIdle = true) ∧
          (i ∈ [25, 27, 29, 31, 33, 34, 35, 39] → s.motS.atRest = true) ∧
          (i ∈ [26, 28, 30, 32, 36, 37, 38, 39] → s.motP.atRest = true)) ∧
        (0 < n → (s.loadable 1 start.toNat n = true ↔ s.scan.isIdle = true) ∧
          (s.loadable 2 start.toNat n = true ↔ s.scan.isIdle = true) ∧
          (∀ k ∈ [4, 6], s.loadable k start.toNat n = true ↔ s.motS.atRest = true) ∧
          (∀ k ∈ [5, 7], s.loadable k start.toNat n = true ↔ s.motP.atRest = true) ∧
          ∀ k ∈ [3, 8], s.loadable k start.toNat n = true)

/-- R183, R184: an accepted record puts each of its values, clamped, in its entry, and leaves every other entry of every table as
it was; only SENSOR_TOTAL may be raised besides, by a PARAM record, to SENSOR_LEAD + SCAN_WIDTH. R184, R187: the clamp of each
entry, with the low and the high end of its range. -/
def Obligations.LoadWritesClampedEntries : Prop :=
  ∀ (id start n : Nat) (vals : List Nat) (t : Tables), tableEntries id = some n → start + vals.length ≤ n →
    let u := t.load id start vals
    (∀ k, k < vals.length → (id ≠ 0 ∨ start + k ≠ Param.sensorTotal) →
      u.get id (start + k) = clampEntry id (start + k) (vals[k]?.getD 0)) ∧
    (∀ id' i, (id' ≠ id ∨ i < start ∨ start + vals.length ≤ i) → (id' ≠ 0 ∨ i ≠ Param.sensorTotal) →
      u.get id' i = t.get id' i) ∧
    (id = 0 → u.p Param.sensorTotal = max ((t.putAll id start vals).p Param.sensorTotal)
      (u.p Param.sensorLead + u.p Param.scanWidth)) ∧
    (id ≠ 0 → u.p Param.sensorTotal = t.p Param.sensorTotal) ∧
    ∀ i v : Nat,
      (∀ lo hi : Nat,
        (i, lo, hi) ∈
          [(0, 1, 4), (3, 0, 2), (4, 600, 4095), (5, 0, 255), (6, 1, 16), (7, 0, 255), (8, 0, 255), (9, 0, 4095),
            (10, 1, 4095), (11, 256, 16383), (12, 0, 1), (13, 0, 255), (14, 1, 255), (15, 0, 4095), (16, 0, 4095),
            (17, 0, 255), (18, 1, 64), (19, 64, 2048), (20, 0, 255), (21, 50, 4000), (22, 50, 4000), (23, 0, 255),
            (24, 0, 255), (25, 0, 1), (26, 0, 1), (27, 0, 255), (28, 0, 255), (29, 0, 255), (30, 0, 255), (31, 0, 255),
            (32, 0, 255), (33, 0, 47), (34, 0, 47), (35, 0, 47), (36, 0, 47), (37, 0, 47), (38, 0, 47), (39, 0, 47),
            (40, 4, 63), (41, 100, 1000), (42, 0, 255), (43, 0, 255), (44, 0, 255), (45, 1, 60), (46, 0, 255),
            (47, 1, 255), (48, 1, 255), (49, 1, 15), (50, 0, 255)] →
        clampEntry 0 i v = if v < lo then lo else if hi < v then hi else v) ∧
      clampEntry 0 1 v = (if v < 512 then 512 else if 2048 < v then 2048 else v - v % 64) ∧
      clampEntry 0 2 v = (if v ≤ 1888 then 1728 else 2048) ∧
      (∀ b, (clampEntry 0 51 v).testBit b = (v.testBit b && (decide (b < 6) || decide (8 ≤ b ∧ b < 14)))) ∧
      clampEntry 1 i v = v ∧ clampEntry 2 i v = v ∧ clampEntry 3 i v = (if 4000 < v then 4000 else v) ∧
      (∀ k ∈ [4, 5],
        clampEntry k 0 v = (if v < 1 then 1 else if 48 < v then 48 else v) ∧
          (i ≠ 0 → clampEntry k i v = if v < 100 then 100 else if 65535 < v then 65535 else v)) ∧
      (∀ k ∈ [6, 7], clampEntry k i v = if 15 < v then 15 else v) ∧
      clampEntry 8 i v = (if i % 5 = 0 ∨ i % 5 = 4 then (if 1 < v then 1 else v) else v)

/-! ### Scanning -/

/-- R4, R47 to R49, R178: an accepted SENSOR SCAN in RUN opens its page for the scan writer at SCAN_WIDTH, switches the lamp on
and asks channel S for an open move at the resolution's S; in STANDBY it returns the part to RUN, where an auto self-refresh entry
that waits for the end of a refresh is dropped (log entry 40), and waits POWER_SETTLE first, and the end of that wait begins the
same. Without a document it is refused with NO_MEDIA. It rests on the model's choices of log entries 2, 4, 11, 20 and 40. -/
def Obligations.ScanStarts : Prop :=
  ∀ (tag page resolution mode retain : Byte) (label : Half) (source pattern : Byte) (lineCount : Half) (f : ScanFields)
    (s : State),
    scanFields (s.tables.p Param.maxDocLines) page resolution mode retain label source pattern lineCount = some f →
    f.source = .sensor → s.power.sleepPending = none → s.motS.atRest = true →
    let c := Instr.scan tag page resolution mode retain label source pattern lineCount
    let floor := s.tables.scanFloor f.res.scanSteps
    let job : ScanJob :=
      { ScanJob.idle with
        page := some f.page
        source := some .sensor
        resolution := some f.res
        steps := f.res.scanSteps
        floor := floor }
    let record : PageRec :=
      { PageRec.freed with
        state := .opened
        kind := some .image
        mode := some f.mode
        writer := some .scan
        width := some (s.tables.p Param.scanWidth)
        resolution := some f.res
        retain := if f.mode = .keep then some f.retain else none
        label := f.label }
    let moves (n : Nat) (t : State) : Prop :=
      t.motS = s.motS.take s.tables .s n 0
        { owner := .scan
          ask := .open_
          steps := f.res.scanSteps
          cruise := s.tables.p f.res.cruiseS
          floor := floor }
    (s.takesCommand = true → s.power.state = .run → s.scan.isIdle = true → f.page < 32 →
      (s.page f.page).state = .free → s.active Input.docIn = true → s.active Input.coverOpen = false →
      ∃ t, exec c s = .next t ∧ moves s.now t ∧ t = { s with
        store := s.store.withPage f.page record
        scan := { s.scan with lamp := true, job := { job with state := .feedIn } }
        motS := t.motS
        mon := { s.mon with inputs := t.mon.inputs }
        link := s.link.replied tag 0x08#8 .accepted [] t.link.chosen
        power := s.power.timed t.power }) ∧
    (s.takesCommand = true → s.power.state = .standby → s.scan.isIdle = true → f.page < 32 →
      (s.page f.page).state = .free → s.active Input.docIn = true → s.active Input.coverOpen = false →
      s.mon.transaction.isSome = true → s.dram.state = .active → s.link.room 1 →
      ∃ t, exec c s = .next t ∧ t = { s with
        store := s.store.withPage f.page record
        dram := { s.dram with autoTimer := none, autoDue := false }
        scan := { s.scan with
          job := { job with
            state := .starting
            startEnds := some (s.now + 20000 * s.tables.p Param.powerSettle) } }
        mon := { s.mon with
          roundQueued := true
          lastRound := some { start := s.now, period := s.tables.p Param.sensorPeriod }
          nextRound := some (s.now + 20000 * s.tables.p Param.sensorPeriod) }
        link := (s.link.replied tag 0x08#8 .accepted [] none).reported [.runEntered] t.link.chosen
        power := ({ s.power with state := .run, sleepTimer := none } : Power).timed t.power }) ∧
    (∀ d, s.scan.job = { job with state := .starting, startEnds := some d } →
      ∃ t, exec .scanStartingEnd s = .next t ∧ moves (max s.now d) t ∧ t = { s with
        now := max s.now d
        scan := { s.scan with lamp := true, job := { job with state := .feedIn } }
        motS := t.motS
        mon := { s.mon with inputs := t.mon.inputs } }) ∧
    (s.takesCommand = true → s.power.state = .run → s.scan.isIdle = true → (s.page f.page).state = .free →
      s.active Input.docIn = false →
      ∃ t, exec c s = .next t ∧ t = { s with
        link := s.link.replied tag 0x08#8 .noMedia [] t.link.chosen
        power := s.power.timed t.power })

/-- R67, R68, R163: a CANCEL SCAN before the document's edge ends the job at once: the lamp goes off, the page is closed as
truncated, PAGE_CLOSED and SCAN_ABORTED are raised, and channel S is asked to stop. With no job it is refused with WRONG_STATE. It
rests on the model's choices of log entry 4. -/
def Obligations.CancelScan : Prop :=
  ∀ (tag : Byte) (s : State), s.takesCommand = true → s.power.sleepPending = none →
    (∀ p, s.scan.job.state = .feedIn → s.scan.job.page = some p → s.scan.job.pageClosed = false → p < 32 →
      s.scan.writes = [] → s.scan.readouts = [] → s.scan.slotA.use = .free → s.scan.slotB.use = .free →
      s.dram.ending .scanWrite = none → (∀ r ∈ s.dram.waiting, r.cls ≠ .scanWrite) →
      s.motS.state = .run → s.motS.owner = .scan → s.motS.held = none → s.motS.stop = .nostop →
      s.unattended → s.link.room 2 → (s.page p).mode = some .keep → (s.page p).retain = some true →
      (s.page p).filling = false →
      ∃ t, exec (.cancelScan tag) s = .next t ∧ t = { s with
        store := s.store.withPage p { s.page p with state := .closed, writer := none, truncated := true }
        dram := { s.dram with current := t.dram.current }
        scan := { s.scan with job := ScanJob.idle, lamp := false }
        motS := { s.motS with stop := .pending }
        link := (s.link.replied tag 0x09#8 .accepted [] none).reported
          [.pageClosed p (s.page p).committed true (s.page p).label, .scanAborted p .cancel] t.link.chosen
        power := s.power.timed t.power }) ∧
    (s.scan.job.state = .idle →
      ∃ t, exec (.cancelScan tag) s = .next t ∧ t = { s with
        link := s.link.replied tag 0x09#8 .wrongState [] t.link.chosen
        power := s.power.timed t.power })

/-- R65, R179: a SHADE in RUN switches the lamp on and begins the first of eight readouts; one in STANDBY returns the part to RUN,
where a self-refresh entry that waits for the end of a refresh is dropped (log entry 40) and a round asked for during another
follows it (log entry 11), and waits POWER_SETTLE, whose end begins the first readout in the same way. That a first readout begins
at once although an aborted job's discarded one still runs is no rule's, it is the model's choice (log entry 34). Each readout
begins with a start pulse of SYNC_WIDTH clocks (R55) and adds its samples after SENSOR_LEAD to the sums; and the eighth writes
every gain of SCAN_WIDTH pixels at once, min(255, floor((SHADE_TARGET × 64 + floor(avg / 2)) / avg)), or 255 for an average of 0,
switches the lamp off and raises SHADE_DONE. With the unit not idle or a document present SHADE is refused with WRONG_STATE, and
with the cover open with COVER_OPEN. It rests on the model's choices of log entries 2, 4, 7, 11, 20, 34 and 40. -/
def Obligations.CalibrationRuns : Prop :=
  ∀ (tag : Byte) (s : State), s.power.sleepPending = none →
    let pulse (at_ : Nat) := some (at_ + 10 * (s.tables.p Param.syncWidth * 2 ^ s.tables.p Param.pixelPeriod))
    let reading (at_ : Nat) : Calibration :=
      { settleEnds := none
        readoutEnds := some (at_ + s.tables.readoutTime)
        readouts := 0
        sums := List.replicate (s.tables.p Param.scanWidth) 0 }
    (s.takesCommand = true → s.power.state = .run → s.scan.isIdle = true → s.active Input.docIn = false →
      s.active Input.coverOpen = false →
      ∃ t, exec (.shade tag) s = .next t ∧ t = { s with
        scan := { s.scan with lamp := true, syncEnds := pulse s.now, calibration := some (reading s.now) }
        link := s.link.replied tag 0x0A#8 .accepted [] t.link.chosen
        power := s.power.timed t.power }) ∧
    (s.takesCommand = true → s.power.state = .standby → s.scan.isIdle = true → s.active Input.docIn = false →
      s.active Input.coverOpen = false → s.mon.transaction.isSome = true → s.dram.state = .active → s.link.room 1 →
      ∃ t, exec (.shade tag) s = .next t ∧ t = { s with
        dram := { s.dram with autoTimer := none, autoDue := false }
        scan := { s.scan with
          calibration := some
            { settleEnds := some (s.now + 20000 * s.tables.p Param.powerSettle)
              readoutEnds := none
              readouts := 0
              sums := [] } }
        mon := { s.mon with
          roundQueued := true
          lastRound := some { start := s.now, period := s.tables.p Param.sensorPeriod }
          nextRound := some (s.now + 20000 * s.tables.p Param.sensorPeriod) }
        link := (s.link.replied tag 0x0A#8 .accepted [] none).reported [.runEntered] t.link.chosen
        power := ({ s.power with state := .run, sleepTimer := none } : Power).timed t.power }) ∧
    (s.takesCommand = true → (s.power.state = .run ∨ s.power.state = .standby) →
      (s.scan.isIdle = false ∨ s.active Input.docIn = true) →
      ∃ t, exec (.shade tag) s = .next t ∧ t = { s with
        link := s.link.replied tag 0x0A#8 .wrongState [] t.link.chosen
        power := s.power.timed t.power }) ∧
    (s.takesCommand = true → (s.power.state = .run ∨ s.power.state = .standby) → s.scan.isIdle = true →
      s.active Input.docIn = false → s.active Input.coverOpen = true →
      ∃ t, exec (.shade tag) s = .next t ∧ t = { s with
        link := s.link.replied tag 0x0A#8 .coverOpen [] t.link.chosen
        power := s.power.timed t.power }) ∧
    (∀ (c : Calibration) (d : Nat), s.scan.calibration = some c → c.settleEnds = some d →
      exec .calibrationSettleEnd s = .next { s with
        now := max s.now d
        scan := { s.scan with
          lamp := true
          syncEnds := pulse (max s.now d)
          calibration := some (reading (max s.now d)) } }) ∧
    ∀ (c : Calibration) (d : Nat) (samples : List Byte), s.scan.calibration = some c → c.readoutEnds = some d →
      let sample (j : Nat) : Nat := ((samples[s.tables.p Param.sensorLead + j]?).map (·.toNat)).getD 0
      let sums := c.sums.mapIdx fun j x => x + sample j
      let gain (x : Nat) : Nat :=
        if x / 8 = 0 then 255 else min 255 ((s.tables.p Param.shadeTarget * 64 + x / 8 / 2) / (x / 8))
      (c.readouts < 7 →
        ∃ t, exec (.calibrationReadoutEnd samples) s = .next t ∧ t = { s with
          now := max s.now d
          scan := { s.scan with
            syncEnds := pulse (max s.now d)
            calibration := some
              { settleEnds := none
                readoutEnds := some (max s.now d + s.tables.readoutTime)
                readouts := c.readouts + 1
                sums := sums } }
          power := s.power.timed t.power }) ∧
      (c.readouts = 7 → s.link.room 1 →
        ∃ t, exec (.calibrationReadoutEnd samples) s = .next t ∧ t = { s with
          now := max s.now d
          tables := s.tables.putAll 1 0 (sums.map gain)
          scan := { s.scan with lamp := false, calibration := none }
          link := s.link.reported
            [.shadeDone ((sums.map gain).foldl min 255) ((sums.map gain).foldl max 0)] t.link.chosen
          power := s.power.timed t.power })

/-- R51, R55, R59: in CAPTURE a step event at a line boundary, with no change of the document's edge, starts the readout of the
next line into a free slot; and a readout's end makes its line stand in its slot, joins the list of writes, and requests its write
in a band already begun. R55: the sensor start pulse is asserted in the first SYNC_WIDTH clocks of a readout, and at no other
time. The step events of the rest of a scan: R49 the lead edge after two samples and FEED_FAILURE at FEED_LIMIT, R50 the count of
EDGE_OFFSET and the alignment, R60 a line repeated when both slots are taken, R52 the trail edge and the count of TRAIL_OFFSET,
R53 EJECT entered with lines still to write or with the page closed at once, and SCAN_DONE at rest. A step event raises DOC_EDGE's
INPUT_CHANGE before its owner's events (log entry 20), of which there is none here, where the input's level stands. It rests on
the model's choices of log entries 2, 9, 13 and 20. -/
def Obligations.LinesAreCaptured : Prop :=
  (∀ s : State, s.scan.job.state = .capture → s.scan.job.source = some .sensor → s.power.sleepPending = none →
    (∀ (iv : Interval) (pin : Bool), s.motS.state = .run → s.motS.owner = .scan → s.motS.move = some .open_ →
      s.motS.stop = .nostop → s.motS.remaining = none → s.motS.interval = some iv →
      s.scan.job.edgeLevel = !pin → (s.mon.input Input.docEdge).level = some (!pin) →
      s.scan.slotA.use = .free → s.scan.job.nextLine < s.tables.p Param.maxDocLines →
      (s.motS.position + 1) % s.motS.steps = 0 →
      ∃ t, exec (.stepEvent .s pin) s = .next t ∧ t.now = max s.now iv.endsAt ∧ t.motS.position = 0 ∧
        t.scan.readouts = s.scan.readouts ++
          [{ slot := some .a, index := s.scan.job.nextLine, live := true,
             endsAt := max s.now iv.endsAt + s.tables.readoutTime }] ∧
        t.scan.syncEnds = some (max s.now iv.endsAt + 10 * (s.tables.p Param.syncWidth * 2 ^ s.tables.p Param.pixelPeriod)) ∧
        t.scan.job.nextLine = s.scan.job.nextLine + 1 ∧ t.scan.slotA.use = .filling ∧ t.scan.lastSlot = some .a ∧
        t.mem = s.mem ∧ t.store = s.store ∧ t.tables = s.tables ∧ t.dram = s.dram ∧ t.print = s.print ∧
        t.link = s.link ∧ t.motP = s.motP ∧ t.scan.slotB = s.scan.slotB ∧ t.scan.writes = s.scan.writes) ∧
    (∀ (r : Readout) (p : Nat) (w : Nat) (b : Band) (samples : List Byte), s.scan.readouts = [r] → r.live = true →
      r.slot = some .a → s.scan.writes = [] → s.scan.job.page = some p → p < 32 → (s.page p).width = some w →
      r.index % 32 ≠ 0 → (s.page p).bandOfLine r.index = some b → s.store.scanWaits = false →
      s.dram.state = .active → (∃ a, s.dram.current = some a) →
      let dots := s.tables.line s.scan.job.pattern samples r.index
      ∃ t, exec (.readoutEnd samples) s = .next t ∧ t = { s with
        now := max s.now r.endsAt
        dram := { s.dram with
          waiting := s.dram.waiting ++
            [{ lineRequest .scanWrite p r.index w b dots (some .a) with afterOrder := s.dram.sleepOrder }]
          autoTimer := none }
        scan := { s.scan with
          readouts := []
          slotA := { use := .held, dots := dots }
          writes := [{ index := r.index, slot := .a, banded := false, requested := true }] }
        power := s.power.timed t.power })) ∧
  (∀ s : State,
    let clocks := s.scan.readouts ≠ [] ∨ ∃ c d, s.scan.calibration = some c ∧ c.readoutEnds = some d
    (∀ e, s.scan.syncEnds = some e → (s.startPulse = true ↔ clocks ∧ s.now < e)) ∧
      (s.scan.syncEnds = none → s.startPulse = false) ∧ (¬ clocks → s.startPulse = false)) ∧
  ∀ (iv : Interval) (pin : Bool) (p : Nat) (s : State), s.power.sleepPending = none → s.motS.moving = true →
    s.motS.owner = .scan → s.motS.interval = some iv → s.motS.held = none → s.motS.stop = .nostop →
    (s.mon.input Input.docEdge).level = some (!pin) → s.scan.job.page = some p → p < 32 → s.scan.job.source = some .sensor →
    let j := s.scan.job
    let r := s.page p
    let at_ := max s.now iv.endsAt
    let counted := { j with stepCount := min 65535 (j.stepCount + 1) }
    let position := (s.motS.position + 1) % s.motS.steps
    let onward (position index : Nat) (state : ChanState) : Channel :=
      { s.motS.advance s.tables .s at_ with
        position := position
        index := index
        state := state
        interval := some
          { length := max (s.tables.rampAt .s index) s.motS.floor
            endsAt := at_ + 20 * max (s.tables.rampAt .s index) s.motS.floor } }
    let running (position : Nat) : Channel :=
      if s.motS.index < s.motS.cruise then onward position (s.motS.index + 1) .accel
      else onward position s.motS.index .run
    let eject := (max (s.tables.p Param.ejectSteps) (position + s.motS.index) + j.steps - 1) / j.steps * j.steps
    let left := eject - position
    let ejecting : Channel :=
      let c : Channel :=
        if left ≤ s.motS.index then onward position (s.motS.index - 1) .decel
        else if s.motS.index + 2 ≤ left ∧ s.motS.index < s.motS.cruise then onward position (s.motS.index + 1) .accel
        else onward position s.motS.index .run
      { c with move := some .counted, remaining := some left }
    let lineZero : Readout :=
      { slot := some .a, index := j.nextLine, live := true, endsAt := at_ + s.tables.readoutTime }
    let pulse := some (at_ + 10 * (s.tables.p Param.syncWidth * 2 ^ s.tables.p Param.pixelPeriod))
    (s.motS.move = some .open_ → s.motS.remaining = none →
      (j.state = .feedIn → j.edgeLevel = pin → j.edgeSamples = 1 → 0 < s.tables.p Param.edgeOffset → s.link.room 2 →
        ∃ t, exec (.stepEvent .s pin) s = .next t ∧ t = { s with
          now := at_
          motS := running position
          scan := { s.scan with
            job := { counted with
              state := .offset
              edgeLevel := !pin
              edgeSamples := 0
              stepsLeft := s.tables.p Param.edgeOffset } }
          mon := { s.mon with inputs := t.mon.inputs }
          link :=
            if (s.mon.channel 2).band = some .low then s.link.reported [.scanEdge p, .lampLow p] t.link.chosen
            else s.link.reported [.scanEdge p] t.link.chosen
          power := s.power.timed t.power }) ∧
      (j.state = .feedIn → j.edgeLevel = !pin → counted.stepCount < s.tables.p Param.feedLimit →
        ∃ t, exec (.stepEvent .s pin) s = .next t ∧ t = { s with
          now := at_
          motS := running position
          scan := { s.scan with job := { counted with edgeSamples := 0 } }
          mon := { s.mon with inputs := t.mon.inputs }
          power := s.power.timed t.power }) ∧
      (j.state = .feedIn → j.edgeLevel = !pin → s.tables.p Param.feedLimit ≤ counted.stepCount →
        j.pageClosed = false → s.scan.writes = [] → s.scan.readouts = [] → s.scan.slotA.use = .free →
        s.scan.slotB.use = .free → s.dram.ending .scanWrite = none → (∀ q ∈ s.dram.waiting, q.cls ≠ .scanWrite) →
        s.unattended → s.link.room 2 → r.mode = some .keep → r.retain = some true → r.filling = false →
        ∃ t, exec (.stepEvent .s pin) s = .next t ∧ t = { s with
          now := at_
          store := s.store.withPage p { r with state := .closed, writer := none, truncated := true }
          dram := { s.dram with current := t.dram.current }
          motS := { running position with stop := .pending }
          scan := { s.scan with job := ScanJob.idle, lamp := false }
          mon := { s.mon with inputs := t.mon.inputs }
          link := s.link.reported [.pageClosed p r.committed true r.label, .scanAborted p .feedFailure] t.link.chosen
          power := s.power.timed t.power }) ∧
      (j.state = .offset → j.edgeLevel = !pin → 1 < j.stepsLeft →
        ∃ t, exec (.stepEvent .s pin) s = .next t ∧ t = { s with
          now := at_
          motS := running position
          scan := { s.scan with job := { counted with edgeSamples := 0, stepsLeft := j.stepsLeft - 1 } }
          mon := { s.mon with inputs := t.mon.inputs }
          power := s.power.timed t.power }) ∧
      (j.state = .offset → j.edgeLevel = !pin → j.stepsLeft = 1 → s.scan.slotA.use = .free →
        j.nextLine < s.tables.p Param.maxDocLines →
        ∃ t, exec (.stepEvent .s pin) s = .next t ∧ t = { s with
          now := at_
          motS := running 0
          scan := { s.scan with
            slotA := { s.scan.slotA with use := .filling }
            lastSlot := some .a
            readouts := s.scan.readouts ++ [lineZero]
            syncEnds := pulse
            job := { counted with state := .capture, edgeSamples := 0, stepsLeft := 0, nextLine := j.nextLine + 1 } }
          mon := { s.mon with inputs := t.mon.inputs }
          power := s.power.timed t.power }) ∧
      (j.state = .capture → position = 0 → j.edgeLevel = !pin → s.scan.slotA.use ≠ .free → s.scan.slotB.use ≠ .free →
        s.scan.writes = [] → j.nextLine < s.tables.p Param.maxDocLines → r.repeats < 255 → s.link.room 1 →
        ∃ t, exec (.stepEvent .s pin) s = .next t ∧ t = { s with
          now := at_
          store := s.store.withPage p { r with repeats := r.repeats + 1 }
          motS := running 0
          scan := { s.scan with
            readouts := s.scan.readouts ++ [{ lineZero with slot := none }]
            syncEnds := pulse
            writes :=
              [{ index := j.nextLine, slot := s.scan.lastSlot.getD .b, banded := false, requested := false }]
            job := { counted with edgeSamples := 0, nextLine := j.nextLine + 1 } }
          mon := { s.mon with inputs := t.mon.inputs }
          link := s.link.reported [.lineRepeated p j.nextLine] t.link.chosen
          power := s.power.timed t.power }) ∧
      (j.state = .capture → position ≠ 0 → j.edgeLevel = pin → j.edgeSamples = 1 → j.stopping = false →
        0 < s.tables.p Param.trailOffset →
        ∃ t, exec (.stepEvent .s pin) s = .next t ∧ t = { s with
          now := at_
          motS := running position
          scan := { s.scan with
            job := { counted with
              state := .tail
              edgeLevel := !pin
              edgeSamples := 0
              stepsLeft := s.tables.p Param.trailOffset } }
          mon := { s.mon with inputs := t.mon.inputs }
          power := s.power.timed t.power }) ∧
      (j.state = .tail → position ≠ 0 → 1 < j.stepsLeft →
        ∃ t, exec (.stepEvent .s pin) s = .next t ∧ t = { s with
          now := at_
          motS := running position
          scan := { s.scan with job := { counted with stepsLeft := j.stepsLeft - 1 } }
          mon := { s.mon with inputs := t.mon.inputs }
          power := s.power.timed t.power }) ∧
      (j.state = .tail → position ≠ 0 → j.stepsLeft = 1 → 0 < left → j.pageClosed = false → j.coverEnd = false →
        (s.scan.writes ≠ [] →
          ∃ t, exec (.stepEvent .s pin) s = .next t ∧ t = { s with
            now := at_
            motS := ejecting
            scan := { s.scan with
              lamp := false
              job := { counted with
                state := .eject
                stepsLeft := 0
                resume := none
                stopping := false
                availKept := false
                rested := false } }
            mon := { s.mon with inputs := t.mon.inputs }
            power := s.power.timed t.power }) ∧
        (s.scan.writes = [] → s.scan.readouts = [] → s.unattended → s.link.room 1 → r.mode = some .keep →
          r.retain = some true → r.filling = false →
          ∃ t, exec (.stepEvent .s pin) s = .next t ∧ t = { s with
            now := at_
            store := s.store.withPage p { r with state := .closed, writer := none, truncated := false }
            dram := { s.dram with current := t.dram.current }
            motS := ejecting
            scan := { s.scan with
              lamp := false
              job := { counted with
                state := .eject
                stepsLeft := 0
                resume := none
                stopping := false
                availKept := false
                rested := false
                pageClosed := true } }
            mon := { s.mon with inputs := t.mon.inputs }
            link := s.link.reported [.pageClosed p r.committed false r.label] t.link.chosen
            power := s.power.timed t.power }))) ∧
    (j.state = .eject → j.pageClosed = true → j.coverEnd = false → s.motS.remaining = some 1 → s.scan.readouts = [] →
      s.store.poolWait = none → s.tables.holdTime .s ≠ 0 → s.link.room 1 →
      ∃ t, exec (.stepEvent .s pin) s = .next t ∧ t = { s with
        now := at_
        store := { s.store with memoryLow := false, scanWaits := false }
        motS := { s.motS.advance s.tables .s at_ with
          position := position
          state := .hold
          index := 0
          move := none
          remaining := none
          stop := .nostop
          interval := none
          settleEnds := none
          powerEnds := none
          holdTimer := some (at_ + 200000 * s.tables.holdTime .s) }
        scan := { s.scan with job := ScanJob.idle }
        mon := { s.mon with inputs := t.mon.inputs }
        link := s.link.reported [.scanDone p] t.link.chosen
        power := s.power.timed t.power })

/-- R57, R58: the dots of a stored line. A sample is corrected with its pixel's gain in 64ths, rounded and at most 255. The dot of
pixel j of page line k is black when the corrected value is less than the threshold: FIXED_THRESHOLD, or with DITHER_MODE MATRIX
the DITHER entry (k mod 8) × 8 + (j mod 8). A threshold of 0, and a corrected value of 255, never give black; with FIXED_THRESHOLD
128 a corrected 127 is black and 128 white. The line has SCAN_WIDTH / 8 bytes, black is 1, and pixel 0 is the most significant bit
of the first byte. -/
def Obligations.LineDots : Prop :=
  (∀ (t : Tables) (k j sample : Nat), j < 2048 →
    let value := min 255 ((sample * t.shadeGain[j]?.getD 0 + 32) / 64)
    let threshold :=
      if t.p Param.ditherMode = 1 then t.dither[k % 8 * 8 + j % 8]?.getD 0 else t.p Param.fixedThreshold
    (t.black k j sample = true ↔ value < threshold) ∧
      (threshold = 0 → t.black k j sample = false) ∧
      (t.ok → value = 255 → t.black k j sample = false) ∧
      (t.p Param.ditherMode = 0 → t.p Param.fixedThreshold = 128 → value = 127 → t.black k j sample = true) ∧
      (t.p Param.ditherMode = 0 → t.p Param.fixedThreshold = 128 → value = 128 → t.black k j sample = false)) ∧
  ∀ (t : Tables) (pattern : Option Pattern) (samples : List Byte) (k : Nat),
    (t.line pattern samples k).length = t.p Param.scanWidth / 8 ∧
      ∀ j, j / 8 < t.p Param.scanWidth / 8 →
        (((t.line pattern samples k)[j / 8]?).map fun byte => byte.getLsbD (7 - j % 8)) =
          some (t.black k j (pixelValue pattern samples (t.p Param.sensorLead) k j))

/-! ### Printing and reading out -/

/-- R71, R72, R73, R89, R161, R168: a PRINT behind other entries joins the queue and holds its page; the first one, found with the
cover open, leaves its copy SUSPENDED; and a CANCEL PRINT takes a queued entry out, removes its hold and raises PRINT_CANCELLED.
R16: a PRINT makes the Print Unit the consumer of a STREAM page, from the page's base on, and asks for one copy; a page with a
consumer is refused. It rests on the model's choices of log entry 4. -/
def Obligations.PrintQueue : Prop :=
  (∀ (tag page copies : Byte) (s : State), s.takesCommand = true → s.power.state = .run → s.power.sleepPending = none →
    page.toNat < 32 → (s.page page.toNat).kind = some .image → (s.page page.toNat).mode = some .keep →
    let p := page.toNat
    let r := s.page p
    let e : PrintEntry := { page := p, copies := copies.toNat, done := 0, cursor := 0 }
    (r.state ≠ .free → 1 ≤ copies.toNat → copies.toNat ≤ 99 → s.print.queue ≠ [] → s.print.queue.length < 8 →
      ∃ t, exec (.print tag page copies) s = .next t ∧ t = { s with
        store := s.store.withPage p { r with printHold := r.printHold + 1 }
        print := { s.print with queue := s.print.queue ++ [e] }
        link := s.link.replied tag 0x0C#8 .accepted [] t.link.chosen
        power := s.power.timed t.power }) ∧
    (r.state ≠ .free → 1 ≤ copies.toNat → copies.toNat ≤ 99 → s.print.queue = [] → s.active Input.coverOpen = true →
      s.link.room 1 →
      ∃ t, exec (.print tag page copies) s = .next t ∧ t = { s with
        store := s.store.withPage p { r with printHold := r.printHold + 1 }
        print := { s.print with
          queue := [e]
          hpwr := false
          copy := { CopyRec.idle with state := .suspended, suspend := some .cover } }
        link := (s.link.replied tag 0x0C#8 .accepted [] none).reported [.printSuspended p .cover] t.link.chosen
        power := s.power.timed t.power }) ∧
    (∀ e0 e1 : PrintEntry, s.print.queue = [e0, e1] → e0.page ≠ p → e1.page = p → r.retain = some true →
      s.link.room 1 →
      ∃ t, exec (.cancelPrint tag page) s = .next t ∧ t = { s with
        store := s.store.withPage p { r with printHold := r.printHold - 1 }
        print := { s.print with queue := [e0] }
        link := (s.link.replied tag 0x0D#8 .accepted [1#8] none).reported [.printCancelled p] t.link.chosen
        power := s.power.timed t.power }) ∧
    (s.print.queue = [] →
      ∃ t, exec (.cancelPrint tag page) s = .next t ∧ t = { s with
        link := s.link.replied tag 0x0D#8 .wrongState [] t.link.chosen
        power := s.power.timed t.power })) ∧
  ∀ (tag page copies : Byte) (s : State), s.takesCommand = true → s.power.state = .run → s.power.sleepPending = none →
    page.toNat < 32 → (s.page page.toNat).kind = some .image → (s.page page.toNat).mode = some .stream →
    (s.page page.toNat).state ≠ .free → 1 ≤ copies.toNat → copies.toNat ≤ 99 →
    let p := page.toNat
    let r := s.page p
    let answered (code : ResultCode) (t : State) : State :=
      { s with link := s.link.replied tag 0x0C#8 code [] t.link.chosen, power := s.power.timed t.power }
    (copies.toNat ≠ 1 → ∃ t, exec (.print tag page copies) s = .next t ∧ t = answered .badParameter t) ∧
    (copies.toNat = 1 → r.consumer ≠ none → ∃ t, exec (.print tag page copies) s = .next t ∧ t = answered .wrongState t) ∧
    (copies.toNat = 1 → r.consumer = none → s.print.queue ≠ [] → s.print.queue.length < 8 →
      ∃ t, exec (.print tag page copies) s = .next t ∧ t = { answered .accepted t with
        store := s.store.withPage p { r with printHold := r.printHold + 1, consumer := some .print, mark := r.base }
        print := { s.print with
          queue := s.print.queue ++ [{ page := p, copies := 1, done := 0, cursor := r.base }] } })

/-- R73, R74, R76, R88, R177: a copy starts, at a RESUME PRINT with the cover shut and paper present, or at the end of
POWER_SETTLE: with lines to print it enters LEAD with the head power on, its first line is requested, and channel P is asked for
an open move. It rests on the model's choices of log entries 2 and 4. -/
def Obligations.CopyStarts : Prop :=
  ∀ (tag : Byte) (e : PrintEntry) (es : List PrintEntry) (b : Band) (s : State), s.print.queue = e :: es → e.page < 32 →
    (s.page e.page).state = .closed → (s.page e.page).mode = some .keep → 0 < (s.page e.page).committed →
    (s.page e.page).bandOfLine 0 = some b → e.cursor = 0 → s.active Input.coverOpen = false →
    s.active Input.paperOut = false → s.print.seq = .idle → s.motP.atRest = true → s.dram.state = .active →
    (∃ a, s.dram.current = some a) → s.dram.lingering .printFetch = false →
    (∀ r ∈ s.dram.waiting, r.cls ≠ .printFetch) → s.dram.ending .printFetch = none →
    let r := s.page e.page
    let leading (t : State) : Prop :=
      t.print.queue = { e with cursor := 1 } :: es ∧ t.print.hpwr = true ∧ t.print.copy.state = .lead ∧
        t.print.copy.leadLeft = s.tables.p Param.printLead ∧ t.print.copy.steps = r.res.printSteps ∧
        t.print.copy.repeats = r.res.repeats ∧ t.print.copy.startLine = 0 ∧ t.print.copy.printed = 0 ∧
        t.print.copy.shift.status = .empty ∧ t.print.copy.fetch.status = .requested ∧ t.print.copy.fetch.line = 0 ∧
        t.dram = { s.dram with
          waiting := s.dram.waiting ++
            [{ lineRequest .printFetch e.page 0 (r.width.getD 0) b [] none with afterOrder := s.dram.sleepOrder }]
          autoTimer := none } ∧
        t.motP = s.motP.take s.tables .p t.now 0
          { owner := .print
            ask := .open_
            steps := r.res.printSteps
            cruise := s.tables.p r.res.cruiseP
            floor := shiftFloor (s.tables.p Param.headWidth) r.res.printSteps }
    (s.takesCommand = true → s.power.state = .run → s.power.sleepPending = none → s.print.copy.state = .suspended →
      ∃ t, exec (.resumePrint tag) s = .next t ∧ leading t ∧ t = { s with
        dram := t.dram
        motP := t.motP
        print := { s.print with queue := t.print.queue, hpwr := true, copy := t.print.copy }
        link := s.link.replied tag 0x0E#8 .accepted [] t.link.chosen
        power := s.power.timed t.power }) ∧
    (∀ d, s.print.copy.state = .starting → s.print.copy.startEnds = some d →
      ∃ t, exec .printStartingEnd s = .next t ∧ leading t ∧ t = { s with
        now := max s.now d
        dram := t.dram
        motP := t.motP
        print := { s.print with queue := t.print.queue, hpwr := true, copy := t.print.copy } })

/-- R93: the effective dot budget is taken at each latch from DOT_BUDGET as it then stands: min(max(DOT_BUDGET, G), 8G), so that a
budget below one group is raised to G and one above the whole head is lowered to 8G; a LOAD TABLE leaves the phases of the line
already latched as they were; and DOT_BUDGET is loadable at any time. -/
def Obligations.DotBudget : Prop :=
  (∀ (t : Tables) (ch0 ch1 : AnalogRec) (S line printing : Nat) (counts : List Nat), t.ok →
    let G := t.p Param.headWidth / 8
    let rec_ := strobeRecord t ch0 ch1 S line printing counts
    rec_.dEff = min (max (t.p Param.dotBudget) G) (8 * G) ∧ rec_.phases = packPhases rec_.dEff counts ∧
      (t.p Param.dotBudget ≤ G → rec_.dEff = G) ∧ (8 * G ≤ t.p Param.dotBudget → rec_.dEff = 8 * G)) ∧
    ([64, 432, 1000, 2048].map (effectiveBudget 1728) = [216, 432, 1000, 1728] ∧
      [64, 432, 1000, 2048].map (effectiveBudget 2048) = [256, 432, 1000, 2048]) ∧
    (∀ (tag table : Byte) (start : Half) (entries : List Byte) (s t : State),
      exec (.loadTable tag table start entries) s = .next t → t.print.strobe = s.print.strobe) ∧
    ∀ s : State, s.loadable 0 Param.dotBudget 1 = true

/-- R94: the packing of a line's groups into phases. The groups with black dots appear in the phases once each, in ascending
order; each phase has at least one group and its dot sum, that of its groups, is at most D_eff; a phase's first group is one that
the phase before could not take; there are at most eight phases, none for a line with no black dot, and eight where no two
neighbours fit. -/
def Obligations.StrobePhases : Prop :=
  ∀ (t : Tables) (ch0 ch1 : AnalogRec) (S line printing : Nat) (counts : List Nat), t.ok → counts.length = 8 →
    (∀ c ∈ counts, c ≤ t.p Param.headWidth / 8) →
    let rec_ := strobeRecord t ch0 ch1 S line printing counts
    let d := rec_.dEff
    let phases := rec_.phases
    phases.flatMap (·.groups) = (List.range 8).filter (fun g => counts[g]?.getD 0 ≠ 0) ∧
      (∀ p ∈ phases, p.groups ≠ [] ∧ p.dots ≤ d ∧ p.dots = (p.groups.map fun g => counts[g]?.getD 0).sum) ∧
      (∀ i p q g, phases[i]? = some p → phases[i + 1]? = some q → q.groups.head? = some g →
        d < p.dots + counts[g]?.getD 0) ∧
      phases.length ≤ 8 ∧ ((∀ c ∈ counts, c = 0) → phases = []) ∧
      ((∀ c ∈ counts, c ≠ 0) → (∀ g < 7, d < counts[g]?.getD 0 + counts[g + 1]?.getD 0) → phases.length = 8)

/-- R95 to R98: the pulse width is HEAD_TEMP at the temperature band index plus the supply correction, held between the smaller of
WMIN and WMAX and WMAX, so always within 50 to 4000 µs; with WMIN above WMAX it is WMAX; the recovery time is RECOVERY; and the
line floor is the larger of the line time and H / 4 µs, over S and rounded up. -/
def Obligations.PulseWidthAndFloor : Prop :=
  ∀ (t : Tables) (ch0 ch1 : AnalogRec) (S line printing : Nat) (counts : List Nat), t.ok → 0 < S →
    let rec_ := strobeRecord t ch0 ch1 S line printing counts
    let band := if ch0.valid = true then ch0.value / 16 else 15
    let v := if ch1.valid = true then ch1.value else t.p Param.vnom
    let sum : Int := (t.headTemp[band]?.getD 0 : Nat) +
      Int.tdiv (((t.p Param.vnom : Nat) - (v : Nat) : Int) * (t.p Param.vslope : Nat)) 16
    let wmin := t.p Param.wmin
    let wmax := t.p Param.wmax
    (rec_.width : Int) = max ((min wmin wmax : Nat) : Int) (min (wmax : Int) sum) ∧
      50 ≤ rec_.width ∧ rec_.width ≤ 4000 ∧ (wmax < wmin → rec_.width = wmax) ∧ rec_.recovery = t.p Param.recovery ∧
      rec_.lineTime = rec_.phases.length * (rec_.width + rec_.recovery) ∧
      (max rec_.lineTime (t.p Param.headWidth / 4) ≤ rec_.floor * S ∧
        ∀ n, max rec_.lineTime (t.p Param.headWidth / 4) ≤ n * S → rec_.floor ≤ n)

/-- R77: the page is placed on the head by its width w and the head width H. A narrower line is centred at the offset floor((H −
w) / 16) × 8 with white on either side, a wider one is cropped from the offset floor((w − H) / 16) × 8, and a line of the head's
width is printed as it is. The dot counts are made on the head's dots, so margins and cropped dots count nothing. -/
def Obligations.LinePlacement : Prop :=
  ∀ (H w : Nat) (line : List Byte), H % 64 = 0 → w % 64 = 0 → line.length = w / 8 →
    let dot (bytes : List Byte) (h : Nat) : Bool := ((bytes[h / 8]?).getD 0#8).getLsbD (7 - h % 8)
    let head := placeLine H w line
    head.length = H / 8 ∧
      (w < H → ∀ h < H,
        dot head h =
          if (H - w) / 16 * 8 ≤ h ∧ h < (H - w) / 16 * 8 + w then dot line (h - (H - w) / 16 * 8) else false) ∧
      (H < w → ∀ h < H, dot head h = dot line (h + (w - H) / 16 * 8)) ∧
      (w = H → head = line) ∧
      ∀ g < 8, (dotCounts H head)[g]? = some ((List.range (H / 8)).countP fun i => dot head (g * (H / 8) + i))

/-- R78, R84, R100: the head. A shift is complete at its time; a pulse that ends is followed by the recovery time, and the
recovery by the next phase's pulse or by IDLE, which keeps the last phase's number (log entry 42); and the end of CUT_TIME after
the last copy raises COPY_DONE, completes the entry, removes its hold and raises PRINT_DONE. The step events of channel P in a
copy: R74 the count of PRINT_LEAD; R79, R100 the latch at a line boundary, which puts the shifted line on the head, starts its
strobe record and the floor of R98, and begins the next shift, of the same line again or of the fetched one; PRINT_UNDERRUN where
no line is ready; R80, R81 the stops for a page still filling and for a hot head, and the pause at their rest; R83 the trail
behind the last line. It rests on the model's choices of log entries 2 and 42. -/
def Obligations.StrobeAndCut : Prop :=
  (∀ (d : Nat) (s : State), s.power.sleepPending = none →
    (s.print.copy.shift.status = .shifting → s.print.copy.shift.doneAt = some d →
      exec .shiftComplete s = .next { s with
        now := max s.now d
        print := { s.print with
          copy := { s.print.copy with
            shift := { s.print.copy.shift with status := .complete, doneAt := none } } } }) ∧
    (∀ r, s.print.seq = .pulse → s.print.seqEnds = some d → s.print.strobe = some r → r.recovery ≠ 0 →
      ∃ t, exec .strobePulseEnd s = .next t ∧ t = { s with
        now := max s.now d
        print := { s.print with seq := .recover, seqEnds := some (max s.now d + 20 * r.recovery) }
        power := s.power.timed t.power }) ∧
    (∀ r, s.print.seq = .recover → s.print.seqEnds = some d → s.print.strobe = some r →
      s.print.seqPhase + 1 < r.phases.length →
      ∃ t, exec .strobeRecoveryEnd s = .next t ∧ t = { s with
        now := max s.now d
        print := { s.print with
          seq := .pulse
          seqPhase := s.print.seqPhase + 1
          seqEnds := some (max s.now d + 20 * r.width) }
        power := s.power.timed t.power }) ∧
    (∀ r, s.print.seq = .recover → s.print.seqEnds = some d → s.print.strobe = some r →
      r.phases.length ≤ s.print.seqPhase + 1 → s.print.copy.heldMove = none → s.print.copy.rested = false →
      ∃ t, exec .strobeRecoveryEnd s = .next t ∧ t = { s with
        now := max s.now d
        print := { s.print with seq := .idle, seqEnds := none }
        power := s.power.timed t.power }) ∧
    (∀ e, s.print.copy.state = .cut → s.print.copy.cutEnds = some d → s.print.queue = [e] →
      s.print.copy.cancelPending = false → e.copies = e.done + 1 → e.page < 32 → (s.page e.page).mode = some .keep →
      (s.page e.page).retain = some true → s.link.room 2 →
      ∃ t, exec .cutTimeEnd s = .next t ∧ t = { s with
        now := max s.now d
        store := s.store.withPage e.page { s.page e.page with printHold := (s.page e.page).printHold - 1 }
        print := { s.print with
          queue := []
          copy := CopyRec.idle
          strobe := none
          seq := .idle
          seqEnds := none
          hpwr := false
          cutter := false }
        link := s.link.reported [.copyDone e.page e.copies, .printDone e.page] t.link.chosen
        power := s.power.timed t.power })) ∧
  ∀ (iv : Interval) (pin : Bool) (e : PrintEntry) (es : List PrintEntry) (s : State), s.print.queue = e :: es →
    s.power.sleepPending = none → s.motP.moving = true → s.motP.owner = .print → s.motP.interval = some iv →
    s.motP.held = none → s.print.copy.abandon = .kept →
    let c := s.print.copy
    let r := s.page e.page
    let at_ := max s.now iv.endsAt
    let quarter := s.tables.p Param.headWidth / 4
    let made := strobeRecord s.tables (s.mon.channel 0) (s.mon.channel 1) c.steps c.shift.line c.shift.printing c.shift.counts
    let hot := (s.mon.channel 0).band = some .high
    let stopLines := ((s.motP.cruise + c.steps - 1 + c.steps - 1) / c.steps + 1 + c.repeats - 1) / c.repeats
    let stops := (r.state = .opened ∧ r.committed < e.cursor + stopLines) ∨ hot
    let boundary := (c.state = .printing ∧ (s.motP.position + 1) % s.motP.steps = 0) ∨ (c.state = .lead ∧ c.leadLeft ≤ 1)
    let begun := if c.state = .lead then { c with state := .printing, leadLeft := c.leadLeft - 1 } else c
    let onward (position floor index : Nat) (state : ChanState) : Channel :=
      { s.motP.advance s.tables .p at_ with
        position := position
        floor := floor
        index := index
        state := state
        interval := some
          { length := max (s.tables.rampAt .p index) floor, endsAt := at_ + 20 * max (s.tables.rampAt .p index) floor } }
    let running (position floor : Nat) : Channel :=
      if s.motP.index < s.motP.cruise then onward position floor (s.motP.index + 1) .accel
      else onward position floor s.motP.index .run
    let fired (copy : CopyRec) : PrintUnit :=
      { s.print with
        strobe := some made
        headDots := c.shift.dots
        seq := if made.phases = [] then .idle else .pulse
        seqPhase := 0
        seqEnds := if made.phases = [] then none else some (at_ + 20 * made.width)
        copy := { copy with lastLatched := some (c.shift.line, c.shift.printing), printed := c.printed + 1 } }
    let again : ShiftBuf :=
      { c.shift with status := .shifting, printing := c.shift.printing + 1, doneAt := some (at_ + 20 * quarter) }
    (s.motP.move = some .open_ → s.motP.remaining = none → s.motP.stop = .nostop → c.stopping = false →
      (c.state = .lead → 1 < c.leadLeft →
        ∃ t, exec (.stepEvent .p pin) s = .next t ∧ t = { s with
          now := at_
          motP := running ((s.motP.position + 1) % s.motP.steps) s.motP.floor
          print := { s.print with copy := { c with leadLeft := c.leadLeft - 1 } }
          power := s.power.timed t.power }) ∧
      (boundary → c.shift.status = .complete → c.shift.printing < c.repeats →
        ∃ t, exec (.stepEvent .p pin) s = .next t ∧ t = { s with
          now := at_
          motP := { running 0 made.floor with stop := if stops then .pending else .nostop }
          print := fired { begun with shift := again, stopping := decide stops }
          power := s.power.timed t.power }) ∧
      (boundary → c.shift.status = .complete → c.shift.printing = c.repeats → c.fetch.status = .full → c.exhausted = true →
        r.mode = some .keep → c.shift.line + 1 ≠ r.committed →
        ∃ t, exec (.stepEvent .p pin) s = .next t ∧ t = { s with
          now := at_
          motP := { running 0 made.floor with stop := if stops then .pending else .nostop }
          print := fired { begun with
            shift :=
              { status := .shifting
                line := c.fetch.line
                printing := 1
                counts := c.fetch.counts
                dots := c.fetch.dots
                doneAt := some (at_ + 20 * quarter) }
            fetch := FetchBuf.none
            stopping := decide stops }
          power := s.power.timed t.power }) ∧
      (boundary → c.shift.status ≠ .complete → (r.state = .opened ∨ c.exhausted = false) → s.link.room 1 →
        ∃ t, exec (.stepEvent .p pin) s = .next t ∧ t = { s with
          now := at_
          motP := { running 0 ((quarter + c.steps - 1) / c.steps) with stop := if stops then .pending else .nostop }
          print := { s.print with copy := { begun with stopping := decide stops } }
          link := s.link.reported [.printUnderrun e.page c.printed] t.link.chosen
          power := s.power.timed t.power }) ∧
      (boundary → c.shift.status = .complete → c.shift.printing = c.repeats → c.fetch.status = .empty → c.exhausted = true →
        r.mode = some .keep → r.state = .closed → c.shift.line + 1 = r.committed → 0 < s.tables.p Param.printTrail →
        0 < c.steps →
        let trail := (max (s.tables.p Param.printTrail) s.motP.index + c.steps - 1) / c.steps * c.steps
        let slowing : Channel :=
          if trail ≤ s.motP.index then onward 0 made.floor (s.motP.index - 1) .decel
          else if s.motP.index + 2 ≤ trail ∧ s.motP.index < s.motP.cruise then
            onward 0 made.floor (s.motP.index + 1) .accel
          else onward 0 made.floor s.motP.index .run
        ∃ t, exec (.stepEvent .p pin) s = .next t ∧ t = { s with
          now := at_
          motP := { slowing with move := some .counted, remaining := some trail }
          print := fired { begun with
            state := .trail
            pause := none
            rested := false
            heldMove := none
            shift := ShiftBuf.none }
          power := s.power.timed t.power })) ∧
    (s.motP.stop = .taken → s.motP.remaining = some 1 → c.state = .printing → (s.motP.position + 1) % s.motP.steps = 0 →
      c.stopping = true → c.shift.status = .complete → c.shift.printing < c.repeats → hot →
      s.active Input.coverOpen = false → s.tables.holdTime .p ≠ 0 → s.link.room 1 →
      ∃ t, exec (.stepEvent .p pin) s = .next t ∧ t = { s with
        now := at_
        motP := { s.motP.advance s.tables .p at_ with
          position := 0
          floor := made.floor
          state := .hold
          index := 0
          move := none
          remaining := none
          stop := .nostop
          interval := none
          settleEnds := none
          powerEnds := none
          holdTimer := some (at_ + 200000 * s.tables.holdTime .p) }
        print := fired { c with state := .paused, pause := some .heat, stopping := false, shift := again }
        link := s.link.reported [.printPaused e.page .heat] t.link.chosen
        power := s.power.timed t.power })

/-- R15, R147, R151, R162, R173: a READ PAGE behind other entries joins the queue with its cursor at its start, where R15 has a
KEEP page's entries begin with cursor 0 (log entry 43), and holds its page; one that starts beyond an IMAGE page's greatest line
is refused with BAD_PARAMETER; and a CANCEL READ takes an entry out, removes its hold and raises READ_DONE with the short flag
set. R16, R18: a READ PAGE makes the link the consumer of a STREAM page, with the consume mark at its start, which may not lie
before the page's base; a page with a consumer is refused; and a CANCEL READ of its read leaves the page without one. It rests on
the model's choices of log entries 4, 37 and 43. -/
def Obligations.ReadQueue : Prop :=
  (∀ (tag page : Byte) (start count : Offset) (s : State), s.takesCommand = true → s.power.state = .run →
    s.power.sleepPending = none → page.toNat < 32 → (s.page page.toNat).kind = some .image →
    (s.page page.toNat).mode = some .keep →
    let p := page.toNat
    let r := s.page p
    (r.state ≠ .free → start.toNat ≤ 16383 → count.toNat ≤ 16384 → s.link.reads ≠ [] → s.link.reads.length < 4 →
      ∃ t, exec (.readPage tag page start count) s = .next t ∧ t = { s with
        store := s.store.withPage p { r with linkHold := r.linkHold + 1 }
        link := ({ s.link with
          reads := s.link.reads ++
            [{ page := p, start := start.toNat, count := count.toNat, cursor := start.toNat, placed := 0 }] } :
              Link).replied tag 0x10#8 .accepted [] t.link.chosen
        power := s.power.timed t.power }) ∧
    (r.state ≠ .free → 16383 < start.toNat →
      ∃ t, exec (.readPage tag page start count) s = .next t ∧ t = { s with
        link := s.link.replied tag 0x10#8 .badParameter [] t.link.chosen
        power := s.power.timed t.power }) ∧
    (∀ e0 e1 : ReadEntry, s.link.reads = [e0, e1] → e0.page ≠ p → e1.page = p → r.retain = some true →
      s.link.readBuf.status ≠ .empty → s.link.room 1 →
      ∃ t, exec (.cancelRead tag page) s = .next t ∧ t = { s with
        store := s.store.withPage p { r with linkHold := r.linkHold - 1 }
        link := (({ s.link with reads := [e0] } : Link).replied tag 0x11#8 .accepted [1#8] none).reported
          [.readDone p e1.placed true] t.link.chosen
        power := s.power.timed t.power })) ∧
  ∀ (tag page : Byte) (start count : Offset) (s : State), s.takesCommand = true → s.power.state = .run →
    s.power.sleepPending = none → page.toNat < 32 → (s.page page.toNat).kind = some .image →
    (s.page page.toNat).mode = some .stream → (s.page page.toNat).state ≠ .free → start.toNat ≤ 16383 →
    count.toNat ≤ 16384 →
    let p := page.toNat
    let r := s.page p
    (r.consumer = none → r.base ≤ start.toNat → s.link.reads ≠ [] → s.link.reads.length < 4 →
      (start.toNat < r.base + 32 ∨ r.committed < r.base + 32) →
      ∃ t, exec (.readPage tag page start count) s = .next t ∧ t = { s with
        store := s.store.withPage p { r with linkHold := r.linkHold + 1, consumer := some .link, mark := start.toNat }
        link := ({ s.link with
          reads := s.link.reads ++
            [{ page := p, start := start.toNat, count := count.toNat, cursor := start.toNat, placed := 0 }] } :
              Link).replied tag 0x10#8 .accepted [] t.link.chosen
        power := s.power.timed t.power }) ∧
    (r.consumer = none → start.toNat < r.base →
      ∃ t, exec (.readPage tag page start count) s = .next t ∧ t = { s with
        link := s.link.replied tag 0x10#8 .badParameter [] t.link.chosen
        power := s.power.timed t.power }) ∧
    (r.consumer ≠ none →
      ∃ t, exec (.readPage tag page start count) s = .next t ∧ t = { s with
        link := s.link.replied tag 0x10#8 .wrongState [] t.link.chosen
        power := s.power.timed t.power }) ∧
    (∀ e0 e1 : ReadEntry, s.link.reads = [e0, e1] → e0.page ≠ p → e1.page = p → r.consumer = some .link →
      (r.state = .opened ∨ 1 < r.linkHold ∨ 0 < r.printHold ∨ r.mark < r.committed) → s.link.readBuf.status ≠ .empty →
      s.link.room 1 →
      ∃ t, exec (.cancelRead tag page) s = .next t ∧ t = { s with
        store := s.store.withPage p { r with linkHold := r.linkHold - 1, consumer := none }
        link := (({ s.link with reads := [e0] } : Link).replied tag 0x11#8 .accepted [1#8] none).reported
          [.readDone p e1.placed true] t.link.chosen
        power := s.power.timed t.power })

/-! ### Motors -/

/-- R107, R109, R110, R119, R121, R122, R165: a FEED of a channel that is OFF energises its coils to the pattern at the kept phase
index and settles; one of a channel in HOLD starts at once; with the cover open it is refused with COVER_OPEN. The settle's end
enters ACCEL and decides the first interval, the end of a FEED's POWER_SETTLE begins the settle, the end of a non-overlap gap
switches the waiting coils on, and the hold timer switches the channel off. It rests on the model's choices of log entries 2 and
4. -/
def Obligations.FeedMoves : Prop :=
  ∀ (tag channel : Byte) (m : Motor) (n : Half) (d : Nat) (s : State), motorOf channel = some m → n ≠ 0#16 →
    let ch := s.mot m
    let cruise := min (s.tables.p Param.cruiseFeed) (s.tables.rampLength m - 1)
    let first (at_ : Nat) : Interval :=
      { length := s.tables.rampAt m 0, endsAt := at_ + 20 * s.tables.rampAt m 0 }
    let energised := s.tables.phase m ch.phase
    (s.takesCommand = true → s.power.state = .run → s.power.sleepPending = none → s.active Input.coverOpen = false →
      s.unitIdle m = true → ch.state = .off → s.tables.settleMs m ≠ 0 →
      ∃ t, exec (.feed tag channel n) s = .next t ∧
        t = { (s.withMot m
            { ch with
              state := .settle
              owner := .feed
              move := some .counted
              steps := 1
              cruise := cruise
              index := 0
              remaining := some n.toNat
              position := 0
              floor := 0
              stop := .nostop
              held := none
              holdTimer := none
              halfStep := s.tables.stepMode m == 1
              settleMs := s.tables.settleMs m
              settleEnds := some (s.now + 20000 * s.tables.settleMs m)
              powerEnds := none
              coils := energised
              gaps := [] }) with
          link := s.link.replied tag 0x14#8 .accepted [] t.link.chosen
          power := s.power.timed t.power }) ∧
    (s.takesCommand = true → s.power.state = .run → s.power.sleepPending = none → s.active Input.coverOpen = false →
      s.unitIdle m = true → ch.state = .hold →
      ∃ t, exec (.feed tag channel n) s = .next t ∧ (t.mot m).state = .accel ∧ (t.mot m).owner = .feed ∧
        (t.mot m).remaining = some n.toNat ∧ (t.mot m).index = 0 ∧ (t.mot m).interval =
          some { length := max (s.tables.rampAt m 0) 0, endsAt := s.now + 20 * max (s.tables.rampAt m 0) 0 } ∧
        (t.mot m).coils = ch.coils ∧ (t.mot m).holdTimer = none ∧ t.store = s.store ∧ t.mem = s.mem ∧
        t.tables = s.tables ∧ t.dram = s.dram ∧ t.scan = s.scan ∧ t.print = s.print ∧
        t.link = s.link.replied tag 0x14#8 .accepted [] t.link.chosen) ∧
    (s.takesCommand = true → s.power.state = .run → s.power.sleepPending = none → s.active Input.coverOpen = true →
      ∃ t, exec (.feed tag channel n) s = .next t ∧ t = { s with
        link := s.link.replied tag 0x14#8 .coverOpen [] t.link.chosen
        power := s.power.timed t.power }) ∧
    (ch.state = .settle → ch.settleEnds = some d → ch.floor = 0 →
      exec (.settleEnd m) s = .next (({ s with now := max s.now d } : State).withMot m
        { ch with
          state := .accel
          settleEnds := none
          powerEnds := none
          index := 0
          interval := some (first (max s.now d)) })) ∧
    (ch.state = .settle → ch.powerEnds = some d → ch.settleMs ≠ 0 →
      exec (.feedPowerSettleEnd m) s = .next (({ s with now := max s.now d } : State).withMot m
        { ch with
          powerEnds := none
          settleEnds := some (max s.now d + 20000 * ch.settleMs)
          coils := energised
          gaps := [] })) ∧
    (∀ (g : Gap) (left : List Gap), ch.gaps = g :: left →
      exec (.nonoverlapGapEnd m) s = .next (({ s with now := max s.now g.endsAt } : State).withMot m
        { ch with coils := ch.coils ||| g.coils, gaps := left })) ∧
    (ch.state = .hold → ch.holdTimer = some d → s.power.sleepPending = none →
      ∃ t, exec (.holdTimeout m) s = .next t ∧
        t = { (({ s with now := max s.now d } : State).withMot m
            { ch with
              state := .off
              coils := 0#4
              gaps := []
              holdTimer := none
              interval := none
              settleEnds := none
              powerEnds := none }) with
          power := s.power.timed t.power })

/-- R107, R111 to R114, R118: a step event of a FEED's move. The phase advances by 1 in HALF and by 2 in FULL, the position counts
modulo S, the remaining count falls by 1, the index falls where the rest of the move needs it, rises where both allow it and else
stands, and the interval is the ramp entry at the index or the floor, the larger. The coils are driven to the pattern at the new
phase index, those newly wanted behind the non-overlap gap. The last step leaves the channel in HOLD with its hold timer running,
and raises FEED_DONE. A step event of channel S samples DOC_EDGE (R133), here at its level. Nothing else changes. It rests on the
model's choices of log entry 2. -/
def Obligations.StepEvents : Prop :=
  ∀ (m : Motor) (pin : Bool) (iv : Interval) (n : Nat) (s : State),
    let ch := s.mot m
    ch.moving = true → ch.owner = .feed → ch.stop = .nostop → ch.held = none → ch.interval = some iv →
    ch.remaining = some (n + 1) → s.power.sleepPending = none →
    (m = .s → (s.mon.input Input.docEdge).level = some (!pin)) →
    let at_ := max s.now iv.endsAt
    let phase := (ch.phase + (if ch.halfStep = true then 1 else 2)) % 8
    let pattern : BitVec 4 := BitVec.ofNat 4 (s.tables.get (if m = .s then 6 else 7) phase)
    let newly := pattern &&& ~~~ch.coils
    let gap := s.tables.p (if m = .s then Param.nonoverlapS else Param.nonoverlapP)
    let stepped : Channel :=
      { ch with
        phase := phase
        position := (ch.position + 1) % ch.steps
        remaining := some n
        coils := if gap = 0 ∨ newly = 0#4 then pattern else ch.coils &&& pattern
        gaps := if gap = 0 ∨ newly = 0#4 then [] else [{ coils := newly, endsAt := at_ + 20 * gap }] }
    let moved (c : Channel) (edge : InputRec) (t : State) : State :=
      match m with
      | .s =>
        { s with
          now := at_
          motS := c
          mon := { s.mon with inputs := s.mon.inputs.setIfInBounds Input.docEdge edge }
          power := s.power.timed t.power }
      | .p => { s with now := at_, motP := c, power := s.power.timed t.power }
    let edge := s.mon.input Input.docEdge
    (0 < n →
      let index :=
        if n ≤ ch.index then ch.index - 1
        else if ch.index + 2 ≤ n ∧ ch.index < ch.cruise then ch.index + 1
        else ch.index
      let length := max (s.tables.rampAt m index) ch.floor
      ∃ t, exec (.stepEvent m pin) s = .next t ∧ t = moved
        { stepped with
          index := index
          state := if n ≤ ch.index then .decel else if ch.index + 2 ≤ n ∧ ch.index < ch.cruise then .accel else .run
          interval := some { length := length, endsAt := at_ + 20 * length } }
        { edge with count := 0 } t) ∧
    (n = 0 → s.tables.holdTime m ≠ 0 → s.link.room 1 →
      ∃ t, exec (.stepEvent m pin) s = .next t ∧ t = { moved
        { stepped with
          state := .hold
          index := 0
          move := none
          remaining := none
          interval := none
          settleEnds := none
          powerEnds := none
          holdTimer := some (at_ + 200000 * s.tables.holdTime m) }
        { edge with count := 0, sample := none } t with
          link := s.link.reported [.feedDone m] t.link.chosen })

/-- R117: the count that a stop leaves to a move is the smallest that the ramp allows, at least its index, and that ends at a line
boundary. -/
def Obligations.StopCount : Prop :=
  ∀ c : Channel, 0 < c.steps →
    c.index ≤ c.stopCount ∧ (c.position + c.stopCount) % c.steps = 0 ∧
      ∀ n, c.index ≤ n → (c.position + n) % c.steps = 0 → c.stopCount ≤ n

/-! ### Sensors -/

/-- R125 to R128, R131, R132: a round starts with the converter's transaction on channel 0 and sets the next one; the end of a
transaction stores the channel's value with its offset, a class like the band's changes no band, and one that confirms a pending
band changes it and is reported unless the channel's event mask, as its turn in the round found it (R129, R185), is on; and a
sample of inputs that all agree with their levels sets their counts to 0 and changes nothing else. While a transaction lasts the
SPI select is asserted, and the byte sent has bit 7 set and the channel's number in its low bits. It rests on the model's choices
of log entries 2 and 10. -/
def Obligations.SensorRounds : Prop :=
  (∀ (c endsAt : Nat) (k : Bool), c < 8 →
    ({ channel := c, endsAt := endsAt, masked := k } : Transaction).sends.toNat = 128 + c ∧
      ∀ m : Monitor, m.spiSelect = true ↔ m.transaction ≠ none) ∧
  ∀ (d : Nat) (s : State), s.power.sleepPending = none →
    (s.mon.nextRound = some d → s.mon.transaction = none → s.tables.sensorEnabled 0 = true →
      (s.power.state = .run ∨ s.power.state = .standby) →
      ∃ t, exec .roundStart s = .next t ∧ t = { s with
        now := max s.now d
        mon := { s.mon with
          transaction := some { channel := 0, endsAt := max s.now d + 200, masked := s.tables.sensorMasked 0 }
          lastRound := some { start := max s.now d, period := s.tables.p Param.sensorPeriod }
          nextRound := some (max s.now d +
            20000 * ((if s.power.state = .standby then 8 else 1) * s.tables.p Param.sensorPeriod)) }
        power := s.power.timed t.power }) ∧
    (∀ (raw : Byte) (k : Bool), s.mon.transaction = some { channel := 7, endsAt := d, masked := k } → s.mon.roundQueued = false →
      let sum : Int := (raw.toNat : Int) + s.tables.sensorOffset 7
      let value := (max 0 (min 255 sum)).toNat
      let level : Level :=
        if s.tables.sensorHigh 7 < value then .high else if value < s.tables.sensorLow 7 then .low else .normal
      let taken : Monitor :=
        { s.mon with
          transaction := none
          analog := s.mon.analog.setIfInBounds 7
            { value := value, valid := true, band := some level, pending := none, saturated := false } }
      0 ≤ sum → sum ≤ 255 →
      ((s.mon.channel 7).band = some level →
        ∃ t, exec (.converterTransactionEnd raw) s = .next t ∧ t = { s with
          now := max s.now d
          mon := taken
          power := s.power.timed t.power }) ∧
      ((s.mon.channel 7).band ≠ some level → (s.mon.channel 7).pending = some level → s.link.room 1 →
        ∃ t, exec (.converterTransactionEnd raw) s = .next t ∧ t = { s with
          now := max s.now d
          mon := taken
          link := if k = true then s.link else s.link.reported [.sensorBand 7 (some level) value] t.link.chosen
          power := s.power.timed t.power })) ∧
    (∀ pins : BitVec 6, s.mon.nextSample = some d → s.power.state = .run → s.motS.moving = false →
      (∀ n < 6, (s.mon.input n).level = some (!pins.getLsbD n)) →
      ∃ t, exec (.inputSample pins) s = .next t ∧ t = { s with
        now := max s.now d
        mon := { s.mon with
          inputs := s.mon.inputs.map fun r => { r with count := 0 }
          nextSample := some (max s.now d + 20000) }
        power := s.power.timed t.power })

/-- R128, R131, R132: the filters. A band changes at the second sample in succession of another class, and a sample of the band's
own class ends the wait; a settled input changes its level when DEBOUNCE samples in succession differ from it, and not before; an
unsettled one adopts a level after DEBOUNCE equal samples. R134: at an INPUT_SAMPLE that changes one level the change is reported
as INPUT_CHANGE unless its mask bit is set, behind what it does: PAPER_OUT abandons a copy that moves (R85), COVER_OPEN suspends
the copy (R85, R86), aborts the scan (R69) and halts both channels (R120; log entry 12 for the order), and a watched input is held
as wake source in ENTERING_SLEEP and wakes the part in SLEEP (R135, R198, R199). It rests on the model's choices of log entries 2,
10, 12, 13 and 42. -/
def Obligations.SensorFilters : Prop :=
  (∀ (r : AnalogRec) (c : Level),
    (r.band = some c → (r.classed c).band = some c ∧ (r.classed c).pending = none) ∧
    (r.band ≠ some c → r.pending ≠ some c → (r.classed c).band = r.band ∧ (r.classed c).pending = some c) ∧
    (r.band ≠ some c → ((r.classed c).classed c).band = some c)) ∧
  (∀ (need n : Nat) (v : Bool), 0 < need →
    let settled : InputRec := { level := some !v, count := 0, sample := none }
    (n < need → ((InputRec.take need v)^[n] settled).level = some !v) ∧
      ((InputRec.take need v)^[need] settled).level = some v ∧
      (n < need → ((InputRec.take need v)^[n] InputRec.unsettled).level = none) ∧
      ((InputRec.take need v)^[need] InputRec.unsettled).level = some v ∧
      (n < need → InputRec.take need (!v) ((InputRec.take need v)^[n] settled) = settled)) ∧
  (∀ (d n : Nat) (pins : BitVec 6) (s : State), s.mon.nextSample = some d → n < 6 → s.motS.moving = false →
    s.power.sleepPending = none → s.tables.p Param.debounce ≤ (s.mon.input n).count + 1 →
    (∀ k < 6, (s.mon.input k).level = some (if k = n then pins.getLsbD k else !pins.getLsbD k)) →
    let at_ := max s.now d
    let active := !pins.getLsbD n
    let masked := (s.tables.p Param.masks % 256).testBit n
    let watched := (n = 0 ∨ n = 4 ∨ n = 5) ∧ (s.tables.p Param.masks / 256).testBit n = true
    let sampled (t : State) : Prop :=
      ∀ k < 6, t.mon.input k =
        if k = n then { level := some active, count := 0, sample := none } else { s.mon.input k with count := 0 }
    let told (l : Link) (es : List Event) (t : State) : Link :=
      if masked = true then l.reported es t.link.chosen else l.reported (es ++ [.inputChange n active]) t.link.chosen
    let halted (c : Channel) : Channel :=
      if c.state = .off then c
      else
        { c with
          state := .off
          coils := 0#4
          gaps := []
          holdTimer := none
          interval := none
          settleEnds := none
          powerEnds := none
          move := none
          stop := .nostop
          held := none }
    (s.power.state = .run → s.link.room 3 →
      ((active = false ∨ n ≠ 2 ∧ n ≠ 3) →
        ∃ t, exec (.inputSample pins) s = .next t ∧ sampled t ∧ t = { s with
          now := at_
          mon := { s.mon with inputs := t.mon.inputs, nextSample := some (at_ + 20000) }
          link := told s.link [] t
          power := s.power.timed t.power }) ∧
      (∀ (e : PrintEntry) (es : List PrintEntry), n = 2 → active = true → s.print.queue = e :: es →
        (s.page e.page).mode = some .keep → s.print.copy.state = .printing → s.print.copy.abandon = .kept →
        s.print.copy.cancelPending = false → s.print.copy.heldMove = none → s.print.copy.rested = false →
        s.motP.moving = true → s.motP.owner = .print → s.motP.held = none →
        (∀ q ∈ s.dram.waiting, q.cls ≠ .printFetch) →
        ∃ t, exec (.inputSample pins) s = .next t ∧ sampled t ∧ t = { s with
          now := at_
          dram := { s.dram with current := t.dram.current }
          motP := { s.motP with stop := if s.motP.stop = .nostop then .pending else s.motP.stop }
          print := { s.print with
            queue := { e with cursor := 0 } :: es
            copy := { s.print.copy with
              abandon := .paper
              stopping := true
              shift := ShiftBuf.none
              fetch := FetchBuf.none } }
          mon := { s.mon with inputs := t.mon.inputs, nextSample := some (at_ + 20000) }
          link := told s.link [] t
          power := s.power.timed t.power }) ∧
      (∀ (e : PrintEntry) (es : List PrintEntry), n = 3 → active = true → s.print.queue = e :: es →
        (s.page e.page).mode = some .keep →
        (s.print.copy.state = .lead ∨ s.print.copy.state = .printing ∨ s.print.copy.state = .paused) →
        s.print.copy.cancelPending = false → s.print.copy.heldMove = none → s.scan.job.state = .idle →
        s.scan.calibration = none → s.scan.readouts = [] → (∀ q ∈ s.dram.waiting, q.cls ≠ .printFetch) →
        ∃ t, exec (.inputSample pins) s = .next t ∧ sampled t ∧ t = { s with
          now := at_
          dram := { s.dram with current := t.dram.current }
          motS := halted s.motS
          motP := halted s.motP
          print := { s.print with
            queue := { e with cursor := 0 } :: es
            hpwr := false
            cutter := false
            seq := .idle
            seqEnds := none
            copy := { s.print.copy with
              state := .suspended
              pause := none
              suspend := some .cover
              stopping := false
              abandon := .kept
              shift := ShiftBuf.none
              fetch := FetchBuf.none
              rested := false
              startEnds := none
              cutEnds := none } }
          mon := { s.mon with inputs := t.mon.inputs, nextSample := some (at_ + 20000) }
          link := told s.link [.printSuspended e.page .cover] t
          power := s.power.timed t.power })) ∧
    (s.power.state = .enteringSleep → s.power.heldWake = none → watched → active = true → s.link.room 1 →
      ∃ t, exec (.inputSample pins) s = .next t ∧ sampled t ∧ t = { s with
        now := at_
        mon := { s.mon with inputs := t.mon.inputs, nextSample := some (at_ + 20000) }
        link := told s.link [] t
        power := ({ s.power with
          heldWake := some (if n = 0 then .docIn else if n = 4 then .ring else .key) } : Power).timed t.power }) ∧
    (s.power.state = .sleep → s.dram.state = .selfRefresh → s.dram.cause = some .sleep → n = 5 → watched →
      active = true → s.link.room 1 →
      ∃ t, exec (.inputSample pins) s = .next t ∧ t = { s with
        now := at_
        dram := { s.dram with
          state := .srExit
          stateEnds := some (at_ + 20 * s.tables.p Param.srExitTime)
          exitAsked := false
          wakeExit := true }
        mon := { s.mon with inputs := t.mon.inputs, nextSample := some (at_ + 20000) }
        link := told s.link [] t
        power := ({ s.power with
          state := .waking
          wakeSource := some .key
          heldWake := none
          wakeTimer := none } : Power).timed t.power } ∧
        (t.mon.input 5).level = some true ∧ ∀ k < 5, (t.mon.input k).level = (s.mon.input k).level)) ∧
  ∀ (d p : Nat) (pins : BitVec 6) (s : State), s.mon.nextSample = some d → s.tables.p Param.debounce ≤ (s.mon.input 3).count + 1 →
    (∀ k < 6, (s.mon.input k).level = some (if k = 3 then pins.getLsbD k else !pins.getLsbD k)) → pins.getLsbD 3 = false →
    s.power.sleepPending = none → s.power.state = .run → s.link.room 3 →
    s.scan.job.state ≠ .idle → s.scan.job.state ≠ .eject →
    s.scan.job.page = some p → p < 32 → s.scan.job.pageClosed = false → s.dram.ending .scanWrite = none →
    (∀ q ∈ s.dram.waiting, q.cls ≠ .scanWrite) → s.unattended → s.print.copy.state = .idle →
    (s.page p).mode = some .keep → (s.page p).retain = some true → (s.page p).filling = false →
    let r := s.page p
    let halted (c : Channel) : Channel :=
      if c.state = .off then c
      else
        { c with
          state := .off
          coils := 0#4
          gaps := []
          holdTimer := none
          interval := none
          settleEnds := none
          powerEnds := none
          move := none
          stop := .nostop
          held := none }
    ∃ t, exec (.inputSample pins) s = .next t ∧ (∀ k < 6, (t.mon.input k).level = some (!pins.getLsbD k)) ∧ t = { s with
        now := max s.now d
        store := s.store.withPage p { r with state := .closed, writer := none, truncated := true }
        dram := { s.dram with current := t.dram.current }
        motS := halted s.motS
        motP := halted s.motP
        scan := { s.scan with
          job := ScanJob.idle
          lamp := false
          writes := []
          readouts := []
          slotA := { s.scan.slotA with use := .free }
          slotB := { s.scan.slotB with use := .free } }
        mon := { s.mon with inputs := t.mon.inputs, nextSample := some (max s.now d + 20000) }
        link :=
          let es := [.pageClosed p r.committed true r.label, .scanAborted p .cover]
          if (s.tables.p Param.masks % 256).testBit 3 = true then s.link.reported es t.link.chosen
          else s.link.reported (es ++ [.inputChange 3 true]) t.link.chosen
        power := s.power.timed t.power }

/-! ### Power states -/

/-- R123, R126, R191 to R193, R181: STANDBY is entered, at the command when no job is active and at the standby timer's end. The
outputs go off, both channels go OFF, the sleep timer starts from SLEEP_DELAY, the auto self-refresh timer from AUTO_SR_DELAY
where the controller is ACTIVE with nothing to transfer (R38), the next round moves to eight periods, of the SENSOR_PERIOD taken
at the last one's start (R185), after that start, or starts at once where that has passed or behind the round that runs (log entry
11), and STANDBY_ENTERED is raised. In STANDBY the command is accepted and changes nothing; with a job active or a sleep pending
it is refused. An aborted job's readout that still runs goes on (log entry 49). It rests on the model's choices of log entries 2,
4, 11, 42 and 49. -/
def Obligations.StandbyEntered : Prop :=
  ∀ (tag : Byte) (last taken : Nat) (s : State),
    (s.power.state = .run → s.power.sleepPending = none → s.motS.moving = false →
      s.mon.lastRound = some { start := last, period := taken } →
      (s.mon.transaction = none → s.tables.sensorEnabled 0 = true) → s.link.room 1 →
      let moved := last + 20000 * (8 * taken)
      let delay := s.tables.p Param.autoSrDelay
      let entered (at_ : Nat) (t : State) : State :=
        { s with
          now := at_
          dram :=
            if s.dram.state = .active ∧ s.dram.waiting = [] ∧ s.dram.transferring = false ∧ s.dram.sleepOrder = false ∧
                s.dram.autoDue = false ∧ delay ≠ 0 then
              { s.dram with autoTimer := some (at_ + 20000 * delay) }
            else s.dram
          motS := s.motS.switchOff
          motP := s.motP.switchOff
          scan := { s.scan with lamp := false }
          print := { s.print with hpwr := false, cutter := false, seq := .idle, seqEnds := none }
          mon :=
            if at_ < moved then { s.mon with nextRound := some moved }
            else
              { s.mon with
                lastRound := some { start := at_, period := s.tables.p Param.sensorPeriod }
                nextRound := some (at_ + 20000 * (8 * s.tables.p Param.sensorPeriod))
                roundQueued := if s.mon.transaction = none then s.mon.roundQueued else true
                transaction :=
                  if s.mon.transaction = none then
                    some { channel := 0, endsAt := at_ + 200, masked := s.tables.sensorMasked 0 }
                  else s.mon.transaction }
          power := { s.power with
            state := .standby
            standbyTimer := none
            quiet := false
            sleepTimer :=
              if s.tables.p Param.sleepDelay = 0 then none
              else some (at_ + 1200000000 * s.tables.p Param.sleepDelay) }
          link := t.link }
      (s.takesCommand = true → s.noJob = true →
        ∃ t, exec (.standby tag) s = .next t ∧ t = entered s.now t ∧
          t.link = (s.link.replied tag 0x1C#8 .accepted [] none).reported [.standbyEntered] t.link.chosen) ∧
      ∀ d, s.power.standbyTimer = some d →
        ∃ t, exec .standbyTimerExpiry s = .next t ∧ t = entered (max s.now d) t ∧
          t.link = s.link.reported [.standbyEntered] t.link.chosen) ∧
    (s.takesCommand = true → s.power.state = .standby → s.power.sleepPending = none → s.noJob = true →
      ∃ t, exec (.standby tag) s = .next t ∧ t = { s with link := s.link.replied tag 0x1C#8 .accepted [] t.link.chosen }) ∧
    (s.takesCommand = true →
      (s.power.state ≠ .run ∧ s.power.state ≠ .standby) ∨ s.power.sleepPending ≠ none ∨ s.noJob = false →
      ∃ t, exec (.standby tag) s = .next t ∧ t = { s with
        link := s.link.replied tag 0x1C#8 .wrongState [] t.link.chosen })

/-- R180, R195 to R197: sleep is asked for, by SLEEP or by the sleep timer in STANDBY. A quiescent machine enters ENTERING_SLEEP
at once, with its outputs and channels off and 2 ms for the host's last bytes; any other waits up to SLEEP_WAIT seconds with its
timers stopped. At that deadline the sleep is given up and SLEEP_ABANDONED raised. DRDY is dropped at a record boundary with the
downstream FIFO empty, or at the 2 ms bound. An aborted job's readout that still runs goes on (log entry 49). It rests on the
model's choices of log entries 2, 4, 31, 42 and 49. -/
def Obligations.SleepAsked : Prop :=
  ∀ (tag : Byte) (d : Nat) (s : State), s.power.state = .run ∨ s.power.state = .standby ∨ s.power.state = .enteringSleep →
    s.motS.moving = false →
    let entering (at_ : Nat) (t : State) : State :=
      { s with
        now := at_
        dram := { s.dram with autoTimer := none }
        motS := s.motS.switchOff
        motP := s.motP.switchOff
        scan := { s.scan with lamp := false }
        print := { s.print with hpwr := false, cutter := false, seq := .idle, seqEnds := none }
        power := { s.power with
          origin := some s.power.state
          state := .enteringSleep
          sleepPending := none
          standbyTimer := none
          sleepTimer := none
          quiet := false
          heldWake := none
          drdyDropped := false
          drdyBound := some (at_ + 40000)
          ordered := false }
        link := t.link }
    (s.takesCommand = true → s.power.state ≠ .enteringSleep → s.power.sleepPending = none → s.quiescent = true →
      ∃ t, exec (.sleep tag) s = .next t ∧ t = entering s.now t ∧
        t.link = s.link.replied tag 0x1D#8 .accepted [0#8] t.link.chosen) ∧
    (s.takesCommand = true → s.power.state ≠ .enteringSleep → s.power.sleepPending = none → s.quiescent = false →
      ∃ t, exec (.sleep tag) s = .next t ∧ t = { s with
        link := s.link.replied tag 0x1D#8 .accepted [1#8] t.link.chosen
        power := { s.power with
          sleepPending := some (s.now + 20000000 * s.tables.p Param.sleepWait)
          standbyTimer := none
          sleepTimer := none
          quiet := false } }) ∧
    (s.power.state = .standby → s.power.sleepTimer = some d → s.quiescent = true →
      ∃ t, exec .sleepTimerExpiry s = .next t ∧ t = entering (max s.now d) t ∧ t.link = s.link) ∧
    (s.power.state = .run → s.power.sleepPending = some d → s.link.room 1 →
      ∃ t, exec .sleepDeadlineExpiry s = .next t ∧ t = { s with
        now := max s.now d
        link := s.link.reported [.sleepAbandoned] t.link.chosen
        power := ({ s.power with sleepPending := none } : Power).timed t.power }) ∧
    (s.power.state = .enteringSleep → s.power.drdyDropped = false → s.link.parser = Parser.ready → s.link.down = [] →
      exec .downstreamReadyDrop s =
        .next { s with power := { s.power with drdyDropped := true, drdyBound := none } }) ∧
    (s.power.state = .enteringSleep → s.power.drdyDropped = false → s.power.drdyBound = some d →
      exec .drdyDropBoundExpiry s = .next { s with
        now := max s.now d
        power := { s.power with drdyDropped := true, drdyBound := none } })

/-- R39, R42, R43, R135, R198 to R200: with DRDY dropped and the link writer free the sleep order begins SR_ENTRY with cause
SLEEP; its end is SLEEP, with HSTBY asserted, the wake timer started and the rounds stopped; the wake timer's end gives the wake
order; and the end of SR_EXIT is STANDBY, with a round started and WOKE raised. It rests on the model's choices of log entries 2,
16 and 31. -/
def Obligations.SleepAndWake : Prop :=
  ∀ (d : Nat) (s : State),
    (s.power.state = .enteringSleep → s.power.drdyDropped = true → s.power.ordered = false → s.link.writer = none →
      s.dram.state = .active → s.dram.current = none → s.dram.waiting = [] → s.dram.heldBanks = none →
      exec .sleepOrder s = .next { s with
        dram := { s.dram with
          state := .srEntry
          stateEnds := some (s.now + 4)
          cause := some .sleep
          debt := 0
          nextTick := none
          rowHold := []
          autoTimer := none
          autoDue := false
          sleepOrder := false }
        power := { s.power with ordered := true } }) ∧
    (s.power.state = .enteringSleep → s.power.heldWake = none → s.dram.state = .srEntry → s.dram.stateEnds = some d →
      s.dram.cause = some .sleep →
      ∃ t, exec .srEntryEnd s = .next t ∧ t = { s with
        now := max s.now d
        dram := { s.dram with state := .selfRefresh, stateEnds := none }
        mon := { s.mon with inputs := t.mon.inputs, nextRound := none, roundQueued := false }
        power := { s.power with
          state := .sleep
          hstby := true
          origin := none
          ordered := false
          wakeTimer :=
            if s.tables.p Param.wakeTimer = 0 then none
            else some (max s.now d + 1200000000 * s.tables.p Param.wakeTimer) } } ∧
        ∀ n < 6, (t.mon.input n).level = (s.mon.input n).level) ∧
    (s.power.state = .sleep → s.power.wakeTimer = some d → s.dram.state = .selfRefresh → s.dram.cause = some .sleep →
      exec .wakeTimerExpiry s = .next { s with
        now := max s.now d
        dram := { s.dram with
          state := .srExit
          stateEnds := some (max s.now d + 20 * s.tables.p Param.srExitTime)
          exitAsked := false
          wakeExit := true }
        power := { s.power with state := .waking, wakeSource := some .timer, heldWake := none, wakeTimer := none } }) ∧
    (∀ w : WakeSource, w ≠ .wrst → s.power.state = .waking → s.power.wakeSource = some w → s.dram.state = .srExit →
      s.dram.stateEnds = some d → s.dram.wakeExit = true → s.dram.current = none → s.dram.waiting = [] →
      s.dram.sleepOrder = false → s.dram.autoDue = false → s.dram.heldBanks = none → s.mon.transaction = none →
      s.tables.sensorEnabled 0 = true → s.link.room 1 →
      ∃ t, exec .srExitEnd s = .next t ∧ t = { s with
        now := max s.now d
        dram := { s.dram with
          state := .active
          stateEnds := none
          cause := none
          debt := 0
          rowHold := []
          nextTick := some (max s.now d + 20 * s.tables.p Param.refreshInterval)
          exitAsked := false
          wakeExit := false
          autoTimer :=
            if s.tables.p Param.autoSrDelay = 0 then s.dram.autoTimer
            else some (max s.now d + 20000 * s.tables.p Param.autoSrDelay) }
        mon := { s.mon with
          transaction := some { channel := 0, endsAt := max s.now d + 200, masked := s.tables.sensorMasked 0 }
          lastRound := some { start := max s.now d, period := s.tables.p Param.sensorPeriod }
          nextRound := some (max s.now d + 20000 * (8 * s.tables.p Param.sensorPeriod)) }
        link := s.link.reported [.woke w] t.link.chosen
        power := { s.power with
          state := .standby
          hstby := false
          wakeSource := none
          drdyDropped := false
          sleepTimer :=
            if s.tables.p Param.sleepDelay = 0 then none
            else some (max s.now d + 1200000000 * s.tables.p Param.sleepDelay) } })
end

