-- ==== Sys2Proof/Laws/State.lean ====
section
/-! SUPPORT. What each update of a part of State leaves in each field, true by unfolding, so that no later proof unfolds one. -/

namespace Sys2Proof.Machine

variable (s : State)

/-! ### State.withNow -/

@[simp] theorem State.withNow_now (x : Nat) : (s.withNow x).now = x := rfl
@[simp] theorem State.withNow_pending (x : Nat) : (s.withNow x).pending = s.pending := rfl
@[simp] theorem State.withNow_mem (x : Nat) : (s.withNow x).mem = s.mem := rfl
@[simp] theorem State.withNow_tables (x : Nat) : (s.withNow x).tables = s.tables := rfl
@[simp] theorem State.withNow_store (x : Nat) : (s.withNow x).store = s.store := rfl
@[simp] theorem State.withNow_dram (x : Nat) : (s.withNow x).dram = s.dram := rfl
@[simp] theorem State.withNow_motS (x : Nat) : (s.withNow x).motS = s.motS := rfl
@[simp] theorem State.withNow_motP (x : Nat) : (s.withNow x).motP = s.motP := rfl
@[simp] theorem State.withNow_scan (x : Nat) : (s.withNow x).scan = s.scan := rfl
@[simp] theorem State.withNow_print (x : Nat) : (s.withNow x).print = s.print := rfl
@[simp] theorem State.withNow_mon (x : Nat) : (s.withNow x).mon = s.mon := rfl
@[simp] theorem State.withNow_link (x : Nat) : (s.withNow x).link = s.link := rfl
@[simp] theorem State.withNow_power (x : Nat) : (s.withNow x).power = s.power := rfl

/-! ### State.withPending -/

@[simp] theorem State.withPending_now (x : List Instr) : (s.withPending x).now = s.now := rfl
@[simp] theorem State.withPending_pending (x : List Instr) : (s.withPending x).pending = x := rfl
@[simp] theorem State.withPending_mem (x : List Instr) : (s.withPending x).mem = s.mem := rfl
@[simp] theorem State.withPending_tables (x : List Instr) : (s.withPending x).tables = s.tables := rfl
@[simp] theorem State.withPending_store (x : List Instr) : (s.withPending x).store = s.store := rfl
@[simp] theorem State.withPending_dram (x : List Instr) : (s.withPending x).dram = s.dram := rfl
@[simp] theorem State.withPending_motS (x : List Instr) : (s.withPending x).motS = s.motS := rfl
@[simp] theorem State.withPending_motP (x : List Instr) : (s.withPending x).motP = s.motP := rfl
@[simp] theorem State.withPending_scan (x : List Instr) : (s.withPending x).scan = s.scan := rfl
@[simp] theorem State.withPending_print (x : List Instr) : (s.withPending x).print = s.print := rfl
@[simp] theorem State.withPending_mon (x : List Instr) : (s.withPending x).mon = s.mon := rfl
@[simp] theorem State.withPending_link (x : List Instr) : (s.withPending x).link = s.link := rfl
@[simp] theorem State.withPending_power (x : List Instr) : (s.withPending x).power = s.power := rfl

/-! ### State.withMem -/

@[simp] theorem State.withMem_now (x : Memory) : (s.withMem x).now = s.now := rfl
@[simp] theorem State.withMem_pending (x : Memory) : (s.withMem x).pending = s.pending := rfl
@[simp] theorem State.withMem_mem (x : Memory) : (s.withMem x).mem = x := rfl
@[simp] theorem State.withMem_tables (x : Memory) : (s.withMem x).tables = s.tables := rfl
@[simp] theorem State.withMem_store (x : Memory) : (s.withMem x).store = s.store := rfl
@[simp] theorem State.withMem_dram (x : Memory) : (s.withMem x).dram = s.dram := rfl
@[simp] theorem State.withMem_motS (x : Memory) : (s.withMem x).motS = s.motS := rfl
@[simp] theorem State.withMem_motP (x : Memory) : (s.withMem x).motP = s.motP := rfl
@[simp] theorem State.withMem_scan (x : Memory) : (s.withMem x).scan = s.scan := rfl
@[simp] theorem State.withMem_print (x : Memory) : (s.withMem x).print = s.print := rfl
@[simp] theorem State.withMem_mon (x : Memory) : (s.withMem x).mon = s.mon := rfl
@[simp] theorem State.withMem_link (x : Memory) : (s.withMem x).link = s.link := rfl
@[simp] theorem State.withMem_power (x : Memory) : (s.withMem x).power = s.power := rfl

/-! ### State.withTables -/

@[simp] theorem State.withTables_now (x : Tables) : (s.withTables x).now = s.now := rfl
@[simp] theorem State.withTables_pending (x : Tables) : (s.withTables x).pending = s.pending := rfl
@[simp] theorem State.withTables_mem (x : Tables) : (s.withTables x).mem = s.mem := rfl
@[simp] theorem State.withTables_tables (x : Tables) : (s.withTables x).tables = x := rfl
@[simp] theorem State.withTables_store (x : Tables) : (s.withTables x).store = s.store := rfl
@[simp] theorem State.withTables_dram (x : Tables) : (s.withTables x).dram = s.dram := rfl
@[simp] theorem State.withTables_motS (x : Tables) : (s.withTables x).motS = s.motS := rfl
@[simp] theorem State.withTables_motP (x : Tables) : (s.withTables x).motP = s.motP := rfl
@[simp] theorem State.withTables_scan (x : Tables) : (s.withTables x).scan = s.scan := rfl
@[simp] theorem State.withTables_print (x : Tables) : (s.withTables x).print = s.print := rfl
@[simp] theorem State.withTables_mon (x : Tables) : (s.withTables x).mon = s.mon := rfl
@[simp] theorem State.withTables_link (x : Tables) : (s.withTables x).link = s.link := rfl
@[simp] theorem State.withTables_power (x : Tables) : (s.withTables x).power = s.power := rfl

/-! ### State.withStore -/

@[simp] theorem State.withStore_now (x : PageStore) : (s.withStore x).now = s.now := rfl
@[simp] theorem State.withStore_pending (x : PageStore) : (s.withStore x).pending = s.pending := rfl
@[simp] theorem State.withStore_mem (x : PageStore) : (s.withStore x).mem = s.mem := rfl
@[simp] theorem State.withStore_tables (x : PageStore) : (s.withStore x).tables = s.tables := rfl
@[simp] theorem State.withStore_store (x : PageStore) : (s.withStore x).store = x := rfl
@[simp] theorem State.withStore_dram (x : PageStore) : (s.withStore x).dram = s.dram := rfl
@[simp] theorem State.withStore_motS (x : PageStore) : (s.withStore x).motS = s.motS := rfl
@[simp] theorem State.withStore_motP (x : PageStore) : (s.withStore x).motP = s.motP := rfl
@[simp] theorem State.withStore_scan (x : PageStore) : (s.withStore x).scan = s.scan := rfl
@[simp] theorem State.withStore_print (x : PageStore) : (s.withStore x).print = s.print := rfl
@[simp] theorem State.withStore_mon (x : PageStore) : (s.withStore x).mon = s.mon := rfl
@[simp] theorem State.withStore_link (x : PageStore) : (s.withStore x).link = s.link := rfl
@[simp] theorem State.withStore_power (x : PageStore) : (s.withStore x).power = s.power := rfl

/-! ### State.withDram -/

@[simp] theorem State.withDram_now (x : Dram) : (s.withDram x).now = s.now := rfl
@[simp] theorem State.withDram_pending (x : Dram) : (s.withDram x).pending = s.pending := rfl
@[simp] theorem State.withDram_mem (x : Dram) : (s.withDram x).mem = s.mem := rfl
@[simp] theorem State.withDram_tables (x : Dram) : (s.withDram x).tables = s.tables := rfl
@[simp] theorem State.withDram_store (x : Dram) : (s.withDram x).store = s.store := rfl
@[simp] theorem State.withDram_dram (x : Dram) : (s.withDram x).dram = x := rfl
@[simp] theorem State.withDram_motS (x : Dram) : (s.withDram x).motS = s.motS := rfl
@[simp] theorem State.withDram_motP (x : Dram) : (s.withDram x).motP = s.motP := rfl
@[simp] theorem State.withDram_scan (x : Dram) : (s.withDram x).scan = s.scan := rfl
@[simp] theorem State.withDram_print (x : Dram) : (s.withDram x).print = s.print := rfl
@[simp] theorem State.withDram_mon (x : Dram) : (s.withDram x).mon = s.mon := rfl
@[simp] theorem State.withDram_link (x : Dram) : (s.withDram x).link = s.link := rfl
@[simp] theorem State.withDram_power (x : Dram) : (s.withDram x).power = s.power := rfl

/-! ### State.withMotS -/

@[simp] theorem State.withMotS_now (x : Channel) : (s.withMotS x).now = s.now := rfl
@[simp] theorem State.withMotS_pending (x : Channel) : (s.withMotS x).pending = s.pending := rfl
@[simp] theorem State.withMotS_mem (x : Channel) : (s.withMotS x).mem = s.mem := rfl
@[simp] theorem State.withMotS_tables (x : Channel) : (s.withMotS x).tables = s.tables := rfl
@[simp] theorem State.withMotS_store (x : Channel) : (s.withMotS x).store = s.store := rfl
@[simp] theorem State.withMotS_dram (x : Channel) : (s.withMotS x).dram = s.dram := rfl
@[simp] theorem State.withMotS_motS (x : Channel) : (s.withMotS x).motS = x := rfl
@[simp] theorem State.withMotS_motP (x : Channel) : (s.withMotS x).motP = s.motP := rfl
@[simp] theorem State.withMotS_scan (x : Channel) : (s.withMotS x).scan = s.scan := rfl
@[simp] theorem State.withMotS_print (x : Channel) : (s.withMotS x).print = s.print := rfl
@[simp] theorem State.withMotS_mon (x : Channel) : (s.withMotS x).mon = s.mon := rfl
@[simp] theorem State.withMotS_link (x : Channel) : (s.withMotS x).link = s.link := rfl
@[simp] theorem State.withMotS_power (x : Channel) : (s.withMotS x).power = s.power := rfl

/-! ### State.withMotP -/

@[simp] theorem State.withMotP_now (x : Channel) : (s.withMotP x).now = s.now := rfl
@[simp] theorem State.withMotP_pending (x : Channel) : (s.withMotP x).pending = s.pending := rfl
@[simp] theorem State.withMotP_mem (x : Channel) : (s.withMotP x).mem = s.mem := rfl
@[simp] theorem State.withMotP_tables (x : Channel) : (s.withMotP x).tables = s.tables := rfl
@[simp] theorem State.withMotP_store (x : Channel) : (s.withMotP x).store = s.store := rfl
@[simp] theorem State.withMotP_dram (x : Channel) : (s.withMotP x).dram = s.dram := rfl
@[simp] theorem State.withMotP_motS (x : Channel) : (s.withMotP x).motS = s.motS := rfl
@[simp] theorem State.withMotP_motP (x : Channel) : (s.withMotP x).motP = x := rfl
@[simp] theorem State.withMotP_scan (x : Channel) : (s.withMotP x).scan = s.scan := rfl
@[simp] theorem State.withMotP_print (x : Channel) : (s.withMotP x).print = s.print := rfl
@[simp] theorem State.withMotP_mon (x : Channel) : (s.withMotP x).mon = s.mon := rfl
@[simp] theorem State.withMotP_link (x : Channel) : (s.withMotP x).link = s.link := rfl
@[simp] theorem State.withMotP_power (x : Channel) : (s.withMotP x).power = s.power := rfl

/-! ### State.withScan -/

@[simp] theorem State.withScan_now (x : ScanUnit) : (s.withScan x).now = s.now := rfl
@[simp] theorem State.withScan_pending (x : ScanUnit) : (s.withScan x).pending = s.pending := rfl
@[simp] theorem State.withScan_mem (x : ScanUnit) : (s.withScan x).mem = s.mem := rfl
@[simp] theorem State.withScan_tables (x : ScanUnit) : (s.withScan x).tables = s.tables := rfl
@[simp] theorem State.withScan_store (x : ScanUnit) : (s.withScan x).store = s.store := rfl
@[simp] theorem State.withScan_dram (x : ScanUnit) : (s.withScan x).dram = s.dram := rfl
@[simp] theorem State.withScan_motS (x : ScanUnit) : (s.withScan x).motS = s.motS := rfl
@[simp] theorem State.withScan_motP (x : ScanUnit) : (s.withScan x).motP = s.motP := rfl
@[simp] theorem State.withScan_scan (x : ScanUnit) : (s.withScan x).scan = x := rfl
@[simp] theorem State.withScan_print (x : ScanUnit) : (s.withScan x).print = s.print := rfl
@[simp] theorem State.withScan_mon (x : ScanUnit) : (s.withScan x).mon = s.mon := rfl
@[simp] theorem State.withScan_link (x : ScanUnit) : (s.withScan x).link = s.link := rfl
@[simp] theorem State.withScan_power (x : ScanUnit) : (s.withScan x).power = s.power := rfl

/-! ### State.withPrint -/

@[simp] theorem State.withPrint_now (x : PrintUnit) : (s.withPrint x).now = s.now := rfl
@[simp] theorem State.withPrint_pending (x : PrintUnit) : (s.withPrint x).pending = s.pending := rfl
@[simp] theorem State.withPrint_mem (x : PrintUnit) : (s.withPrint x).mem = s.mem := rfl
@[simp] theorem State.withPrint_tables (x : PrintUnit) : (s.withPrint x).tables = s.tables := rfl
@[simp] theorem State.withPrint_store (x : PrintUnit) : (s.withPrint x).store = s.store := rfl
@[simp] theorem State.withPrint_dram (x : PrintUnit) : (s.withPrint x).dram = s.dram := rfl
@[simp] theorem State.withPrint_motS (x : PrintUnit) : (s.withPrint x).motS = s.motS := rfl
@[simp] theorem State.withPrint_motP (x : PrintUnit) : (s.withPrint x).motP = s.motP := rfl
@[simp] theorem State.withPrint_scan (x : PrintUnit) : (s.withPrint x).scan = s.scan := rfl
@[simp] theorem State.withPrint_print (x : PrintUnit) : (s.withPrint x).print = x := rfl
@[simp] theorem State.withPrint_mon (x : PrintUnit) : (s.withPrint x).mon = s.mon := rfl
@[simp] theorem State.withPrint_link (x : PrintUnit) : (s.withPrint x).link = s.link := rfl
@[simp] theorem State.withPrint_power (x : PrintUnit) : (s.withPrint x).power = s.power := rfl

/-! ### State.withMon -/

@[simp] theorem State.withMon_now (x : Monitor) : (s.withMon x).now = s.now := rfl
@[simp] theorem State.withMon_pending (x : Monitor) : (s.withMon x).pending = s.pending := rfl
@[simp] theorem State.withMon_mem (x : Monitor) : (s.withMon x).mem = s.mem := rfl
@[simp] theorem State.withMon_tables (x : Monitor) : (s.withMon x).tables = s.tables := rfl
@[simp] theorem State.withMon_store (x : Monitor) : (s.withMon x).store = s.store := rfl
@[simp] theorem State.withMon_dram (x : Monitor) : (s.withMon x).dram = s.dram := rfl
@[simp] theorem State.withMon_motS (x : Monitor) : (s.withMon x).motS = s.motS := rfl
@[simp] theorem State.withMon_motP (x : Monitor) : (s.withMon x).motP = s.motP := rfl
@[simp] theorem State.withMon_scan (x : Monitor) : (s.withMon x).scan = s.scan := rfl
@[simp] theorem State.withMon_print (x : Monitor) : (s.withMon x).print = s.print := rfl
@[simp] theorem State.withMon_mon (x : Monitor) : (s.withMon x).mon = x := rfl
@[simp] theorem State.withMon_link (x : Monitor) : (s.withMon x).link = s.link := rfl
@[simp] theorem State.withMon_power (x : Monitor) : (s.withMon x).power = s.power := rfl

/-! ### State.withLink -/

@[simp] theorem State.withLink_now (x : Link) : (s.withLink x).now = s.now := rfl
@[simp] theorem State.withLink_pending (x : Link) : (s.withLink x).pending = s.pending := rfl
@[simp] theorem State.withLink_mem (x : Link) : (s.withLink x).mem = s.mem := rfl
@[simp] theorem State.withLink_tables (x : Link) : (s.withLink x).tables = s.tables := rfl
@[simp] theorem State.withLink_store (x : Link) : (s.withLink x).store = s.store := rfl
@[simp] theorem State.withLink_dram (x : Link) : (s.withLink x).dram = s.dram := rfl
@[simp] theorem State.withLink_motS (x : Link) : (s.withLink x).motS = s.motS := rfl
@[simp] theorem State.withLink_motP (x : Link) : (s.withLink x).motP = s.motP := rfl
@[simp] theorem State.withLink_scan (x : Link) : (s.withLink x).scan = s.scan := rfl
@[simp] theorem State.withLink_print (x : Link) : (s.withLink x).print = s.print := rfl
@[simp] theorem State.withLink_mon (x : Link) : (s.withLink x).mon = s.mon := rfl
@[simp] theorem State.withLink_link (x : Link) : (s.withLink x).link = x := rfl
@[simp] theorem State.withLink_power (x : Link) : (s.withLink x).power = s.power := rfl

/-! ### State.withPower -/

@[simp] theorem State.withPower_now (x : Power) : (s.withPower x).now = s.now := rfl
@[simp] theorem State.withPower_pending (x : Power) : (s.withPower x).pending = s.pending := rfl
@[simp] theorem State.withPower_mem (x : Power) : (s.withPower x).mem = s.mem := rfl
@[simp] theorem State.withPower_tables (x : Power) : (s.withPower x).tables = s.tables := rfl
@[simp] theorem State.withPower_store (x : Power) : (s.withPower x).store = s.store := rfl
@[simp] theorem State.withPower_dram (x : Power) : (s.withPower x).dram = s.dram := rfl
@[simp] theorem State.withPower_motS (x : Power) : (s.withPower x).motS = s.motS := rfl
@[simp] theorem State.withPower_motP (x : Power) : (s.withPower x).motP = s.motP := rfl
@[simp] theorem State.withPower_scan (x : Power) : (s.withPower x).scan = s.scan := rfl
@[simp] theorem State.withPower_print (x : Power) : (s.withPower x).print = s.print := rfl
@[simp] theorem State.withPower_mon (x : Power) : (s.withPower x).mon = s.mon := rfl
@[simp] theorem State.withPower_link (x : Power) : (s.withPower x).link = s.link := rfl
@[simp] theorem State.withPower_power (x : Power) : (s.withPower x).power = x := rfl

/-! ### State.withJob -/

@[simp] theorem State.withJob_now (j : ScanJob) : (s.withJob j).now = s.now := rfl
@[simp] theorem State.withJob_pending (j : ScanJob) : (s.withJob j).pending = s.pending := rfl
@[simp] theorem State.withJob_mem (j : ScanJob) : (s.withJob j).mem = s.mem := rfl
@[simp] theorem State.withJob_tables (j : ScanJob) : (s.withJob j).tables = s.tables := rfl
@[simp] theorem State.withJob_store (j : ScanJob) : (s.withJob j).store = s.store := rfl
@[simp] theorem State.withJob_dram (j : ScanJob) : (s.withJob j).dram = s.dram := rfl
@[simp] theorem State.withJob_motS (j : ScanJob) : (s.withJob j).motS = s.motS := rfl
@[simp] theorem State.withJob_motP (j : ScanJob) : (s.withJob j).motP = s.motP := rfl
@[simp] theorem State.withJob_scan (j : ScanJob) : (s.withJob j).scan = { s.scan with job := j } := rfl
@[simp] theorem State.withJob_print (j : ScanJob) : (s.withJob j).print = s.print := rfl
@[simp] theorem State.withJob_mon (j : ScanJob) : (s.withJob j).mon = s.mon := rfl
@[simp] theorem State.withJob_link (j : ScanJob) : (s.withJob j).link = s.link := rfl
@[simp] theorem State.withJob_power (j : ScanJob) : (s.withJob j).power = s.power := rfl

/-! ### State.withCopy -/

@[simp] theorem State.withCopy_now (c : CopyRec) : (s.withCopy c).now = s.now := rfl
@[simp] theorem State.withCopy_pending (c : CopyRec) : (s.withCopy c).pending = s.pending := rfl
@[simp] theorem State.withCopy_mem (c : CopyRec) : (s.withCopy c).mem = s.mem := rfl
@[simp] theorem State.withCopy_tables (c : CopyRec) : (s.withCopy c).tables = s.tables := rfl
@[simp] theorem State.withCopy_store (c : CopyRec) : (s.withCopy c).store = s.store := rfl
@[simp] theorem State.withCopy_dram (c : CopyRec) : (s.withCopy c).dram = s.dram := rfl
@[simp] theorem State.withCopy_motS (c : CopyRec) : (s.withCopy c).motS = s.motS := rfl
@[simp] theorem State.withCopy_motP (c : CopyRec) : (s.withCopy c).motP = s.motP := rfl
@[simp] theorem State.withCopy_scan (c : CopyRec) : (s.withCopy c).scan = s.scan := rfl
@[simp] theorem State.withCopy_print (c : CopyRec) : (s.withCopy c).print = { s.print with copy := c } := rfl
@[simp] theorem State.withCopy_mon (c : CopyRec) : (s.withCopy c).mon = s.mon := rfl
@[simp] theorem State.withCopy_link (c : CopyRec) : (s.withCopy c).link = s.link := rfl
@[simp] theorem State.withCopy_power (c : CopyRec) : (s.withCopy c).power = s.power := rfl

/-! ### State.withEntry -/

@[simp] theorem State.withEntry_now (e : PrintEntry) : (s.withEntry e).now = s.now := rfl
@[simp] theorem State.withEntry_pending (e : PrintEntry) : (s.withEntry e).pending = s.pending := rfl
@[simp] theorem State.withEntry_mem (e : PrintEntry) : (s.withEntry e).mem = s.mem := rfl
@[simp] theorem State.withEntry_tables (e : PrintEntry) : (s.withEntry e).tables = s.tables := rfl
@[simp] theorem State.withEntry_store (e : PrintEntry) : (s.withEntry e).store = s.store := rfl
@[simp] theorem State.withEntry_dram (e : PrintEntry) : (s.withEntry e).dram = s.dram := rfl
@[simp] theorem State.withEntry_motS (e : PrintEntry) : (s.withEntry e).motS = s.motS := rfl
@[simp] theorem State.withEntry_motP (e : PrintEntry) : (s.withEntry e).motP = s.motP := rfl
@[simp] theorem State.withEntry_scan (e : PrintEntry) : (s.withEntry e).scan = s.scan := rfl
@[simp] theorem State.withEntry_print (e : PrintEntry) : (s.withEntry e).print = { s.print with queue := e :: s.print.queue.tail } := rfl
@[simp] theorem State.withEntry_mon (e : PrintEntry) : (s.withEntry e).mon = s.mon := rfl
@[simp] theorem State.withEntry_link (e : PrintEntry) : (s.withEntry e).link = s.link := rfl
@[simp] theorem State.withEntry_power (e : PrintEntry) : (s.withEntry e).power = s.power := rfl

/-! ### State.withReadBuf -/

@[simp] theorem State.withReadBuf_now (b : ReadBuf) : (s.withReadBuf b).now = s.now := rfl
@[simp] theorem State.withReadBuf_pending (b : ReadBuf) : (s.withReadBuf b).pending = s.pending := rfl
@[simp] theorem State.withReadBuf_mem (b : ReadBuf) : (s.withReadBuf b).mem = s.mem := rfl
@[simp] theorem State.withReadBuf_tables (b : ReadBuf) : (s.withReadBuf b).tables = s.tables := rfl
@[simp] theorem State.withReadBuf_store (b : ReadBuf) : (s.withReadBuf b).store = s.store := rfl
@[simp] theorem State.withReadBuf_dram (b : ReadBuf) : (s.withReadBuf b).dram = s.dram := rfl
@[simp] theorem State.withReadBuf_motS (b : ReadBuf) : (s.withReadBuf b).motS = s.motS := rfl
@[simp] theorem State.withReadBuf_motP (b : ReadBuf) : (s.withReadBuf b).motP = s.motP := rfl
@[simp] theorem State.withReadBuf_scan (b : ReadBuf) : (s.withReadBuf b).scan = s.scan := rfl
@[simp] theorem State.withReadBuf_print (b : ReadBuf) : (s.withReadBuf b).print = s.print := rfl
@[simp] theorem State.withReadBuf_mon (b : ReadBuf) : (s.withReadBuf b).mon = s.mon := rfl
@[simp] theorem State.withReadBuf_link (b : ReadBuf) : (s.withReadBuf b).link = { s.link with readBuf := b } := rfl
@[simp] theorem State.withReadBuf_power (b : ReadBuf) : (s.withReadBuf b).power = s.power := rfl

/-! ### State.withReads -/

@[simp] theorem State.withReads_now (es : List ReadEntry) : (s.withReads es).now = s.now := rfl
@[simp] theorem State.withReads_pending (es : List ReadEntry) : (s.withReads es).pending = s.pending := rfl
@[simp] theorem State.withReads_mem (es : List ReadEntry) : (s.withReads es).mem = s.mem := rfl
@[simp] theorem State.withReads_tables (es : List ReadEntry) : (s.withReads es).tables = s.tables := rfl
@[simp] theorem State.withReads_store (es : List ReadEntry) : (s.withReads es).store = s.store := rfl
@[simp] theorem State.withReads_dram (es : List ReadEntry) : (s.withReads es).dram = s.dram := rfl
@[simp] theorem State.withReads_motS (es : List ReadEntry) : (s.withReads es).motS = s.motS := rfl
@[simp] theorem State.withReads_motP (es : List ReadEntry) : (s.withReads es).motP = s.motP := rfl
@[simp] theorem State.withReads_scan (es : List ReadEntry) : (s.withReads es).scan = s.scan := rfl
@[simp] theorem State.withReads_print (es : List ReadEntry) : (s.withReads es).print = s.print := rfl
@[simp] theorem State.withReads_mon (es : List ReadEntry) : (s.withReads es).mon = s.mon := rfl
@[simp] theorem State.withReads_link (es : List ReadEntry) : (s.withReads es).link = { s.link with reads := es } := rfl
@[simp] theorem State.withReads_power (es : List ReadEntry) : (s.withReads es).power = s.power := rfl

/-! ### State.withWriter -/

@[simp] theorem State.withWriter_now (j : Option LinkJob) : (s.withWriter j).now = s.now := rfl
@[simp] theorem State.withWriter_pending (j : Option LinkJob) : (s.withWriter j).pending = s.pending := rfl
@[simp] theorem State.withWriter_mem (j : Option LinkJob) : (s.withWriter j).mem = s.mem := rfl
@[simp] theorem State.withWriter_tables (j : Option LinkJob) : (s.withWriter j).tables = s.tables := rfl
@[simp] theorem State.withWriter_store (j : Option LinkJob) : (s.withWriter j).store = s.store := rfl
@[simp] theorem State.withWriter_dram (j : Option LinkJob) : (s.withWriter j).dram = s.dram := rfl
@[simp] theorem State.withWriter_motS (j : Option LinkJob) : (s.withWriter j).motS = s.motS := rfl
@[simp] theorem State.withWriter_motP (j : Option LinkJob) : (s.withWriter j).motP = s.motP := rfl
@[simp] theorem State.withWriter_scan (j : Option LinkJob) : (s.withWriter j).scan = s.scan := rfl
@[simp] theorem State.withWriter_print (j : Option LinkJob) : (s.withWriter j).print = s.print := rfl
@[simp] theorem State.withWriter_mon (j : Option LinkJob) : (s.withWriter j).mon = s.mon := rfl
@[simp] theorem State.withWriter_link (j : Option LinkJob) : (s.withWriter j).link = { s.link with writer := j } := rfl
@[simp] theorem State.withWriter_power (j : Option LinkJob) : (s.withWriter j).power = s.power := rfl

/-! ### State.withParser -/

@[simp] theorem State.withParser_now (p : Parser) : (s.withParser p).now = s.now := rfl
@[simp] theorem State.withParser_pending (p : Parser) : (s.withParser p).pending = s.pending := rfl
@[simp] theorem State.withParser_mem (p : Parser) : (s.withParser p).mem = s.mem := rfl
@[simp] theorem State.withParser_tables (p : Parser) : (s.withParser p).tables = s.tables := rfl
@[simp] theorem State.withParser_store (p : Parser) : (s.withParser p).store = s.store := rfl
@[simp] theorem State.withParser_dram (p : Parser) : (s.withParser p).dram = s.dram := rfl
@[simp] theorem State.withParser_motS (p : Parser) : (s.withParser p).motS = s.motS := rfl
@[simp] theorem State.withParser_motP (p : Parser) : (s.withParser p).motP = s.motP := rfl
@[simp] theorem State.withParser_scan (p : Parser) : (s.withParser p).scan = s.scan := rfl
@[simp] theorem State.withParser_print (p : Parser) : (s.withParser p).print = s.print := rfl
@[simp] theorem State.withParser_mon (p : Parser) : (s.withParser p).mon = s.mon := rfl
@[simp] theorem State.withParser_link (p : Parser) : (s.withParser p).link = { s.link with parser := p } := rfl
@[simp] theorem State.withParser_power (p : Parser) : (s.withParser p).power = s.power := rfl

/-! ### State.withBoot -/

@[simp] theorem State.withBoot_now (b : BootRec) : (s.withBoot b).now = s.now := rfl
@[simp] theorem State.withBoot_pending (b : BootRec) : (s.withBoot b).pending = s.pending := rfl
@[simp] theorem State.withBoot_mem (b : BootRec) : (s.withBoot b).mem = s.mem := rfl
@[simp] theorem State.withBoot_tables (b : BootRec) : (s.withBoot b).tables = s.tables := rfl
@[simp] theorem State.withBoot_store (b : BootRec) : (s.withBoot b).store = s.store := rfl
@[simp] theorem State.withBoot_dram (b : BootRec) : (s.withBoot b).dram = s.dram := rfl
@[simp] theorem State.withBoot_motS (b : BootRec) : (s.withBoot b).motS = s.motS := rfl
@[simp] theorem State.withBoot_motP (b : BootRec) : (s.withBoot b).motP = s.motP := rfl
@[simp] theorem State.withBoot_scan (b : BootRec) : (s.withBoot b).scan = s.scan := rfl
@[simp] theorem State.withBoot_print (b : BootRec) : (s.withBoot b).print = s.print := rfl
@[simp] theorem State.withBoot_mon (b : BootRec) : (s.withBoot b).mon = s.mon := rfl
@[simp] theorem State.withBoot_link (b : BootRec) : (s.withBoot b).link = s.link := rfl
@[simp] theorem State.withBoot_power (b : BootRec) : (s.withBoot b).power = { s.power with boot := b } := rfl

/-! ### State.withWire and State.attemptAgain -/

@[simp] theorem State.withWire_now (w : List WireSign) : (s.withWire w).now = s.now := rfl
@[simp] theorem State.withWire_pending (w : List WireSign) : (s.withWire w).pending = s.pending := rfl
@[simp] theorem State.withWire_mem (w : List WireSign) : (s.withWire w).mem = s.mem := rfl
@[simp] theorem State.withWire_tables (w : List WireSign) : (s.withWire w).tables = s.tables := rfl
@[simp] theorem State.withWire_store (w : List WireSign) : (s.withWire w).store = s.store := rfl
@[simp] theorem State.withWire_dram (w : List WireSign) : (s.withWire w).dram = s.dram := rfl
@[simp] theorem State.withWire_motS (w : List WireSign) : (s.withWire w).motS = s.motS := rfl
@[simp] theorem State.withWire_motP (w : List WireSign) : (s.withWire w).motP = s.motP := rfl
@[simp] theorem State.withWire_scan (w : List WireSign) : (s.withWire w).scan = s.scan := rfl
@[simp] theorem State.withWire_print (w : List WireSign) : (s.withWire w).print = s.print := rfl
@[simp] theorem State.withWire_mon (w : List WireSign) : (s.withWire w).mon = s.mon := rfl
@[simp] theorem State.withWire_link (w : List WireSign) : (s.withWire w).link = s.link := rfl
@[simp] theorem State.withWire_power (w : List WireSign) : (s.withWire w).power = { s.power with wire := w } := rfl
@[simp] theorem State.attemptAgain_now : s.attemptAgain.now = s.now := rfl
@[simp] theorem State.attemptAgain_pending : s.attemptAgain.pending = s.pending := rfl
@[simp] theorem State.attemptAgain_mem : s.attemptAgain.mem = s.mem := rfl
@[simp] theorem State.attemptAgain_tables : s.attemptAgain.tables = s.tables := rfl
@[simp] theorem State.attemptAgain_store : s.attemptAgain.store = s.store := rfl
@[simp] theorem State.attemptAgain_dram : s.attemptAgain.dram = s.dram := rfl
@[simp] theorem State.attemptAgain_motS : s.attemptAgain.motS = s.motS := rfl
@[simp] theorem State.attemptAgain_motP : s.attemptAgain.motP = s.motP := rfl
@[simp] theorem State.attemptAgain_scan : s.attemptAgain.scan = s.scan := rfl
@[simp] theorem State.attemptAgain_print : s.attemptAgain.print = s.print := rfl
@[simp] theorem State.attemptAgain_mon : s.attemptAgain.mon = s.mon := rfl
@[simp] theorem State.attemptAgain_link : s.attemptAgain.link = s.link := rfl
@[simp] theorem State.attemptAgain_power : s.attemptAgain.power =
    { s.power with twoWire := .sending 0, wire := (s.power.boot.source.getD .absent).signs 0 } := rfl

/-! ### State.slotless -/

@[simp] theorem State.slotless_now : s.slotless.now = s.now := rfl
@[simp] theorem State.slotless_pending : s.slotless.pending = s.pending := rfl
@[simp] theorem State.slotless_mem : s.slotless.mem = s.mem := rfl
@[simp] theorem State.slotless_tables : s.slotless.tables = s.tables := rfl
@[simp] theorem State.slotless_store : s.slotless.store = s.store := rfl
@[simp] theorem State.slotless_motS : s.slotless.motS = s.motS := rfl
@[simp] theorem State.slotless_motP : s.slotless.motP = s.motP := rfl
@[simp] theorem State.slotless_scan : s.slotless.scan = s.scan := rfl
@[simp] theorem State.slotless_print : s.slotless.print = s.print := rfl
@[simp] theorem State.slotless_mon : s.slotless.mon = s.mon := rfl
@[simp] theorem State.slotless_link : s.slotless.link = s.link := rfl
@[simp] theorem State.slotless_power : s.slotless.power = s.power := rfl
@[simp] theorem State.slotless_dram : s.slotless.dram = s.dram.slotless := rfl

/-! ### State.withChannel -/

@[simp] theorem State.withChannel_now (ch : Nat) (r : AnalogRec) : (s.withChannel ch r).now = s.now := rfl
@[simp] theorem State.withChannel_pending (ch : Nat) (r : AnalogRec) : (s.withChannel ch r).pending = s.pending := rfl
@[simp] theorem State.withChannel_mem (ch : Nat) (r : AnalogRec) : (s.withChannel ch r).mem = s.mem := rfl
@[simp] theorem State.withChannel_tables (ch : Nat) (r : AnalogRec) : (s.withChannel ch r).tables = s.tables := rfl
@[simp] theorem State.withChannel_store (ch : Nat) (r : AnalogRec) : (s.withChannel ch r).store = s.store := rfl
@[simp] theorem State.withChannel_dram (ch : Nat) (r : AnalogRec) : (s.withChannel ch r).dram = s.dram := rfl
@[simp] theorem State.withChannel_motS (ch : Nat) (r : AnalogRec) : (s.withChannel ch r).motS = s.motS := rfl
@[simp] theorem State.withChannel_motP (ch : Nat) (r : AnalogRec) : (s.withChannel ch r).motP = s.motP := rfl
@[simp] theorem State.withChannel_scan (ch : Nat) (r : AnalogRec) : (s.withChannel ch r).scan = s.scan := rfl
@[simp] theorem State.withChannel_print (ch : Nat) (r : AnalogRec) : (s.withChannel ch r).print = s.print := rfl
@[simp] theorem State.withChannel_mon (ch : Nat) (r : AnalogRec) : (s.withChannel ch r).mon = { s.mon with analog := s.mon.analog.setIfInBounds ch r } := rfl
@[simp] theorem State.withChannel_link (ch : Nat) (r : AnalogRec) : (s.withChannel ch r).link = s.link := rfl
@[simp] theorem State.withChannel_power (ch : Nat) (r : AnalogRec) : (s.withChannel ch r).power = s.power := rfl

/-! ### State.withInput -/

@[simp] theorem State.withInput_now (n : Nat) (r : InputRec) : (s.withInput n r).now = s.now := rfl
@[simp] theorem State.withInput_pending (n : Nat) (r : InputRec) : (s.withInput n r).pending = s.pending := rfl
@[simp] theorem State.withInput_mem (n : Nat) (r : InputRec) : (s.withInput n r).mem = s.mem := rfl
@[simp] theorem State.withInput_tables (n : Nat) (r : InputRec) : (s.withInput n r).tables = s.tables := rfl
@[simp] theorem State.withInput_store (n : Nat) (r : InputRec) : (s.withInput n r).store = s.store := rfl
@[simp] theorem State.withInput_dram (n : Nat) (r : InputRec) : (s.withInput n r).dram = s.dram := rfl
@[simp] theorem State.withInput_motS (n : Nat) (r : InputRec) : (s.withInput n r).motS = s.motS := rfl
@[simp] theorem State.withInput_motP (n : Nat) (r : InputRec) : (s.withInput n r).motP = s.motP := rfl
@[simp] theorem State.withInput_scan (n : Nat) (r : InputRec) : (s.withInput n r).scan = s.scan := rfl
@[simp] theorem State.withInput_print (n : Nat) (r : InputRec) : (s.withInput n r).print = s.print := rfl
@[simp] theorem State.withInput_mon (n : Nat) (r : InputRec) : (s.withInput n r).mon = { s.mon with inputs := s.mon.inputs.setIfInBounds n r } := rfl
@[simp] theorem State.withInput_link (n : Nat) (r : InputRec) : (s.withInput n r).link = s.link := rfl
@[simp] theorem State.withInput_power (n : Nat) (r : InputRec) : (s.withInput n r).power = s.power := rfl

/-! ### State.withPage -/

@[simp] theorem State.withPage_now (p : Nat) (r : PageRec) : (s.withPage p r).now = s.now := rfl
@[simp] theorem State.withPage_pending (p : Nat) (r : PageRec) : (s.withPage p r).pending = s.pending := rfl
@[simp] theorem State.withPage_mem (p : Nat) (r : PageRec) : (s.withPage p r).mem = s.mem := rfl
@[simp] theorem State.withPage_tables (p : Nat) (r : PageRec) : (s.withPage p r).tables = s.tables := rfl
@[simp] theorem State.withPage_store (p : Nat) (r : PageRec) : (s.withPage p r).store = { s.store with pages := s.store.pages.setIfInBounds p r } := rfl
@[simp] theorem State.withPage_dram (p : Nat) (r : PageRec) : (s.withPage p r).dram = s.dram := rfl
@[simp] theorem State.withPage_motS (p : Nat) (r : PageRec) : (s.withPage p r).motS = s.motS := rfl
@[simp] theorem State.withPage_motP (p : Nat) (r : PageRec) : (s.withPage p r).motP = s.motP := rfl
@[simp] theorem State.withPage_scan (p : Nat) (r : PageRec) : (s.withPage p r).scan = s.scan := rfl
@[simp] theorem State.withPage_print (p : Nat) (r : PageRec) : (s.withPage p r).print = s.print := rfl
@[simp] theorem State.withPage_mon (p : Nat) (r : PageRec) : (s.withPage p r).mon = s.mon := rfl
@[simp] theorem State.withPage_link (p : Nat) (r : PageRec) : (s.withPage p r).link = s.link := rfl
@[simp] theorem State.withPage_power (p : Nat) (r : PageRec) : (s.withPage p r).power = s.power := rfl

/-! ### State.addBands -/

@[simp] theorem State.addBands_now (bs : List Band) : (s.addBands bs).now = s.now := rfl
@[simp] theorem State.addBands_pending (bs : List Band) : (s.addBands bs).pending = s.pending := rfl
@[simp] theorem State.addBands_mem (bs : List Band) : (s.addBands bs).mem = s.mem := rfl
@[simp] theorem State.addBands_tables (bs : List Band) : (s.addBands bs).tables = s.tables := rfl
@[simp] theorem State.addBands_store (bs : List Band) : (s.addBands bs).store = { s.store with freeList := s.store.freeList ++ bs } := rfl
@[simp] theorem State.addBands_dram (bs : List Band) : (s.addBands bs).dram = s.dram := rfl
@[simp] theorem State.addBands_motS (bs : List Band) : (s.addBands bs).motS = s.motS := rfl
@[simp] theorem State.addBands_motP (bs : List Band) : (s.addBands bs).motP = s.motP := rfl
@[simp] theorem State.addBands_scan (bs : List Band) : (s.addBands bs).scan = s.scan := rfl
@[simp] theorem State.addBands_print (bs : List Band) : (s.addBands bs).print = s.print := rfl
@[simp] theorem State.addBands_mon (bs : List Band) : (s.addBands bs).mon = s.mon := rfl
@[simp] theorem State.addBands_link (bs : List Band) : (s.addBands bs).link = s.link := rfl
@[simp] theorem State.addBands_power (bs : List Band) : (s.addBands bs).power = s.power := rfl

/-! ### State.at -/

@[simp] theorem State.at_now (d : Nat) : (s.at d).now = max s.now d := rfl
@[simp] theorem State.at_pending (d : Nat) : (s.at d).pending = s.pending := rfl
@[simp] theorem State.at_mem (d : Nat) : (s.at d).mem = s.mem := rfl
@[simp] theorem State.at_tables (d : Nat) : (s.at d).tables = s.tables := rfl
@[simp] theorem State.at_store (d : Nat) : (s.at d).store = s.store := rfl
@[simp] theorem State.at_dram (d : Nat) : (s.at d).dram = s.dram := rfl
@[simp] theorem State.at_motS (d : Nat) : (s.at d).motS = s.motS := rfl
@[simp] theorem State.at_motP (d : Nat) : (s.at d).motP = s.motP := rfl
@[simp] theorem State.at_scan (d : Nat) : (s.at d).scan = s.scan := rfl
@[simp] theorem State.at_print (d : Nat) : (s.at d).print = s.print := rfl
@[simp] theorem State.at_mon (d : Nat) : (s.at d).mon = s.mon := rfl
@[simp] theorem State.at_link (d : Nat) : (s.at d).link = s.link := rfl
@[simp] theorem State.at_power (d : Nat) : (s.at d).power = s.power := rfl

/-! ### State.storeBytes -/

@[simp] theorem State.storeBytes_now (r : Request) : (s.storeBytes r).now = s.now := rfl
@[simp] theorem State.storeBytes_pending (r : Request) : (s.storeBytes r).pending = s.pending := rfl
@[simp] theorem State.storeBytes_mem (r : Request) : (s.storeBytes r).mem = s.mem.writeAll r.address r.data := rfl
@[simp] theorem State.storeBytes_tables (r : Request) : (s.storeBytes r).tables = s.tables := rfl
@[simp] theorem State.storeBytes_store (r : Request) : (s.storeBytes r).store = s.store := rfl
@[simp] theorem State.storeBytes_dram (r : Request) : (s.storeBytes r).dram = s.dram := rfl
@[simp] theorem State.storeBytes_motS (r : Request) : (s.storeBytes r).motS = s.motS := rfl
@[simp] theorem State.storeBytes_motP (r : Request) : (s.storeBytes r).motP = s.motP := rfl
@[simp] theorem State.storeBytes_scan (r : Request) : (s.storeBytes r).scan = s.scan := rfl
@[simp] theorem State.storeBytes_print (r : Request) : (s.storeBytes r).print = s.print := rfl
@[simp] theorem State.storeBytes_mon (r : Request) : (s.storeBytes r).mon = s.mon := rfl
@[simp] theorem State.storeBytes_link (r : Request) : (s.storeBytes r).link = s.link := rfl
@[simp] theorem State.storeBytes_power (r : Request) : (s.storeBytes r).power = s.power := rfl

/-! ### State.withMot -/

@[simp] theorem State.withMot_now (m : Motor) (c : Channel) : (s.withMot m c).now = s.now := by
  unfold State.withMot; split
  · split <;> rfl
  · rfl
@[simp] theorem State.withMot_pending (m : Motor) (c : Channel) : (s.withMot m c).pending = s.pending := by
  unfold State.withMot; split
  · split <;> rfl
  · rfl
@[simp] theorem State.withMot_mem (m : Motor) (c : Channel) : (s.withMot m c).mem = s.mem := by
  unfold State.withMot; split
  · split <;> rfl
  · rfl
@[simp] theorem State.withMot_tables (m : Motor) (c : Channel) : (s.withMot m c).tables = s.tables := by
  unfold State.withMot; split
  · split <;> rfl
  · rfl
@[simp] theorem State.withMot_store (m : Motor) (c : Channel) : (s.withMot m c).store = s.store := by
  unfold State.withMot; split
  · split <;> rfl
  · rfl
@[simp] theorem State.withMot_dram (m : Motor) (c : Channel) : (s.withMot m c).dram = s.dram := by
  unfold State.withMot; split
  · split <;> rfl
  · rfl
@[simp] theorem State.withMot_scan (m : Motor) (c : Channel) : (s.withMot m c).scan = s.scan := by
  unfold State.withMot; split
  · split <;> rfl
  · rfl
@[simp] theorem State.withMot_print (m : Motor) (c : Channel) : (s.withMot m c).print = s.print := by
  unfold State.withMot; split
  · split <;> rfl
  · rfl
@[simp] theorem State.withMot_link (m : Motor) (c : Channel) : (s.withMot m c).link = s.link := by
  unfold State.withMot; split
  · split <;> rfl
  · rfl
@[simp] theorem State.withMot_power (m : Motor) (c : Channel) : (s.withMot m c).power = s.power := by
  unfold State.withMot; split
  · split <;> rfl
  · rfl

/-- The channel replaced is the one given. -/
@[simp] theorem State.mot_withMot (m : Motor) (c : Channel) : (s.withMot m c).mot m = c := by
  unfold State.withMot State.mot; cases m
  · dsimp only; split <;> rfl
  · rfl

@[simp] theorem State.withMotP_eq (c : Channel) : s.withMot .p c = s.withMotP c := rfl

@[simp] theorem State.withMot_s_motS (c : Channel) : (s.withMot .s c).motS = c := State.mot_withMot s .s c

@[simp] theorem State.withMot_s_motP (c : Channel) : (s.withMot .s c).motP = s.motP := by
  unfold State.withMot; dsimp only; split <;> rfl

/-! ### Queues upstream -/

@[simp] theorem Link.choose_down (w : Bool) (l : Link) : (l.choose w).down = l.down := by
  unfold Link.choose; split <;> rfl
@[simp] theorem Link.choose_up (w : Bool) (l : Link) : (l.choose w).up = l.up := by
  unfold Link.choose; split <;> rfl
@[simp] theorem Link.choose_parser (w : Bool) (l : Link) : (l.choose w).parser = l.parser := by
  unfold Link.choose; split <;> rfl
@[simp] theorem Link.choose_replies (w : Bool) (l : Link) : (l.choose w).replies = l.replies := by
  unfold Link.choose; split <;> rfl
@[simp] theorem Link.choose_events (w : Bool) (l : Link) : (l.choose w).events = l.events := by
  unfold Link.choose; split <;> rfl
@[simp] theorem Link.choose_overflow (w : Bool) (l : Link) : (l.choose w).overflow = l.overflow := by
  unfold Link.choose; split <;> rfl
@[simp] theorem Link.choose_writer (w : Bool) (l : Link) : (l.choose w).writer = l.writer := by
  unfold Link.choose; split <;> rfl
@[simp] theorem Link.choose_reads (w : Bool) (l : Link) : (l.choose w).reads = l.reads := by
  unfold Link.choose; split <;> rfl
@[simp] theorem Link.choose_readBuf (w : Bool) (l : Link) : (l.choose w).readBuf = l.readBuf := by
  unfold Link.choose; split <;> rfl
@[simp] theorem Link.choose_dataOut (w : Bool) (l : Link) : (l.choose w).dataOut = l.dataOut := by
  unfold Link.choose; split <;> rfl

@[simp] theorem Link.push_down (e : Event) (l : Link) : (l.push e).down = l.down := by
  unfold Link.push; split
  · split <;> rfl
  · rfl
@[simp] theorem Link.push_up (e : Event) (l : Link) : (l.push e).up = l.up := by
  unfold Link.push; split
  · split <;> rfl
  · rfl
@[simp] theorem Link.push_parser (e : Event) (l : Link) : (l.push e).parser = l.parser := by
  unfold Link.push; split
  · split <;> rfl
  · rfl
@[simp] theorem Link.push_replies (e : Event) (l : Link) : (l.push e).replies = l.replies := by
  unfold Link.push; split
  · split <;> rfl
  · rfl
@[simp] theorem Link.push_writer (e : Event) (l : Link) : (l.push e).writer = l.writer := by
  unfold Link.push; split
  · split <;> rfl
  · rfl
@[simp] theorem Link.push_reads (e : Event) (l : Link) : (l.push e).reads = l.reads := by
  unfold Link.push; split
  · split <;> rfl
  · rfl
@[simp] theorem Link.push_readBuf (e : Event) (l : Link) : (l.push e).readBuf = l.readBuf := by
  unfold Link.push; split
  · split <;> rfl
  · rfl
@[simp] theorem Link.push_dataOut (e : Event) (l : Link) : (l.push e).dataOut = l.dataOut := by
  unfold Link.push; split
  · split <;> rfl
  · rfl

@[simp] theorem State.choose_now : s.choose.now = s.now := rfl
@[simp] theorem State.raise_now (e : Event) : (s.raise e).now = s.now := rfl
@[simp] theorem State.reply_now (r : Reply) : (s.reply r).now = s.now := rfl
@[simp] theorem State.choose_pending : s.choose.pending = s.pending := rfl
@[simp] theorem State.raise_pending (e : Event) : (s.raise e).pending = s.pending := rfl
@[simp] theorem State.reply_pending (r : Reply) : (s.reply r).pending = s.pending := rfl
@[simp] theorem State.choose_mem : s.choose.mem = s.mem := rfl
@[simp] theorem State.raise_mem (e : Event) : (s.raise e).mem = s.mem := rfl
@[simp] theorem State.reply_mem (r : Reply) : (s.reply r).mem = s.mem := rfl
@[simp] theorem State.choose_tables : s.choose.tables = s.tables := rfl
@[simp] theorem State.raise_tables (e : Event) : (s.raise e).tables = s.tables := rfl
@[simp] theorem State.reply_tables (r : Reply) : (s.reply r).tables = s.tables := rfl
@[simp] theorem State.choose_store : s.choose.store = s.store := rfl
@[simp] theorem State.raise_store (e : Event) : (s.raise e).store = s.store := rfl
@[simp] theorem State.reply_store (r : Reply) : (s.reply r).store = s.store := rfl
@[simp] theorem State.choose_dram : s.choose.dram = s.dram := rfl
@[simp] theorem State.raise_dram (e : Event) : (s.raise e).dram = s.dram := rfl
@[simp] theorem State.reply_dram (r : Reply) : (s.reply r).dram = s.dram := rfl
@[simp] theorem State.choose_motS : s.choose.motS = s.motS := rfl
@[simp] theorem State.raise_motS (e : Event) : (s.raise e).motS = s.motS := rfl
@[simp] theorem State.reply_motS (r : Reply) : (s.reply r).motS = s.motS := rfl
@[simp] theorem State.choose_motP : s.choose.motP = s.motP := rfl
@[simp] theorem State.raise_motP (e : Event) : (s.raise e).motP = s.motP := rfl
@[simp] theorem State.reply_motP (r : Reply) : (s.reply r).motP = s.motP := rfl
@[simp] theorem State.choose_scan : s.choose.scan = s.scan := rfl
@[simp] theorem State.raise_scan (e : Event) : (s.raise e).scan = s.scan := rfl
@[simp] theorem State.reply_scan (r : Reply) : (s.reply r).scan = s.scan := rfl
@[simp] theorem State.choose_print : s.choose.print = s.print := rfl
@[simp] theorem State.raise_print (e : Event) : (s.raise e).print = s.print := rfl
@[simp] theorem State.reply_print (r : Reply) : (s.reply r).print = s.print := rfl
@[simp] theorem State.choose_mon : s.choose.mon = s.mon := rfl
@[simp] theorem State.raise_mon (e : Event) : (s.raise e).mon = s.mon := rfl
@[simp] theorem State.reply_mon (r : Reply) : (s.reply r).mon = s.mon := rfl
@[simp] theorem State.choose_power : s.choose.power = s.power := rfl
@[simp] theorem State.raise_power (e : Event) : (s.raise e).power = s.power := rfl
@[simp] theorem State.reply_power (r : Reply) : (s.reply r).power = s.power := rfl

@[simp] theorem State.choose_link : s.choose.link = s.link.choose s.power.upstreamWorks := rfl
@[simp] theorem State.raise_link (e : Event) :
    (s.raise e).link = (s.link.push e).choose s.power.upstreamWorks := rfl
@[simp] theorem State.reply_link (r : Reply) :
    (s.reply r).link = ({ s.link with replies := s.link.replies ++ [r] } : Link).choose s.power.upstreamWorks := rfl

end Sys2Proof.Machine
end

