-- ==== Sys2Proof/Laws/Channel.lean ====
section
/-! SUPPORT. The motor channels: which operations keep the phase index, and that a step keeps it below 8 (R104, R107). -/

namespace Sys2Proof.Machine

variable (t : Tables) (m : Motor) (now : Nat) (c : Channel)

@[simp] theorem Channel.drive_phase (p : BitVec 4) : (Channel.drive t m now p c).phase = c.phase := by
  unfold Channel.drive; dsimp only; split <;> rfl

@[simp] theorem Channel.redrive_phase (p : BitVec 4) : (Channel.redrive t m now p c).phase = c.phase := by
  unfold Channel.redrive; dsimp only; split <;> rfl

/-- R107: after a load in HOLD only coils of the new pattern are on. -/
theorem Channel.redrive_coils (p : BitVec 4) : (Channel.redrive t m now p c).coils &&& ~~~p = 0#4 := by
  unfold Channel.redrive
  dsimp only
  split <;> (ext i; simp; try tauto)

/-- R185: a gap that runs keeps its end at a load: each gap after it is one that ran, or the load's own. -/
theorem Channel.redrive_gaps {p : BitVec 4} {g : Gap} (h : g ∈ (Channel.redrive t m now p c).gaps) :
    (∃ x ∈ c.gaps, x.endsAt = g.endsAt) ∨ g.endsAt = now + Config.us (t.nonoverlap m) := by
  have hi : ∀ (x : Gap) (l : List Gap), g ∈ insertGap x l → g = x ∨ g ∈ l := by
    intro x l
    induction l with
    | nil => simp [insertGap]
    | cons y ys ih =>
      unfold insertGap
      split
      · simp
      · intro hm
        rcases List.mem_cons.1 hm with rfl | hm
        · simp
        · exact (ih hm).imp_right (List.mem_cons_of_mem _)
  have hk : g ∈ ((c.gaps.map fun x => { x with coils := x.coils &&& p }).filter fun x => x.coils ≠ 0#4) →
      ∃ x ∈ c.gaps, x.endsAt = g.endsAt := by
    intro hm
    obtain ⟨x, hx, rfl⟩ := List.mem_map.1 (List.mem_filter.1 hm).1
    exact ⟨x, hx, rfl⟩
  unfold Channel.redrive at h
  dsimp only at h
  split at h
  · exact .inl (hk h)
  · rcases hi _ _ h with rfl | h
    · exact .inr rfl
    · exact .inl (hk h)

@[simp] theorem Channel.gapOver_phase (g : Gap) (left : List Gap) : (c.gapOver g left).phase = c.phase := rfl

@[simp] theorem Channel.energise_phase : (Channel.energise t m c).phase = c.phase := rfl

@[simp] theorem Channel.switchOff_phase : c.switchOff.phase = c.phase := rfl

@[simp] theorem Channel.decide_phase : (Channel.decide t m now c).phase = c.phase := rfl

@[simp] theorem Channel.firstInterval_phase : (Channel.firstInterval t m now c).phase = c.phase := rfl

@[simp] theorem Channel.beginSettle_phase : (Channel.beginSettle t m now c).phase = c.phase := by
  unfold Channel.beginSettle; dsimp only; split <;> rfl

@[simp] theorem Channel.take_phase (p : Nat) (r : MoveReq) : (Channel.take t m now p r c).phase = c.phase := by
  unfold Channel.take; dsimp only
  split
  · rfl
  · split
    · simp
    · rfl

@[simp] theorem Channel.request_phase (p : Nat) (r : MoveReq) : (Channel.request t m now p r c).phase = c.phase := by
  unfold Channel.request
  split
  · simp
  · split <;> rfl

@[simp] theorem Channel.startHold_phase : (Channel.startHold t m now c).phase = c.phase := by
  unfold Channel.startHold; split <;> rfl

theorem Channel.advance_ok : (Channel.advance t m now c).ok := by
  unfold Channel.advance
  simp only [Channel.ok, Channel.drive_phase]
  exact Nat.mod_lt _ (by decide)

@[simp] theorem Channel.align_phase : c.align.phase = c.phase := by
  unfold Channel.align; split <;> rfl

@[simp] theorem Channel.countTo_phase (r : Nat) : (c.countTo r).phase = c.phase := rfl

@[simp] theorem Channel.takeStop_phase : c.takeStop.phase = c.phase := rfl

@[simp] theorem Channel.goOn_phase : (Channel.goOn t m now c).phase = c.phase := rfl

@[simp] theorem Channel.rest_phase : c.rest.phase = c.phase := rfl

@[simp] theorem Channel.askStop_phase (o : Owner) : (Channel.askStop o c).1.phase = c.phase := by
  unfold Channel.askStop
  repeat' split
  all_goals rfl

@[simp] theorem Channel.halt_phase : c.halt.phase = c.phase := by
  unfold Channel.halt; split <;> rfl

@[simp] theorem Channel.warmReset_phase : c.warmReset.phase = c.phase := by
  unfold Channel.warmReset; simp

end Sys2Proof.Machine
end

