-- ==== Sys2Proof/Laws/Memory.lean ====
section
/-! SUPPORT. Page memory: what a write leaves to be read, and that every operation keeps the canonical form. -/

namespace Sys2Proof.Machine

theorem Memory.wfAbove_mono {lo lo' : Nat} (h : lo' ≤ lo) : ∀ {m : Memory}, Memory.wfAbove lo m = true → Memory.wfAbove lo' m = true
  | [], _ => rfl
  | (k, v) :: rest, hm => by
    simp only [Memory.wfAbove, Bool.and_eq_true, decide_eq_true_eq] at hm ⊢
    exact ⟨⟨by omega, hm.1.2⟩, hm.2⟩

/-- Below its first listed address a canonical memory reads as unwritten. -/
theorem Memory.read_below {a : Nat} : ∀ {m : Memory} {lo : Nat}, Memory.wfAbove lo m = true → a < lo →
    m.read a = Config.unwritten
  | [], _, _, _ => rfl
  | (k, v) :: rest, lo, hm, ha => by
    simp only [Memory.wfAbove, Bool.and_eq_true, decide_eq_true_eq] at hm
    have hk : k ≠ a := by omega
    simp only [Memory.read, hk, if_false]
    exact Memory.read_below hm.2 (by omega)

/-- A write keeps the canonical form above a bound that the address respects. -/
theorem Memory.wfAbove_write {a : Nat} {v : Byte} : ∀ {m : Memory} {lo : Nat}, Memory.wfAbove lo m = true → lo ≤ a →
    Memory.wfAbove lo (m.write a v) = true
  | [], lo, _, ha => by
    unfold Memory.write
    split
    · rfl
    · simp_all [Memory.wfAbove]
  | (k, w) :: rest, lo, hm, ha => by
    simp only [Memory.wfAbove, Bool.and_eq_true, decide_eq_true_eq] at hm
    unfold Memory.write
    split
    · split
      · simp_all [Memory.wfAbove]
      · rename_i h1 h2
        simp only [Memory.wfAbove, Bool.and_eq_true, decide_eq_true_eq]
        exact ⟨⟨ha, h2⟩, ⟨by omega, hm.1.2⟩, hm.2⟩
    · split
      · split
        · exact Memory.wfAbove_mono (by omega) hm.2
        · rename_i h1 h2 h3
          simp only [Memory.wfAbove, Bool.and_eq_true, decide_eq_true_eq]
          exact ⟨⟨ha, h3⟩, h2 ▸ hm.2⟩
      · rename_i h1 h2
        simp only [Memory.wfAbove, Bool.and_eq_true, decide_eq_true_eq]
        exact ⟨hm.1, Memory.wfAbove_write hm.2 (by omega)⟩

/-- A write keeps the canonical form. -/
theorem Memory.wf_write {m : Memory} (h : m.wf = true) (a : Nat) (v : Byte) : (m.write a v).wf = true :=
  Memory.wfAbove_write h (Nat.zero_le a)

/-- A write of several bytes keeps the canonical form. -/
theorem Memory.wf_writeAll : ∀ (bs : List Byte) {m : Memory} (a : Nat), m.wf = true → (m.writeAll a bs).wf = true
  | [], _, _, h => h
  | b :: bs, _, a, h => Memory.wf_writeAll bs (a + 1) (Memory.wf_write h a b)

theorem Memory.wfAbove_below {limit : Nat} : ∀ {m : Memory} {lo : Nat}, Memory.wfAbove lo m = true →
    Memory.wfAbove lo (m.below limit) = true
  | [], _, _ => rfl
  | (k, v) :: rest, lo, hm => by
    simp only [Memory.wfAbove, Bool.and_eq_true, decide_eq_true_eq] at hm
    have ih := Memory.wfAbove_below (limit := limit) hm.2
    unfold Memory.below at ih ⊢
    by_cases h : k < limit
    · simp only [List.filter_cons, h, decide_true, if_true, Memory.wfAbove, Bool.and_eq_true, decide_eq_true_eq]
      exact ⟨hm.1, ih⟩
    · simp only [List.filter_cons, h, decide_false]
      exact Memory.wfAbove_mono (by omega) ih

/-- Dropping what lies at or above an address keeps the canonical form. -/
theorem Memory.wf_below {m : Memory} (h : m.wf = true) (limit : Nat) : (m.below limit).wf = true :=
  Memory.wfAbove_below h

/-- The memory after reset is in the canonical form. -/
theorem Memory.wf_reset : State.reset.mem.wf = true := rfl

end Sys2Proof.Machine
end

