-- ==== Sys2Proof/Laws/Dram.lean ====
section
/-! SUPPORT. The page memory controller: every operation keeps its counts and its row-hold table within their bounds. -/

namespace Sys2Proof.Machine

theorem count16_le (n : Nat) : count16 n ≤ 65535 := Nat.min_le_left _ _

/-- R34: the banks of the row-hold table after an access. -/
theorem rowTable_ok {t : List (Nat × Nat)} (bank row : Nat) (hl : t.length ≤ 3) (hd : (t.map (·.1)).Nodup) :
    (rowTable t bank row).length ≤ 3 ∧ ((rowTable t bank row).map (·.1)).Nodup := by
  have hfilter : ((t.filter (·.1 != bank)).map (·.1)).Nodup := hd.sublist ((List.filter_sublist).map _)
  have hnot : bank ∉ (t.filter (·.1 != bank)).map (·.1) := by
    simp [List.mem_map, List.mem_filter]
  have hlist : ∀ l : List (Nat × Nat), (l.map (·.1)).Nodup → bank ∉ l.map (·.1) →
      ((l ++ [(bank, row)]).map (·.1)).Nodup := by
    intro l h1 h2
    rw [List.map_append, List.nodup_append]
    refine ⟨h1, by simp, ?_⟩
    intro a ha b hb
    simp at hb
    subst hb
    exact fun h => h2 (h ▸ ha)
  unfold rowTable rowCase
  cases hf : t.find? (·.1 == bank) with
  | none =>
    have hn : bank ∉ t.map (·.1) := by
      intro h
      obtain ⟨e, he, rfl⟩ := List.mem_map.1 h
      have := List.find?_eq_none.1 hf e he
      simp at this
    by_cases h3 : t.length < 3
    · simp only [h3, if_true]
      exact ⟨by simp; omega, hlist t hd hn⟩
    · simp only [h3, if_false]
      refine ⟨by simp; omega, hlist _ (hd.sublist ((List.drop_sublist 1 t).map _)) ?_⟩
      exact fun h => hn ((((List.drop_sublist 1 t).map (·.1)).subset) h)
  | some e =>
    have he : e ∈ t := List.mem_of_find?_eq_some hf
    have hb : e.1 = bank := by have := List.find?_some hf; simpa using this
    have hlt : (t.filter (·.1 != bank)).length < t.length := by
      apply List.length_filter_lt_length_iff_exists.2
      exact ⟨e, he, by simp [hb]⟩
    by_cases hr : e.2 = row
    · simp only [hr, if_true]
      exact ⟨by simp; omega, hlist _ hfilter hnot⟩
    · simp only [hr, if_false]
      exact ⟨by simp; omega, hlist _ hfilter hnot⟩

/-- R33: what a refresh in progress is. -/
theorem Dram.refreshing_iff {d : Dram} : d.refreshing = true ↔ ∃ e, d.current = some (.refresh e) := by
  unfold Dram.refreshing
  split <;> simp_all

/-- R34: a bank's RAS line is held exactly while the table has an entry for the bank. -/
theorem Dram.holdsRow_iff {d : Dram} {k : Nat} : d.holdsRow k = true ↔ ∃ row, (k, row) ∈ d.rowHold := by
  simp only [Dram.holdsRow, List.any_eq_true, beq_iff_eq, Prod.exists]
  exact ⟨fun ⟨_, row, h, he⟩ => ⟨row, he ▸ h⟩, fun ⟨row, h⟩ => ⟨k, row, h, rfl⟩⟩

/-- R34: the RAS line of a transfer's bank is held from the transfer's row access on. -/
@[simp] theorem Dram.openRow_holdsRow (bank row : Nat) (d : Dram) : (d.openRow bank row).holdsRow bank = true := by
  refine Dram.holdsRow_iff.2 ⟨row, ?_⟩
  change (bank, row) ∈ rowTable d.rowHold bank row
  unfold rowTable
  split <;> simp

theorem Dram.openRow_ok {d : Dram} (bank row : Nat) (h : d.ok) : (d.openRow bank row).ok := by
  obtain ⟨h1, h2, h3, h4, h5, h6, h7⟩ := h
  obtain ⟨a, b⟩ := rowTable_ok bank row h2 h3
  refine ⟨h1, a, b, ?_, ?_, ?_, h7⟩ <;> simp only [Dram.openRow] <;> split <;>
    first | assumption | exact count16_le _

theorem Dram.grant_ok {d : Dram} (now : Nat) (r : Request) (h : d.ok) : (d.grant now r).ok :=
  Dram.openRow_ok r.bank r.row h

theorem Dram.grantRefresh_ok {d : Dram} (now : Nat) (h : d.ok) : (d.grantRefresh now).ok := by
  obtain ⟨h1, _, _, h4⟩ := h
  exact ⟨by simp only [Dram.grantRefresh]; omega, by simp [Dram.grantRefresh], by simp [Dram.grantRefresh], h4⟩

theorem Dram.applyBanks_ok {d : Dram} (h : d.ok) : d.applyBanks.ok := by
  unfold Dram.applyBanks
  split
  · exact ⟨h.1, by simp, by simp, h.2.2.2⟩
  · exact h

theorem Dram.beginEntry_ok {d : Dram} (now : Nat) (c : SrCause) (h : d.ok) : (d.beginEntry now c).ok :=
  ⟨by simp [Dram.beginEntry], by simp [Dram.beginEntry], by simp [Dram.beginEntry], h.2.2.2⟩

theorem Dram.arbitrate_ok {d : Dram} (now : Nat) (h : d.ok) : (d.arbitrate now).ok := by
  have h' := Dram.applyBanks_ok h
  unfold Dram.arbitrate
  split
  · exact h
  · dsimp only
    repeat' split
    all_goals first
      | exact h'
      | exact Dram.beginEntry_ok _ _ h'
      | exact Dram.grantRefresh_ok _ h'
      | exact Dram.grant_ok _ _ h'

theorem Dram.beginExit_ok {d : Dram} (now t : Nat) (h : d.ok) : (d.beginExit now t).ok := h

theorem Dram.submit_ok {d : Dram} (now t : Nat) (r : Request) (h : d.ok) : (d.submit now t r).ok := by
  unfold Dram.submit
  dsimp only
  repeat' split
  all_goals first | exact h | exact Dram.arbitrate_ok _ h

theorem Dram.withdraw_ok {d : Dram} (c : ReqClass) (h : d.ok) : (d.withdraw c).ok := h

theorem Dram.disown_ok {d : Dram} (p : Request → Bool) (h : d.ok) : (d.disown p).ok := by
  unfold Dram.disown
  repeat' split
  all_goals exact h

theorem Dram.startAuto_ok {d : Dram} (now delay : Nat) (b : Bool) (h : d.ok) : (d.startAuto now delay b).ok := by
  unfold Dram.startAuto
  split <;> exact h

theorem Dram.finish_ok {d : Dram} (now : Nat) (h : d.ok) : (d.finish now).ok := Dram.arbitrate_ok now h

theorem Dram.autoExpired_ok {d : Dram} (now : Nat) (h : d.ok) : (d.autoExpired now).ok := Dram.arbitrate_ok now h

theorem Dram.runEntry_ok {d : Dram} (now t : Nat) (h : d.ok) : (d.runEntry now t).ok := by
  unfold Dram.runEntry
  dsimp only
  split <;> exact h

theorem Dram.wake_ok {d : Dram} (now t : Nat) (h : d.ok) : (d.wake now t).ok := by
  unfold Dram.wake
  split <;> exact h

theorem Dram.order_ok {d : Dram} (now : Nat) (h : d.ok) : (d.order now).ok := by
  unfold Dram.order
  dsimp only
  split
  · exact Dram.arbitrate_ok now h
  all_goals exact h

theorem Dram.entryEnd_ok {d : Dram} (now t : Nat) (h : d.ok) : (d.entryEnd now t).ok := by
  unfold Dram.entryEnd
  dsimp only
  split <;> exact h

theorem Dram.enterActive_ok {d : Dram} (now t : Nat) (h : d.ok) : (d.enterActive now t).ok :=
  Dram.arbitrate_ok now ⟨by simp, by simp, by simp, h.2.2.2⟩

theorem Dram.tick_ok {d : Dram} (now t : Nat) (h : d.ok) : (d.tick now t).ok := by
  refine Dram.arbitrate_ok now ⟨Nat.min_le_left _ _, h.2.1, h.2.2.1, h.2.2.2.1, h.2.2.2.2.1, h.2.2.2.2.2.1, ?_⟩
  dsimp only
  split
  · exact count16_le _
  · exact h.2.2.2.2.2.2

theorem Dram.slotless_ok {d : Dram} (h : d.ok) : d.slotless.ok := by
  unfold Dram.slotless
  split <;> exact h

theorem Dram.warmReset_ok {d : Dram} (h : d.ok) : d.warmReset.ok := Dram.slotless_ok (Dram.disown_ok _ h)

theorem Dram.changeBanks_ok {d : Dram} (b : Nat) (h : d.ok) : (d.changeBanks b).ok := by
  unfold Dram.changeBanks
  split
  · exact ⟨h.1, by simp, by simp, h.2.2.2⟩
  · exact h

theorem Dram.outlived_ok {d : Dram} (h : d.ok) : d.outlived.ok := by
  unfold Dram.outlived
  split <;> exact h

theorem Dram.clearCounters_ok {d : Dram} (h : d.ok) : d.clearCounters.ok :=
  ⟨h.1, h.2.1, h.2.2.1, by simp [Dram.clearCounters], by simp [Dram.clearCounters], by simp [Dram.clearCounters],
    by simp [Dram.clearCounters]⟩

end Sys2Proof.Machine
end

