-- ==== Sys2Proof/Laws/Store.lean ====
section
/-! SUPPORT. The Page Store: every change of a page record or of the free list keeps each band in exactly one place. -/

namespace Sys2Proof.Machine

/-- The record of a page number in a Page Store. -/
def PageStore.page (p : PageStore) (i : Nat) : PageRec := p.pages[i]?.getD PageRec.freed

theorem State.page_eq (s : State) (i : Nat) : s.page i = s.store.page i := rfl

/-- The Page Store with a record and the free list replaced. -/
def PageStore.put (p : PageStore) (i : Nat) (r : PageRec) (fl : List Band) : PageStore :=
  { p with pages := p.pages.setIfInBounds i r, freeList := fl }

theorem flatMap_set_perm {α β : Type} (f : α → List β) (r : α) : ∀ (l : List α) (i : Nat) (h : i < l.length),
    List.Perm (f l[i] ++ (l.set i r).flatMap f) (f r ++ l.flatMap f)
  | x :: xs, 0, _ => by
    simp only [List.getElem_cons_zero, List.set_cons_zero, List.flatMap_cons, ← List.append_assoc]
    exact List.perm_append_comm.append_right _
  | x :: xs, i + 1, h => by
    simp only [List.getElem_cons_succ, List.set_cons_succ, List.flatMap_cons]
    have ih := flatMap_set_perm f r xs i (by simpa using h)
    refine (List.perm_append_comm_assoc _ _ _).trans ?_
    exact (ih.append_left _).trans (List.perm_append_comm_assoc _ _ _)

theorem PageStore.held_put (p : PageStore) (i : Nat) (r : PageRec) (fl : List Band) (h : i < 32) :
    List.Perm ((p.page i).chain ++ (p.put i r fl).held) (r.chain ++ p.held) := by
  have hl : i < p.pages.toList.length := by simpa using h
  have := flatMap_set_perm (fun x : PageRec => x.chain) r p.pages.toList i hl
  simpa [PageStore.held, PageStore.put, PageStore.page, h, Vector.toList_setIfInBounds] using this

/-- A FREE record of a safe Page Store has no bands. -/
theorem PageStore.free_chain {p : PageStore} (h : p.ok) {i : Nat} (hf : (p.page i).state = .free) : (p.page i).chain = [] := by
  unfold PageStore.page at *
  by_cases hi : i < 32
  · simp only [hi, Vector.getElem?_eq_getElem, Option.getD_some] at hf ⊢
    exact h.2 _ (by simp) hf
  · simp [hi, PageRec.freed]

/-- A page number outside the directory has no bands. -/
theorem PageStore.page_out {p : PageStore} {i : Nat} (hi : ¬ i < 32) : p.page i = PageRec.freed := by
  simp [PageStore.page, hi]

/-- Bands moved between one page's chain and the free list, none lost and none made, keep the Page Store safe. -/
theorem PageStore.put_ok {p : PageStore} (h : p.ok) {i : Nat} {r : PageRec} {fl : List Band}
    (hr : r.state = .free → r.chain = []) (hp : List.Perm (fl ++ r.chain) (p.freeList ++ (p.page i).chain))
    (hout : ¬ i < 32 → r.chain = []) : (p.put i r fl).ok := by
  by_cases hi : i < 32
  · constructor
    · have h1 := p.held_put i r fl hi
      refine List.Perm.trans ?_ h.1
      have h2 : List.Perm ((p.page i).chain ++ (fl ++ (p.put i r fl).held)) ((p.page i).chain ++ (p.freeList ++ p.held)) := by
        refine (List.perm_append_comm_assoc _ _ _).trans ?_
        refine (h1.append_left fl).trans ?_
        rw [← List.append_assoc]
        refine (hp.append_right _).trans ?_
        rw [List.append_assoc]
        exact List.perm_append_comm_assoc _ _ _
      exact (List.perm_append_left_iff _).1 h2
    · intro x hx hf
      have : x ∈ (p.pages.setIfInBounds i r).toList := hx
      rw [Vector.toList_setIfInBounds] at this
      rcases List.mem_or_eq_of_mem_set this with h3 | h3
      · exact h.2 x h3 hf
      · exact h3 ▸ hr (h3 ▸ hf)
  · have hs : p.pages.setIfInBounds i r = p.pages := by
      apply Vector.ext; intro j hj
      simp [Vector.getElem_setIfInBounds]
      omega
    have hb := PageStore.page_out (p := p) hi
    have hfl : List.Perm fl p.freeList := by
      simpa [hout hi, hb, PageRec.freed] using hp
    refine ⟨?_, by simpa [PageStore.put, hs] using h.2⟩
    simpa [PageStore.put, PageStore.held, hs] using (hfl.append_right _).trans h.1

end Sys2Proof.Machine
end

