-- ==== Sys2Proof/Laws/Effect.lean ====
section
/-! SUPPORT. What the operations inside a command can do, said once: they keep page memory, tables, FIFOs, parser and replies
as they are, and every part within its bounds. -/

namespace Sys2Proof.Machine

/-- What every command keeps: the queue of commands, time's direction, and each part of a safe state. -/
structure Keeps (s t : State) : Prop where
  pending : t.pending = s.pending
  now : s.now ≤ t.now
  mem : s.mem.wf = true → t.mem.wf = true
  tables : s.tables.ok → t.tables.ok
  dram : s.dram.ok → t.dram.ok
  store : s.store.ok → t.store.ok
  link : s.link.ok → t.link.ok
  print : s.print.ok → t.print.ok
  motS : s.motS.ok → t.motS.ok
  motP : s.motP.ok → t.motP.ok

/-- What an operation inside a command does not touch, and what it keeps within its bounds. -/
structure Effect (s t : State) : Prop where
  now : t.now = s.now
  pending : t.pending = s.pending
  mem : t.mem = s.mem
  tables : t.tables = s.tables
  down : t.link.down = s.link.down
  up : t.link.up = s.link.up
  parser : t.link.parser = s.link.parser
  replies : t.link.replies = s.link.replies
  dataOut : t.link.dataOut = s.link.dataOut
  dram : s.dram.ok → t.dram.ok
  store : s.store.ok → t.store.ok
  link : s.link.ok → t.link.ok
  print : s.print.ok → t.print.ok
  motS : s.motS.ok → t.motS.ok
  motP : s.motP.ok → t.motP.ok

theorem Keeps.refl (s : State) : Keeps s s :=
  ⟨rfl, Nat.le_refl _, id, id, id, id, id, id, id, id⟩

theorem Keeps.trans {s t u : State} (h : Keeps s t) (k : Keeps t u) : Keeps s u :=
  ⟨k.pending.trans h.pending, Nat.le_trans h.now k.now, k.mem ∘ h.mem, k.tables ∘ h.tables, k.dram ∘ h.dram,
    k.store ∘ h.store, k.link ∘ h.link, k.print ∘ h.print, k.motS ∘ h.motS, k.motP ∘ h.motP⟩

theorem Effect.refl (s : State) : Effect s s :=
  ⟨rfl, rfl, rfl, rfl, rfl, rfl, rfl, rfl, rfl, id, id, id, id, id, id⟩

theorem Effect.trans {s t u : State} (h : Effect s t) (k : Effect t u) : Effect s u :=
  ⟨k.now.trans h.now, k.pending.trans h.pending, k.mem.trans h.mem, k.tables.trans h.tables, k.down.trans h.down,
    k.up.trans h.up, k.parser.trans h.parser, k.replies.trans h.replies, k.dataOut.trans h.dataOut, k.dram ∘ h.dram,
    k.store ∘ h.store, k.link ∘ h.link, k.print ∘ h.print, k.motS ∘ h.motS, k.motP ∘ h.motP⟩

theorem Effect.keeps {s t : State} (h : Effect s t) : Keeps s t :=
  ⟨h.pending, Nat.le_of_eq h.now.symm, fun k => h.mem ▸ k, fun k => h.tables ▸ k, h.dram, h.store, h.link, h.print,
    h.motS, h.motP⟩

variable {s x : State}

/-! ### Updates of one part -/

theorem State.withScan_effect {u : ScanUnit} (h : Effect s x) : Effect s (x.withScan u) :=
  h.trans ⟨rfl, rfl, rfl, rfl, rfl, rfl, rfl, rfl, rfl, id, id, id, id, id, id⟩

theorem State.withMon_effect {u : Monitor} (h : Effect s x) : Effect s (x.withMon u) :=
  h.trans ⟨rfl, rfl, rfl, rfl, rfl, rfl, rfl, rfl, rfl, id, id, id, id, id, id⟩

theorem State.withPower_effect {u : Power} (h : Effect s x) : Effect s (x.withPower u) :=
  h.trans ⟨rfl, rfl, rfl, rfl, rfl, rfl, rfl, rfl, rfl, id, id, id, id, id, id⟩

theorem State.withPrint_effect {u : PrintUnit} (h : Effect s x) (hu : u.queue.length ≤ x.print.queue.length) :
    Effect s (x.withPrint u) :=
  h.trans ⟨rfl, rfl, rfl, rfl, rfl, rfl, rfl, rfl, rfl, id, id, id, fun k => Nat.le_trans hu k, id, id⟩

theorem State.withDram_effect {u : Dram} (h : Effect s x) (hu : x.dram.ok → u.ok) : Effect s (x.withDram u) :=
  h.trans ⟨rfl, rfl, rfl, rfl, rfl, rfl, rfl, rfl, rfl, hu, id, id, id, id, id⟩

theorem State.withStore_effect {u : PageStore} (h : Effect s x) (hu : x.store.ok → u.ok) : Effect s (x.withStore u) :=
  h.trans ⟨rfl, rfl, rfl, rfl, rfl, rfl, rfl, rfl, rfl, id, hu, id, id, id, id⟩

theorem State.withMotS_effect {c : Channel} (h : Effect s x) (hc : x.motS.ok → c.ok) : Effect s (x.withMotS c) :=
  h.trans ⟨rfl, rfl, rfl, rfl, rfl, rfl, rfl, rfl, rfl, id, id, id, id, hc, id⟩

theorem State.withMotP_effect {c : Channel} (h : Effect s x) (hc : x.motP.ok → c.ok) : Effect s (x.withMotP c) :=
  h.trans ⟨rfl, rfl, rfl, rfl, rfl, rfl, rfl, rfl, rfl, id, id, id, id, id, hc⟩

theorem State.withMot_effect {m : Motor} {c : Channel} (h : Effect s x) (hc : (x.mot m).ok → c.ok) :
    Effect s (x.withMot m c) := by
  unfold State.withMot
  split
  · split
    · exact State.withMotS_effect h hc
    · exact State.withMon_effect (State.withMotS_effect h hc)
  · exact State.withMotP_effect h hc

/-- A change of the link that leaves its FIFOs, parser, replies and data lines. -/
theorem State.withLink_effect {l : Link} (h : Effect s x) (hd : l.down = x.link.down) (hu : l.up = x.link.up)
    (hp : l.parser = x.link.parser) (hr : l.replies = x.link.replies) (ho : l.dataOut = x.link.dataOut)
    (hl : x.link.ok → l.ok) : Effect s (x.withLink l) :=
  h.trans ⟨rfl, rfl, rfl, rfl, hd, hu, hp, hr, ho, id, id, hl, id, id, id⟩

/-! ### Upstream queues -/

theorem Link.choose_ok {l : Link} (w : Bool) (h : l.ok) : (l.choose w).ok := by
  unfold Link.choose; split <;> exact h

theorem Link.push_ok {l : Link} (e : Event) (h : l.ok) : (l.push e).ok := by
  obtain ⟨h1, h2, h3, h4, h5, h6⟩ := h
  unfold Link.push
  split
  · split
    · refine ⟨h1, h2, h3, ?_, h5, h6⟩
      rw [List.length_append, List.length_singleton]; omega
    · exact ⟨h1, h2, h3, h4, by simp, h6⟩
  · refine ⟨h1, h2, h3, h4, ?_, h6⟩
    intro c hc
    simp only [Option.mem_def, Option.some.injEq] at hc
    omega

theorem State.choose_effect (h : Effect s x) : Effect s x.choose :=
  State.withLink_effect h (by simp) (by simp) (by simp) (by simp) (by simp) (Link.choose_ok _)

theorem State.raise_effect {e : Event} (h : Effect s x) : Effect s (x.raise e) :=
  State.choose_effect
    (State.withLink_effect h (by simp) (by simp) (by simp) (by simp) (by simp) (Link.push_ok e))

theorem State.raiseAll_effect {es : List Event} (h : Effect s x) : Effect s (x.raiseAll es) := by
  induction es generalizing x with
  | nil => exact h
  | cons e es ih => exact ih (State.raise_effect h)

/-! ### Parts of units -/

theorem State.withJob_effect {j : ScanJob} (h : Effect s x) : Effect s (x.withJob j) := State.withScan_effect h

theorem State.withCopy_effect {c : CopyRec} (h : Effect s x) : Effect s (x.withCopy c) :=
  State.withPrint_effect h (Nat.le_refl _)

theorem State.withReadBuf_effect {b : ReadBuf} (h : Effect s x) : Effect s (x.withReadBuf b) :=
  State.withLink_effect h rfl rfl rfl rfl rfl id

theorem State.withWriter_effect {j : Option LinkJob} (h : Effect s x) : Effect s (x.withWriter j) :=
  State.withLink_effect h rfl rfl rfl rfl rfl id

theorem State.withReads_effect {es : List ReadEntry} (h : Effect s x) (hl : es.length ≤ x.link.reads.length) :
    Effect s (x.withReads es) :=
  State.withLink_effect h rfl rfl rfl rfl rfl fun k => ⟨k.1, k.2.1, k.2.2.1, k.2.2.2.1, k.2.2.2.2.1, Nat.le_trans hl k.2.2.2.2.2⟩

theorem State.withBoot_effect {b : BootRec} (h : Effect s x) : Effect s (x.withBoot b) := State.withPower_effect h

theorem State.withChannel_effect {n : Nat} {r : AnalogRec} (h : Effect s x) : Effect s (x.withChannel n r) :=
  State.withMon_effect h

theorem State.withInput_effect {n : Nat} {r : InputRec} (h : Effect s x) : Effect s (x.withInput n r) :=
  State.withMon_effect h

/-! ### The controller -/

theorem State.submit_effect {r : Request} (h : Effect s x) : Effect s (x.submit r) :=
  State.withDram_effect h (Dram.submit_ok _ _ _)

theorem State.withdraw_effect {c : ReqClass} (h : Effect s x) : Effect s (x.withdraw c) :=
  State.withDram_effect h (Dram.withdraw_ok _)

theorem State.disown_effect {p : Request → Bool} (h : Effect s x) : Effect s (x.disown p) :=
  State.withDram_effect h (Dram.disown_ok _)

theorem State.endTransfer_effect (h : Effect s x) : Effect s x.endTransfer :=
  State.withDram_effect h fun k => Dram.startAuto_ok _ _ _ (Dram.finish_ok _ k)

theorem State.outlived_effect (h : Effect s x) : Effect s x.outlived := State.withDram_effect h Dram.outlived_ok

/-! ### Pages -/

/-- A record replaced by one with the same bands. -/
theorem State.withPage_effect {p : Nat} {r : PageRec} (h : Effect s x) (hc : r.chain = (x.page p).chain)
    (hs : r.state = .free → (x.page p).state = .free ∨ (x.page p).chain = []) : Effect s (x.withPage p r) := by
  refine State.withStore_effect h fun k => ?_
  have := PageStore.put_ok (i := p) (r := r) (fl := x.store.freeList) k ?_ (by rw [hc]; rfl) ?_
  · simpa [PageStore.put] using this
  · intro hf
    rw [hc]
    exact (hs hf).elim (fun f => PageStore.free_chain k f) id
  · intro ho
    rw [hc, State.page_eq, PageStore.page_out ho]; rfl

/-- A record replaced by one in the same state with the same bands. -/
theorem State.withPage_same_effect {p : Nat} {r : PageRec} (h : Effect s x) (hc : r.chain = (x.page p).chain)
    (hs : r.state = (x.page p).state) : Effect s (x.withPage p r) :=
  State.withPage_effect h hc fun k => Or.inl (hs ▸ k)

/-! ### Motors -/

theorem State.requestMove_effect {m : Motor} {n : Nat} {r : MoveReq} (h : Effect s x) : Effect s (x.requestMove m n r) :=
  State.withMot_effect h fun k => by simpa [Channel.ok] using k

theorem State.requestStop_effect {m : Motor} {o : Owner} (h : Effect s x) : Effect s (x.requestStop m o).1 :=
  State.withMot_effect h fun k => by simpa [Channel.ok] using k

theorem State.holdAfterRest_effect {m : Motor} (h : Effect s x) : Effect s (x.holdAfterRest m) := by
  unfold State.holdAfterRest
  dsimp only
  split
  · exact State.withMot_effect h fun k => by simpa [Channel.ok] using k
  · exact h

theorem State.haltBoth_effect (h : Effect s x) : Effect s x.haltBoth :=
  State.withMot_effect (State.withMot_effect h fun k => by simpa [Channel.ok, State.mot] using k)
    fun k => by simpa [Channel.ok, State.mot] using k

theorem State.resetBoth_effect (h : Effect s x) : Effect s x.resetBoth :=
  State.withMot_effect (State.withMot_effect h fun k => by simpa [Channel.ok, State.mot] using k)
    fun k => by simpa [Channel.ok, State.mot] using k

theorem State.offBoth_effect (h : Effect s x) : Effect s x.offBoth :=
  State.withMot_effect (State.withMot_effect h fun k => by simpa [Channel.ok, State.mot] using k)
    fun k => by simpa [Channel.ok, State.mot] using k

end Sys2Proof.Machine
end

