-- ==== Sys2Proof/Laws/BandsEffect.lean ====
section
/-! SUPPORT. What the operations of shared page memory can do (01, 03.4, 08.4). -/

namespace Sys2Proof.Machine

variable {s x : State}

/-! ### Bands -/

/-- Bands moved between a page's chain and the free list. -/
theorem State.put_effect {p : Nat} {r : PageRec} {fl : List Band} (h : Effect s x)
    (hr : x.store.ok → r.state = .free → r.chain = []) (hp : List.Perm (fl ++ r.chain) (x.store.freeList ++ (x.page p).chain))
    (hout : ¬ p < 32 → r.chain = []) : Effect s (x.withStore (x.store.put p r fl)) :=
  State.withStore_effect h fun k => PageStore.put_ok k (hr k) hp hout

theorem State.page_out {p : Nat} (hp : ¬ p < 32) : x.page p = PageRec.freed := PageStore.page_out hp

theorem State.grantBand_effect {p : Nat} (h : Effect s x) : Effect s (x.grantBand p) := by
  unfold State.grantBand
  split
  · exact h
  · rename_i b rest hb
    split
    · rename_i ho
      refine State.put_effect (x := x) (fl := rest)
        (r := { x.page p with chain := (x.page p).chain ++ [b], filling := true }) h ?_ ?_ ?_
      · intro _ hf
        rw [show (x.page p).state = PageState.free from hf] at ho
        exact absurd ho (by decide)
      · rw [hb]
        simp only [List.cons_append]
        rw [← List.append_assoc]
        exact List.perm_append_singleton _ _
      · intro hn
        rw [State.page_out hn] at ho
        exact absurd ho (by decide)
    · exact h

theorem State.capture_effect (h : Effect s x) : Effect s x.capture := by
  unfold State.capture
  try dsimp only
  repeat' (with_reducible first | exact h | apply State.withScan_effect | apply State.raise_effect | apply State.withPage_same_effect | split)
  all_goals first | rfl

theorem State.nextPatternReadout_effect (h : Effect s x) : Effect s x.nextPatternReadout := by
  unfold State.nextPatternReadout
  try dsimp only
  repeat' (with_reducible first | exact h | apply State.capture_effect | split)

theorem State.scanResume_effect (h : Effect s x) : Effect s x.scanResume := by
  unfold State.scanResume
  try dsimp only
  repeat' (with_reducible first | exact h | apply State.raise_effect | apply State.withJob_effect | apply State.requestMove_effect | apply State.capture_effect | apply State.nextPatternReadout_effect | split)

theorem State.scanStall_effect (h : Effect s x) : Effect s x.scanStall := by
  unfold State.scanStall
  try dsimp only
  repeat' (with_reducible first | exact h | apply State.raise_effect | apply State.withJob_effect | apply State.scanResume_effect | split)

theorem State.scanMemoryLow_effect (h : Effect s x) : Effect s x.scanMemoryLow := by
  unfold State.scanMemoryLow
  try dsimp only
  repeat' (with_reducible first | exact h | apply State.raise_effect | apply State.withJob_effect | apply State.requestStop_effect | apply State.holdAfterRest_effect | apply State.capture_effect | apply State.scanStall_effect | split)

theorem State.scanMemoryAvailable_effect (h : Effect s x) : Effect s x.scanMemoryAvailable := by
  unfold State.scanMemoryAvailable
  try dsimp only
  repeat' (with_reducible first | exact h | apply State.withJob_effect | apply State.scanResume_effect | split)

theorem State.lowCheck_effect (h : Effect s x) : Effect s x.lowCheck := by
  unfold State.lowCheck
  try dsimp only
  repeat' (with_reducible first | exact h | apply State.withStore_effect | apply State.scanMemoryLow_effect | split)
  all_goals first | rfl | exact id

theorem State.requestScanWrite_effect {w : ScanWrite} (h : Effect s x) : Effect s (x.requestScanWrite w) := by
  unfold State.requestScanWrite
  try dsimp only
  repeat' (with_reducible first | exact h | apply State.withScan_effect | apply State.submit_effect | split)

theorem State.scanAdvance_effect {n : Nat} (h : Effect s x) : Effect s (x.scanAdvance n) := by
  induction n generalizing x with
  | zero => exact h
  | succ n ih =>
    unfold State.scanAdvance
    repeat' (with_reducible first | exact h | apply ih | apply State.lowCheck_effect | apply State.withScan_effect | apply State.grantBand_effect | apply State.requestScanWrite_effect | apply State.withStore_effect | split)
    all_goals exact id

theorem State.grantScanWaiting_effect (h : Effect s x) : Effect s x.grantScanWaiting := by
  unfold State.grantScanWaiting
  try dsimp only
  repeat' (with_reducible first | exact h | apply State.withScan_effect | apply State.withStore_effect | apply State.grantBand_effect | apply State.lowCheck_effect | apply State.scanAdvance_effect | split)
  all_goals first | rfl | exact id

theorem State.linkRequest_effect (h : Effect s x) : Effect s x.linkRequest := by
  unfold State.linkRequest
  try dsimp only
  repeat' (with_reducible first | exact h | apply State.submit_effect | split)

theorem State.linkAdvance_effect (h : Effect s x) : Effect s x.linkAdvance := by
  unfold State.linkAdvance
  try dsimp only
  repeat' (with_reducible first | exact h | apply State.withStore_effect | apply State.grantBand_effect | apply State.linkRequest_effect | split)
  all_goals first | rfl | exact id

theorem State.lookLink_effect (h : Effect s x) : Effect s x.lookLink := by
  unfold State.lookLink
  try dsimp only
  repeat' (with_reducible first | exact h | apply State.withStore_effect | apply State.grantBand_effect | apply State.linkRequest_effect | split)
  all_goals first | rfl | exact id

theorem State.availableCheck_effect (h : Effect s x) : Effect s x.availableCheck := by
  unfold State.availableCheck
  try dsimp only
  repeat' (with_reducible first | exact h | apply State.withStore_effect | apply State.scanMemoryAvailable_effect | split)
  all_goals first | rfl | exact id

theorem State.lookWaiting_effect (h : Effect s x) : Effect s x.lookWaiting := by
  unfold State.lookWaiting
  try dsimp only
  repeat' (with_reducible first | exact h | apply State.grantScanWaiting_effect | apply State.lookLink_effect | apply State.availableCheck_effect)

theorem State.disownWrites_effect {p : Nat} (h : Effect s x) : Effect s (x.disownWrites p) := by
  unfold State.disownWrites
  try dsimp only
  repeat' (with_reducible first | exact h | apply State.disown_effect)

theorem State.releasePage_effect {p : Nat} (h : Effect s x) : Effect s (x.releasePage p) := by
  unfold State.releasePage
  refine State.lookWaiting_effect (State.raise_effect (State.disownWrites_effect ?_))
  exact State.put_effect (x := x) (r := PageRec.freed) h (fun _ _ => rfl) (by simp [PageRec.freed]) (fun _ => rfl)

theorem State.autoRelease_effect {p : Nat} (h : Effect s x) : Effect s (x.autoRelease p) := by
  unfold State.autoRelease
  try dsimp only
  repeat' (with_reducible first | exact h | apply State.releasePage_effect | split)

theorem State.consume_effect {p n : Nat} (h : Effect s x) : Effect s (x.consume p n) := by
  induction n generalizing x with
  | zero => exact h
  | succ n ih =>
    unfold State.consume
    dsimp only
    split
    · exact h
    · rename_i b rest hb
      split
      · refine ih (State.lookWaiting_effect ?_)
        refine State.put_effect (x := x) (fl := x.store.freeList ++ [b])
          (r := { x.page p with chain := rest, base := (x.page p).base + (x.page p).bandUnit }) h ?_ ?_ ?_
        · intro k hf
          have := PageStore.free_chain k (i := p) hf
          rw [← State.page_eq, hb] at this
          exact absurd this (by simp)
        · rw [hb]
          simp only [List.append_assoc, List.singleton_append]
          exact List.Perm.refl _
        · intro hn
          rw [State.page_out hn] at hb
          exact absurd hb (by simp [PageRec.freed])
      · exact h

theorem State.consumeAll_effect {p : Nat} (h : Effect s x) : Effect s (x.consumeAll p) := by
  unfold State.consumeAll
  try dsimp only
  repeat' (with_reducible first | exact h | apply State.consume_effect)

theorem State.raiseMark_effect {p pos : Nat} (h : Effect s x) : Effect s (x.raiseMark p pos) := by
  unfold State.raiseMark
  try dsimp only
  repeat' (with_reducible first | exact h | apply State.autoRelease_effect | apply State.consumeAll_effect | apply State.withPage_same_effect | split)
  all_goals first | rfl

end Sys2Proof.Machine
end

