-- ==== Sys2Proof/Laws/PrintEffect.lean ====
section
/-! SUPPORT. What the operations of the link read queue, the Print Unit and the pages can do (01, 04, 05, 08.5). -/

namespace Sys2Proof.Machine

variable {s x : State}

/-! ### ReadQueue -/

theorem State.dropHold_effect {p : Nat} {k : Reader} (h : Effect s x) : Effect s (x.dropHold p k) := by
  unfold State.dropHold
  try dsimp only
  repeat' (with_reducible first | exact h | apply State.withPage_same_effect | split)
  all_goals rfl

theorem State.addHold_effect {p : Nat} {k : Reader} {start : Nat} (h : Effect s x) : Effect s (x.addHold p k start) := by
  unfold State.addHold
  try dsimp only
  repeat' (with_reducible first | exact h | apply State.withPage_same_effect | split)
  all_goals rfl

theorem State.completeRead_effect (h : Effect s x) : Effect s x.completeRead := by
  unfold State.completeRead
  try dsimp only
  repeat' (with_reducible first | exact h | apply State.raise_effect | apply State.withReads_effect | apply State.autoRelease_effect | apply State.dropHold_effect | split)
  all_goals first | rfl | exact id | exact Nat.le_refl _ | simp_all

theorem State.requestReadPiece_effect (h : Effect s x) : Effect s x.requestReadPiece := by
  unfold State.requestReadPiece
  try dsimp only
  repeat' (with_reducible first | exact h | apply State.withReads_effect | apply State.submit_effect | split)
  all_goals first | rfl | exact id | exact Nat.le_refl _ | simp_all

theorem State.readBegin_effect {n : Nat} (h : Effect s x) : Effect s (x.readBegin n) := by
  induction n generalizing x with
  | zero => exact h
  | succ n ih =>
    unfold State.readBegin
    dsimp only
    repeat' (with_reducible first | exact h | apply ih | apply State.requestReadPiece_effect | apply State.withReadBuf_effect | apply State.completeRead_effect | split)

theorem State.readOn_effect (h : Effect s x) : Effect s x.readOn := by
  unfold State.readOn
  try dsimp only
  repeat' (with_reducible first | exact h | apply State.readBegin_effect)

theorem State.readPieceEnded_effect {bytes : List Byte} (h : Effect s x) : Effect s (x.readPieceEnded bytes) := by
  unfold State.readPieceEnded
  try dsimp only
  repeat' (with_reducible first | exact h | apply State.choose_effect | apply State.withReadBuf_effect | apply State.requestReadPiece_effect | split)

theorem State.readPlaced_effect (h : Effect s x) : Effect s x.readPlaced := by
  unfold State.readPlaced
  try dsimp only
  repeat' (with_reducible first | exact h | apply State.withReadBuf_effect | apply State.withReads_effect | apply State.raiseMark_effect | apply State.completeRead_effect | apply State.readOn_effect | split)
  all_goals first | rfl | exact id | exact Nat.le_refl _ | simp_all

theorem State.dropRead_effect {e : ReadEntry} (h : Effect s x) : Effect s (x.dropRead e) := by
  unfold State.dropRead
  try dsimp only
  repeat' (with_reducible first | exact h | apply State.raise_effect | apply State.autoRelease_effect | apply State.dropHold_effect)

theorem State.dropReads_effect {es : List ReadEntry} (h : Effect s x) : Effect s (x.dropReads es) := by
  induction es generalizing x with
  | nil => exact h
  | cons e es ih => exact ih (State.dropRead_effect h)

theorem State.abandonRecord_effect (h : Effect s x) : Effect s x.abandonRecord := by
  unfold State.abandonRecord
  try dsimp only
  repeat' (with_reducible first | exact h | apply State.withLink_effect | apply State.withdraw_effect | apply State.disown_effect | split)
  all_goals first | rfl | exact id

theorem State.cancelReads_effect {field : Nat} (h : Effect s x) : Effect s (x.cancelReads field) := by
  unfold State.cancelReads
  refine State.readOn_effect (State.dropReads_effect (State.choose_effect ?_))
  split
  · exact State.withReads_effect (State.abandonRecord_effect h) (List.length_filter_le _ _)
  · exact State.withReads_effect h (List.length_filter_le _ _)

/-! ### Print -/

theorem State.withEntry_effect {e : PrintEntry} (h : Effect s x) (hq : x.print.queue ≠ []) : Effect s (x.withEntry e) := by
  refine State.withPrint_effect h ?_
  cases hx : x.print.queue with
  | nil => exact absurd hx hq
  | cons a l => simp

theorem State.requestFetch_effect (h : Effect s x) : Effect s x.requestFetch := by
  unfold State.requestFetch
  try dsimp only
  repeat' (with_reducible first | exact h | apply State.submit_effect | split)

theorem State.fetchNow_effect (h : Effect s x) : Effect s x.fetchNow := by
  unfold State.fetchNow
  try dsimp only
  repeat' (with_reducible first | exact h | apply State.withCopy_effect | apply State.withEntry_effect | apply State.requestFetch_effect | split)
  all_goals first | rfl | exact id | exact Nat.le_refl _ | simp_all

theorem State.askFetch_effect (h : Effect s x) : Effect s x.askFetch := by
  unfold State.askFetch
  try dsimp only
  repeat' (with_reducible first | exact h | apply State.fetchNow_effect | split)

theorem State.shiftTakes_effect (h : Effect s x) : Effect s x.shiftTakes := by
  unfold State.shiftTakes
  try dsimp only
  repeat' (with_reducible first | exact h | apply State.withCopy_effect | apply State.askFetch_effect)

theorem State.fetchArrived_effect {r : Request} {bytes : List Byte} (h : Effect s x) : Effect s (x.fetchArrived r bytes) := by
  unfold State.fetchArrived
  try dsimp only
  repeat' (with_reducible first | exact h | apply State.withCopy_effect | apply State.shiftTakes_effect | split)

theorem State.dropFetch_effect (h : Effect s x) : Effect s x.dropFetch := by
  unfold State.dropFetch
  try dsimp only
  repeat' (with_reducible first | exact h | apply State.withCopy_effect | apply State.withdraw_effect | apply State.disown_effect)

theorem State.resetCursor_effect (h : Effect s x) : Effect s x.resetCursor := by
  unfold State.resetCursor
  try dsimp only
  repeat' (with_reducible first | exact h | apply State.withCopy_effect | apply State.withEntry_effect | apply State.dropFetch_effect | split)
  all_goals first | rfl | exact id | exact Nat.le_refl _ | simp_all

theorem State.printMove_effect {ask : MoveAsk} (h : Effect s x) : Effect s (x.printMove ask) := by
  unfold State.printMove
  try dsimp only
  repeat' (with_reducible first | exact h | apply State.withCopy_effect | apply State.requestMove_effect | split)

theorem State.enterLead_effect (h : Effect s x) : Effect s x.enterLead := by
  unfold State.enterLead
  try dsimp only
  repeat' (with_reducible first | exact h | apply State.withPrint_effect | apply State.printMove_effect | split)
  all_goals rfl

theorem State.pauseReason_effect (h : Effect s x) : Effect s x.pauseReason := by
  unfold State.pauseReason
  try dsimp only
  repeat' (with_reducible first | exact h | apply State.raise_effect | apply State.withCopy_effect | split)

theorem State.suspend_effect {why : SuspendReason} (h : Effect s x) : Effect s (x.suspend why) := by
  unfold State.suspend
  try dsimp only
  repeat' (with_reducible first | exact h | apply State.withPrint_effect | apply State.raise_effect | split)
  all_goals rfl

theorem State.startCopy_effect {checked : Bool} (h : Effect s x) : Effect s (x.startCopy checked) := by
  unfold State.startCopy
  try dsimp only
  repeat' (with_reducible first | exact h | apply State.withPrint_effect | apply State.raise_effect | apply State.withCopy_effect | apply State.fetchNow_effect | apply State.enterLead_effect | apply State.pauseReason_effect | apply State.suspend_effect | split)
  all_goals rfl

theorem State.beginCopy_effect {fromStandby : Bool} (h : Effect s x) : Effect s (x.beginCopy fromStandby) := by
  unfold State.beginCopy
  try dsimp only
  repeat' (with_reducible first | exact h | apply State.withCopy_effect | apply State.startCopy_effect | split)

theorem State.nextEntry_effect (h : Effect s x) : Effect s x.nextEntry := by
  unfold State.nextEntry
  try dsimp only
  repeat' (with_reducible first | exact h | apply State.withPrint_effect | apply State.beginCopy_effect | split)
  all_goals rfl

theorem State.entryGone_effect {cancelled : Bool} (h : Effect s x) : Effect s (x.entryGone cancelled) := by
  unfold State.entryGone
  try dsimp only
  repeat' (with_reducible first | exact h | apply State.withPrint_effect | apply State.raise_effect | apply State.autoRelease_effect | apply State.dropHold_effect | apply State.nextEntry_effect | split)
  all_goals first | rfl | exact id | exact Nat.le_refl _ | simp_all

theorem State.leaveCut_effect (h : Effect s x) : Effect s x.leaveCut := by
  unfold State.leaveCut
  try dsimp only
  repeat' (with_reducible first | exact h | apply State.withPrint_effect | apply State.raise_effect | apply State.withEntry_effect | apply State.startCopy_effect | apply State.entryGone_effect | split)
  all_goals first | rfl | exact id | exact Nat.le_refl _ | simp_all

theorem State.enterCut_effect (h : Effect s x) : Effect s x.enterCut := by
  unfold State.enterCut
  try dsimp only
  repeat' (with_reducible first | exact h | apply State.withPrint_effect | apply State.leaveCut_effect | split)
  all_goals rfl

theorem State.trailRested_effect (h : Effect s x) : Effect s x.trailRested := by
  unfold State.trailRested
  try dsimp only
  repeat' (with_reducible first | exact h | apply State.withCopy_effect | apply State.enterCut_effect | split)

theorem State.trailFromRest_effect (h : Effect s x) : Effect s x.trailFromRest := by
  unfold State.trailFromRest
  try dsimp only
  repeat' (with_reducible first | exact h | apply State.withCopy_effect | apply State.printMove_effect | apply State.trailRested_effect | split)

theorem State.trailAtBoundary_effect (h : Effect s x) : Effect s x.trailAtBoundary := by
  unfold State.trailAtBoundary
  try dsimp only
  repeat' (with_reducible first | exact h | apply State.withMot_effect | apply State.withCopy_effect | split)
  all_goals first | rfl | exact id

theorem State.pausedTest_effect (h : Effect s x) : Effect s x.pausedTest := by
  unfold State.pausedTest
  try dsimp only
  repeat' (with_reducible first | exact h | apply State.raise_effect | apply State.withCopy_effect | apply State.printMove_effect | apply State.enterLead_effect | apply State.pauseReason_effect | apply State.trailFromRest_effect | split)

theorem State.pauseAtRest_effect (h : Effect s x) : Effect s x.pauseAtRest := by
  unfold State.pauseAtRest
  try dsimp only
  repeat' (with_reducible first | exact h | apply State.raise_effect | apply State.withCopy_effect | apply State.pausedTest_effect)

theorem State.paperRested_effect (h : Effect s x) : Effect s x.paperRested := by
  unfold State.paperRested
  try dsimp only
  repeat' (with_reducible first | exact h | apply State.withCopy_effect | apply State.suspend_effect | split)

theorem State.printRest_effect (h : Effect s x) : Effect s x.printRest := by
  unfold State.printRest
  try dsimp only
  repeat' (with_reducible first | exact h | apply State.trailRested_effect | apply State.trailFromRest_effect | apply State.pauseAtRest_effect | apply State.paperRested_effect | split)

theorem State.strobeIdle_effect (h : Effect s x) : Effect s x.strobeIdle := by
  unfold State.strobeIdle
  try dsimp only
  repeat' (with_reducible first | exact h | apply State.withCopy_effect | apply State.requestMove_effect | apply State.suspend_effect | apply State.enterCut_effect | split)

theorem State.latch_effect (h : Effect s x) : Effect s x.latch := by
  unfold State.latch
  try dsimp only
  repeat' (with_reducible first | exact h | apply State.withPrint_effect | apply State.withMot_effect | apply State.withCopy_effect | apply State.raiseMark_effect | apply State.askFetch_effect | apply State.shiftTakes_effect | split)
  all_goals first | rfl | exact id

theorem State.boundaryTests_effect (h : Effect s x) : Effect s x.boundaryTests := by
  unfold State.boundaryTests
  try dsimp only
  repeat' (with_reducible first | exact h | apply State.withCopy_effect | apply State.requestStop_effect | split)

theorem State.printBoundary_effect (h : Effect s x) : Effect s x.printBoundary := by
  unfold State.printBoundary
  try dsimp only
  repeat' (with_reducible first | exact h | apply State.withMot_effect | apply State.raise_effect | apply State.trailAtBoundary_effect | apply State.latch_effect | apply State.boundaryTests_effect | split)
  all_goals first | rfl | exact id

theorem State.printStep_effect (h : Effect s x) : Effect s x.printStep := by
  unfold State.printStep
  try dsimp only
  repeat' (with_reducible first | exact h | apply State.withMot_effect | apply State.withCopy_effect | apply State.printBoundary_effect | split)
  all_goals first | rfl | exact id | exact Nat.le_refl _ | (intro k; simpa [Channel.ok, State.mot] using k)

theorem State.stopAbandoned_effect (h : Effect s x) : Effect s x.stopAbandoned := by
  unfold State.stopAbandoned
  try dsimp only
  repeat' (with_reducible first | exact h | apply State.withCopy_effect | apply State.holdAfterRest_effect | apply State.printRest_effect | apply State.requestStop_effect | split)

theorem State.printPaper_effect (h : Effect s x) : Effect s x.printPaper := by
  unfold State.printPaper
  try dsimp only
  repeat' (with_reducible first | exact h | apply State.withCopy_effect | apply State.resetCursor_effect | apply State.paperRested_effect | apply State.stopAbandoned_effect | split)

theorem State.cutHead_effect (h : Effect s x) : Effect s x.cutHead := by
  unfold State.cutHead
  try dsimp only
  repeat' (with_reducible first | exact h | apply State.requestMove_effect | apply State.withPrint_effect | split)
  all_goals rfl

theorem State.printCover_effect (h : Effect s x) : Effect s x.printCover := by
  unfold State.printCover
  try dsimp only
  repeat' (with_reducible first | exact h | apply State.dropFetch_effect | apply State.resetCursor_effect | apply State.suspend_effect | apply State.entryGone_effect | apply State.leaveCut_effect | apply State.cutHead_effect | split)

theorem State.cancelActive_effect (h : Effect s x) : Effect s x.cancelActive := by
  unfold State.cancelActive
  try dsimp only
  repeat' (with_reducible first | exact h | apply State.withCopy_effect | apply State.dropFetch_effect | apply State.entryGone_effect | apply State.trailFromRest_effect | apply State.stopAbandoned_effect | split)

theorem State.dropPrint_effect {e : PrintEntry} (h : Effect s x) : Effect s (x.dropPrint e) := by
  unfold State.dropPrint
  try dsimp only
  repeat' (with_reducible first | exact h | apply State.raise_effect | apply State.autoRelease_effect | apply State.dropHold_effect)

theorem State.dropPrints_effect {es : List PrintEntry} (h : Effect s x) : Effect s (x.dropPrints es) := by
  induction es generalizing x with
  | nil => exact h
  | cons e es ih => exact ih (State.dropPrint_effect h)

theorem State.cancelPrints_effect {field : Nat} (h : Effect s x) : Effect s (x.cancelPrints field) := by
  unfold State.cancelPrints
  try dsimp only
  repeat' (with_reducible first | exact h | apply State.withPrint_effect | apply State.cancelActive_effect | apply State.dropPrints_effect | split)
  all_goals first | rfl | exact id | exact Nat.le_refl _ | simp_all [List.length_filter_le]

theorem State.wakeFetch_effect {p : Nat} (h : Effect s x) : Effect s (x.wakeFetch p) := by
  unfold State.wakeFetch
  try dsimp only
  repeat' (with_reducible first | exact h | apply State.fetchNow_effect | split)

theorem State.endFetch_effect {p : Nat} (h : Effect s x) : Effect s (x.endFetch p) := by
  unfold State.endFetch
  try dsimp only
  repeat' (with_reducible first | exact h | apply State.withCopy_effect | split)

theorem State.printPageTest_effect {p : Nat} (h : Effect s x) : Effect s (x.printPageTest p) := by
  unfold State.printPageTest
  try dsimp only
  repeat' (with_reducible first | exact h | apply State.pausedTest_effect | split)

/-! ### Pages -/

theorem State.wakeReaders_effect {p : Nat} (h : Effect s x) : Effect s (x.wakeReaders p) := by
  unfold State.wakeReaders
  try dsimp only
  repeat' (with_reducible first | exact h | apply State.readOn_effect | apply State.wakeFetch_effect | apply State.printPageTest_effect)

theorem State.commit_effect {p n : Nat} (h : Effect s x) : Effect s (x.commit p n) := by
  unfold State.commit
  try dsimp only
  repeat' (with_reducible first | exact h | apply State.consumeAll_effect | apply State.wakeReaders_effect | apply State.withPage_same_effect | split)
  all_goals rfl

theorem PageRec.close_perm (r : PageRec) (b : Bool) (fl : List Band) :
    List.Perm ((fl ++ r.returned) ++ (r.close b).chain) (fl ++ r.chain) := by
  rw [List.append_assoc]
  refine List.Perm.append_left fl ?_
  unfold PageRec.returned PageRec.close
  cases hf : r.filling with
  | false => simp
  | true =>
    simp only [if_true]
    cases hc : r.chain.getLast? with
    | none => simp [List.getLast?_eq_none_iff.1 hc]
    | some y =>
      have := List.dropLast_append_getLast? y hc
      refine List.perm_append_comm.trans ?_
      simp [this]

theorem State.shutPage_effect {p : Nat} {b : Bool} (h : Effect s x) : Effect s (x.shutPage p b) := by
  unfold State.shutPage
  refine State.disownWrites_effect ?_
  refine State.put_effect (x := x) (p := p) (r := (x.page p).close b) (fl := x.store.freeList ++ (x.page p).returned) h ?_ ?_ ?_
  · intro _ hf
    exact absurd hf (by simp [PageRec.close])
  · exact PageRec.close_perm _ _ _
  · intro hn
    rw [State.page_out hn]
    rfl

theorem State.tellReaders_effect {p : Nat} (h : Effect s x) : Effect s (x.tellReaders p) := by
  unfold State.tellReaders
  try dsimp only
  repeat' (with_reducible first | exact h | apply State.readOn_effect | apply State.endFetch_effect | apply State.printPageTest_effect)

theorem State.closePage_effect {p : Nat} {truncated : Bool} (h : Effect s x) : Effect s (x.closePage p truncated) := by
  unfold State.closePage
  try dsimp only
  repeat' (with_reducible first | exact h | apply State.raise_effect | apply State.lookWaiting_effect | apply State.autoRelease_effect | apply State.shutPage_effect | apply State.tellReaders_effect)

end Sys2Proof.Machine
end

