-- ==== Sys2Proof/Laws/ScanEffect.lean ====
section
/-! SUPPORT. What the operations of the Scan Unit, the Sensor Monitor and the step events can do (03, 06, 07). -/

namespace Sys2Proof.Machine

variable {s x : State}

/-! ### Scan -/

theorem State.scanIdle_effect (h : Effect s x) : Effect s x.scanIdle := by
  unfold State.scanIdle
  try dsimp only
  repeat' (with_reducible first | exact h | apply State.withStore_effect | apply State.withScan_effect | apply State.lookLink_effect | split)
  all_goals first | rfl | exact id

theorem State.ejectCheck_effect (h : Effect s x) : Effect s x.ejectCheck := by
  unfold State.ejectCheck
  try dsimp only
  repeat' (with_reducible first | exact h | apply State.raise_effect | apply State.withJob_effect | apply State.closePage_effect | apply State.scanIdle_effect | split)

theorem State.enterEject_effect (h : Effect s x) : Effect s x.enterEject := by
  unfold State.enterEject
  try dsimp only
  repeat' (with_reducible first | exact h | apply State.withScan_effect | apply State.withMot_effect | apply State.withJob_effect | apply State.requestMove_effect | split)
  all_goals first | rfl | exact id

theorem State.endCaptures_effect {cut : Bool} (h : Effect s x) : Effect s (x.endCaptures cut) := by
  unfold State.endCaptures
  try dsimp only
  repeat' (with_reducible first | exact h | apply State.withScan_effect | apply State.withdraw_effect)

theorem State.scanAbort_effect {why : AbortReason} {cut : Bool} (h : Effect s x) : Effect s (x.scanAbort why cut) := by
  unfold State.scanAbort
  try dsimp only
  repeat' (with_reducible first | exact h | apply State.withScan_effect | apply State.withStore_effect | apply State.raise_effect | apply State.lookLink_effect | apply State.closePage_effect | apply State.endCaptures_effect | split)
  all_goals first | rfl | exact id

theorem State.scanAbortStop_effect {why : AbortReason} (h : Effect s x) : Effect s (x.scanAbortStop why) := by
  unfold State.scanAbortStop
  try dsimp only
  repeat' (with_reducible first | exact h | apply State.holdAfterRest_effect | apply State.requestStop_effect | apply State.scanAbort_effect | split)

theorem State.endCalibration_effect (h : Effect s x) : Effect s x.endCalibration := by
  unfold State.endCalibration
  try dsimp only
  repeat' (with_reducible first | exact h | apply State.withScan_effect)

theorem State.scanCover_effect (h : Effect s x) : Effect s x.scanCover := by
  unfold State.scanCover
  try dsimp only
  repeat' (with_reducible first | exact h | apply State.withScan_effect | apply State.withJob_effect | apply State.capture_effect | apply State.ejectCheck_effect | apply State.scanAbort_effect | apply State.endCalibration_effect | split)

theorem State.enterFeedIn_effect (h : Effect s x) : Effect s x.enterFeedIn := by
  unfold State.enterFeedIn
  try dsimp only
  repeat' (with_reducible first | exact h | apply State.withScan_effect | apply State.requestMove_effect)

theorem State.scanBegin_effect (h : Effect s x) : Effect s x.scanBegin := by
  unfold State.scanBegin
  try dsimp only
  repeat' (with_reducible first | exact h | apply State.withJob_effect | apply State.capture_effect | apply State.nextPatternReadout_effect | apply State.enterFeedIn_effect | split)

theorem State.firstBoundary_effect (h : Effect s x) : Effect s x.firstBoundary := by
  unfold State.firstBoundary
  try dsimp only
  repeat' (with_reducible first | exact h | apply State.withMot_effect | apply State.withJob_effect | apply State.capture_effect | split)
  all_goals first | rfl | exact id | exact Nat.le_refl _ | (intro k; simpa [Channel.ok, State.mot] using k)

theorem State.lampTest_effect (h : Effect s x) : Effect s x.lampTest := by
  unfold State.lampTest
  try dsimp only
  repeat' (with_reducible first | exact h | apply State.raise_effect | split)

theorem State.leadEdge_effect (h : Effect s x) : Effect s x.leadEdge := by
  unfold State.leadEdge
  try dsimp only
  repeat' (with_reducible first | exact h | apply State.raise_effect | apply State.withJob_effect | apply State.firstBoundary_effect | apply State.lampTest_effect | split)

theorem State.scanStep_effect {sample : Bool} (h : Effect s x) : Effect s (x.scanStep sample) := by
  unfold State.scanStep
  try dsimp only
  repeat' (with_reducible first | exact h | apply State.withMot_effect | apply State.withJob_effect | apply State.capture_effect | apply State.ejectCheck_effect | apply State.enterEject_effect | apply State.scanAbortStop_effect | apply State.firstBoundary_effect | apply State.leadEdge_effect | split)
  all_goals first | rfl | exact id | exact Nat.le_refl _ | (intro k; simpa [Channel.ok, State.mot] using k)

theorem State.scanRest_effect (h : Effect s x) : Effect s x.scanRest := by
  unfold State.scanRest
  try dsimp only
  repeat' (with_reducible first | exact h | apply State.withJob_effect | apply State.capture_effect | apply State.scanStall_effect | apply State.ejectCheck_effect | split)

theorem State.lineRead_effect {r : Readout} {samples : List Byte} (h : Effect s x) : Effect s (x.lineRead r samples) := by
  unfold State.lineRead
  try dsimp only
  repeat' (with_reducible first | exact h | apply State.withScan_effect | split)

theorem State.patternCount_effect (h : Effect s x) : Effect s x.patternCount := by
  unfold State.patternCount
  try dsimp only
  repeat' (with_reducible first | exact h | apply State.withJob_effect | apply State.capture_effect | apply State.enterEject_effect | split)

theorem State.readoutOver_effect {samples : List Byte} (h : Effect s x) : Effect s (x.readoutOver samples) := by
  unfold State.readoutOver
  try dsimp only
  repeat' (with_reducible first | exact h | apply State.withScan_effect | apply State.nextPatternReadout_effect | apply State.scanAdvance_effect | apply State.ejectCheck_effect | apply State.lineRead_effect | apply State.patternCount_effect | split)

theorem State.jamTest_effect (h : Effect s x) : Effect s x.jamTest := by
  unfold State.jamTest
  try dsimp only
  repeat' (with_reducible first | exact h | apply State.capture_effect | apply State.scanAbortStop_effect | split)

theorem State.scanWriteOver_effect {r : Request} (h : Effect s x) : Effect s (x.scanWriteOver r) := by
  unfold State.scanWriteOver
  try dsimp only
  repeat' (with_reducible first | exact h | apply State.withScan_effect | apply State.scanAdvance_effect | apply State.commit_effect | apply State.ejectCheck_effect | apply State.jamTest_effect | split)

theorem State.beginReading_effect (h : Effect s x) : Effect s x.beginReading := by
  unfold State.beginReading
  try dsimp only
  repeat' (with_reducible first | exact h | apply State.withScan_effect)

/-! ### Monitor -/

theorem State.bandChanged_effect {ch : Nat} {masked : Bool} (h : Effect s x) : Effect s (x.bandChanged ch masked) := by
  unfold State.bandChanged
  try dsimp only
  repeat' (with_reducible first | exact h | apply State.raise_effect | apply State.pausedTest_effect | split)

theorem State.takeSample_effect {ch raw : Nat} {masked : Bool} (h : Effect s x) : Effect s (x.takeSample ch raw masked) := by
  unfold State.takeSample
  try dsimp only
  repeat' (with_reducible first | exact h | apply State.raise_effect | apply State.withChannel_effect | apply State.bandChanged_effect | split)

theorem State.emptyChannel_effect {ch : Nat} (h : Effect s x) : Effect s (x.emptyChannel ch) := by
  unfold State.emptyChannel
  try dsimp only
  repeat' (with_reducible first | exact h | apply State.withChannel_effect | apply State.bandChanged_effect | split)

theorem State.visit_effect {n : Nat} (h : Effect s x) : Effect s (x.visit n) := by
  induction n generalizing x with
  | zero => exact h
  | succ n ih =>
    unfold State.visit
    dsimp only
    split
    · exact State.withMon_effect h
    · exact ih (State.emptyChannel_effect h)

theorem State.goRound_effect {n : Nat} (h : Effect s x) : Effect s (x.goRound n) := by
  unfold State.goRound
  try dsimp only
  repeat' (with_reducible first | exact h | apply State.withMon_effect | apply State.visit_effect | split)

theorem State.startRound_effect (h : Effect s x) : Effect s x.startRound := by
  unfold State.startRound
  try dsimp only
  repeat' (with_reducible first | exact h | apply State.withMon_effect | apply State.goRound_effect | split)

theorem State.moveRound_effect (h : Effect s x) : Effect s x.moveRound := by
  unfold State.moveRound
  try dsimp only
  repeat' (with_reducible first | exact h | apply State.withMon_effect | apply State.startRound_effect | split)

theorem State.reportInput_effect {n : Nat} {v : Bool} (h : Effect s x) : Effect s (x.reportInput n v) := by
  unfold State.reportInput
  try dsimp only
  repeat' (with_reducible first | exact h | apply State.raise_effect | split)

theorem State.edgeStep_effect {v : Bool} (h : Effect s x) : Effect s (x.edgeStep v) := by
  unfold State.edgeStep
  try dsimp only
  repeat' (with_reducible first | exact h | apply State.withInput_effect | apply State.reportInput_effect | split)

/-! ### Steps -/

theorem State.tellRest_effect {m : Motor} (h : Effect s x) : Effect s (x.tellRest m) := by
  unfold State.tellRest
  try dsimp only
  repeat' (with_reducible first | exact h | apply State.raise_effect | apply State.printRest_effect | apply State.scanRest_effect | split)

theorem State.afterRest_effect {m : Motor} (h : Effect s x) : Effect s (x.afterRest m) := by
  unfold State.afterRest
  try dsimp only
  repeat' (with_reducible first | exact h | apply State.withMot_effect | apply State.tellRest_effect | split)
  all_goals first | rfl | exact id | exact Nat.le_refl _ | (intro k; simpa [Channel.ok, State.mot] using k)

theorem State.tellStep_effect {m : Motor} {sample : Bool} (h : Effect s x) : Effect s (x.tellStep m sample) := by
  unfold State.tellStep
  try dsimp only
  repeat' (with_reducible first | exact h | apply State.printStep_effect | apply State.scanStep_effect | split)

theorem State.finishStep_effect {m : Motor} {wasPending : Bool} (h : Effect s x) : Effect s (x.finishStep m wasPending) := by
  unfold State.finishStep
  try dsimp only
  repeat' (with_reducible first | exact h | apply State.withMot_effect | apply State.afterRest_effect | split)
  all_goals first | rfl | exact id

theorem State.stepNow_effect {m : Motor} {sample : Bool} (h : Effect s x) : Effect s (x.stepNow m sample) := by
  have h1 : Effect s (x.withMot m ((x.mot m).advance x.tables m x.now)) :=
    State.withMot_effect h fun _ => Channel.advance_ok _ _ _ _
  unfold State.stepNow
  cases m
  · exact State.finishStep_effect (State.tellStep_effect (State.edgeStep_effect h1))
  · exact State.finishStep_effect (State.tellStep_effect h1)

end Sys2Proof.Machine
end

