-- ==== Sys2Proof/Laws/PowerEffect.lean ====
section
/-! SUPPORT. What the operations of the power and boot controller and the inputs can do (07.4, 11). -/

namespace Sys2Proof.Machine

variable {s x : State}

/-! ### PowerCtl -/

theorem State.gateOutputs_effect (h : Effect s x) : Effect s x.gateOutputs := by
  unfold State.gateOutputs
  try dsimp only
  repeat' (with_reducible first | exact h | apply State.withScan_effect | apply State.withPrint_effect | split)
  all_goals rfl

theorem State.syncStandby_effect (h : Effect s x) : Effect s x.syncStandby := by
  unfold State.syncStandby
  try dsimp only
  repeat' (with_reducible first | exact h | apply State.withPower_effect | split)

theorem State.startAuto_effect (h : Effect s x) : Effect s x.startAuto := by
  unfold State.startAuto
  try dsimp only
  repeat' (with_reducible first | exact h | apply State.withDram_effect | split)
  all_goals first | rfl | exact id | exact Nat.le_refl _ | exact Dram.startAuto_ok _ _ _

theorem State.enterStandby_effect (h : Effect s x) : Effect s x.enterStandby := by
  unfold State.enterStandby
  try dsimp only
  repeat' (with_reducible first | exact h | apply State.withPower_effect | apply State.raise_effect | apply State.offBoth_effect | apply State.moveRound_effect | apply State.gateOutputs_effect | apply State.startAuto_effect)

theorem State.enterRun_effect (h : Effect s x) : Effect s x.enterRun := by
  unfold State.enterRun
  try dsimp only
  repeat' (with_reducible first | exact h | apply State.withPower_effect | apply State.withDram_effect | apply State.raise_effect | apply State.startRound_effect | split)
  all_goals first | rfl | exact id | exact Nat.le_refl _ | exact Dram.startAuto_ok _ _ _ | exact Dram.runEntry_ok _ _

theorem State.jobAccepted_effect (h : Effect s x) : Effect s x.jobAccepted := by
  unfold State.jobAccepted
  try dsimp only
  repeat' (with_reducible first | exact h | apply State.withPower_effect | apply State.raise_effect | apply State.enterRun_effect | split)

theorem State.gateOutputs_dram : x.gateOutputs.dram = x.dram := rfl

theorem State.offBoth_dram : x.offBoth.dram = x.dram := by simp [State.offBoth]

theorem State.enterSleeping_effect (h : Effect s x) : Effect s x.enterSleeping := by
  unfold State.enterSleeping
  refine State.withDram_effect (State.offBoth_effect (State.gateOutputs_effect (State.withPower_effect h))) fun k => ?_
  rw [State.offBoth_dram, State.gateOutputs_dram] at k
  exact k

theorem State.askSleep_effect (h : Effect s x) : Effect s x.askSleep := by
  unfold State.askSleep
  try dsimp only
  repeat' (with_reducible first | exact h | apply State.withPower_effect | apply State.enterSleeping_effect | split)

theorem State.abandonSleep_effect (h : Effect s x) : Effect s x.abandonSleep := by
  unfold State.abandonSleep
  try dsimp only
  repeat' (with_reducible first | exact h | apply State.withPower_effect | apply State.raise_effect | split)

theorem State.settled_effect (h : Effect s x) : Effect s x.settled := by
  unfold State.settled
  try dsimp only
  repeat' (with_reducible first | exact h | apply State.syncStandby_effect | apply State.enterSleeping_effect | split)

theorem State.startWaking_effect {w : WakeSource} (h : Effect s x) : Effect s (x.startWaking w) := by
  unfold State.startWaking
  try dsimp only
  repeat' (with_reducible first | exact h | apply State.withPower_effect | apply State.withDram_effect | split)
  all_goals first | rfl | exact id | exact Nat.le_refl _ | exact Dram.startAuto_ok _ _ _ | exact Dram.runEntry_ok _ _ | exact Dram.wake_ok _ _

theorem State.wakeSeen_effect {w : WakeSource} (h : Effect s x) : Effect s (x.wakeSeen w) := by
  unfold State.wakeSeen
  try dsimp only
  repeat' (with_reducible first | exact h | apply State.withPower_effect | apply State.startWaking_effect | split)

theorem State.narrowInputs_effect (h : Effect s x) : Effect s x.narrowInputs := by
  unfold State.narrowInputs
  try dsimp only
  repeat' (with_reducible first | exact h | apply State.withMon_effect)

theorem State.reachSleep_effect (h : Effect s x) : Effect s x.reachSleep := by
  unfold State.reachSleep
  try dsimp only
  repeat' (with_reducible first | exact h | apply State.withPower_effect | apply State.startWaking_effect | apply State.narrowInputs_effect | split)

theorem State.reportAsleep_effect (h : Effect s x) : Effect s x.reportAsleep := by
  unfold State.reportAsleep
  try dsimp only
  repeat' (with_reducible first | exact h | apply State.reachSleep_effect | split)

theorem State.dropDrdy_effect (h : Effect s x) : Effect s x.dropDrdy := by
  unfold State.dropDrdy
  try dsimp only
  repeat' (with_reducible first | exact h | apply State.withPower_effect)

theorem State.giveSleepOrder_effect (h : Effect s x) : Effect s x.giveSleepOrder := by
  unfold State.giveSleepOrder
  try dsimp only
  repeat' (with_reducible first | exact h | apply State.withPower_effect | apply State.withDram_effect | apply State.reportAsleep_effect | split)
  all_goals first | rfl | exact id | exact Nat.le_refl _ | exact Dram.startAuto_ok _ _ _ | exact Dram.runEntry_ok _ _ | exact Dram.wake_ok _ _ | exact Dram.order_ok _

theorem State.wakeUp_effect {w : WakeSource} (h : Effect s x) : Effect s (x.wakeUp w) := by
  unfold State.wakeUp
  try dsimp only
  repeat' (with_reducible first | exact h | apply State.withPower_effect | apply State.choose_effect | apply State.raise_effect | apply State.startRound_effect | apply State.startAuto_effect)

/-! ### Boot -/

theorem State.redriveHold_effect {m : Motor} (h : Effect s x) : Effect s (x.redriveHold m) := by
  unfold State.redriveHold
  try dsimp only
  repeat' (with_reducible first | exact h | apply State.withMot_effect | split)
  all_goals first | rfl | exact id | exact Nat.le_refl _ | exact Dram.startAuto_ok _ _ _ | exact Dram.runEntry_ok _ _ | exact Dram.wake_ok _ _ | exact Dram.order_ok _ | exact Dram.enterActive_ok _ _ | (intro k; simpa [Channel.ok, State.mot] using k)

theorem flatMap_map_perm {α β : Type} (f : α → List β) (g : α → α) (d : α → List β) : ∀ (l : List α),
    (∀ a ∈ l, List.Perm (d a ++ f (g a)) (f a)) → List.Perm (l.flatMap d ++ (l.map g).flatMap f) (l.flatMap f)
  | [], _ => List.Perm.refl _
  | a :: l, h => by
    simp only [List.flatMap_cons, List.map_cons, List.append_assoc]
    have h1 := h a (by simp)
    have h2 := flatMap_map_perm f g d l fun b hb => h b (by simp [hb])
    refine ((List.perm_append_comm_assoc _ _ _).append_left _).trans ?_
    rw [← List.append_assoc]
    exact h1.append h2

/-- R24: a warm reset loses no band. -/
theorem PageStore.warmReset_ok {p : PageStore} (h : p.ok) : p.warmReset.ok := by
  constructor
  · refine List.Perm.trans ?_ h.1
    show List.Perm ((p.freeList ++ _) ++ _) (p.freeList ++ p.held)
    rw [List.append_assoc]
    refine List.Perm.append_left _ ?_
    simp only [PageStore.held, PageStore.warmReset, Vector.toList_map]
    refine flatMap_map_perm (fun r : PageRec => r.chain) PageRec.warm
      (fun r => if r.state = .opened then r.returned else []) _ ?_
    intro r _
    by_cases ho : r.state = .opened
    · have := PageRec.close_perm r true []
      simpa [PageRec.warm, ho] using this
    · simp [PageRec.warm, ho]
  · intro r hr hf
    simp only [PageStore.warmReset, Vector.toList_map, List.mem_map] at hr
    obtain ⟨q, hq, rfl⟩ := hr
    by_cases ho : q.state = .opened
    · simp [PageRec.warm, ho, PageRec.close] at hf
    · simp only [PageRec.warm, ho, if_false] at hf ⊢
      exact h.2 q hq hf

theorem State.warmBlocks_effect (h : Effect s x) : Effect s x.warmBlocks := by
  unfold State.warmBlocks
  refine State.resetBoth_effect (State.withPrint_effect (State.withScan_effect (State.withDram_effect
    (State.withStore_effect h PageStore.warmReset_ok) Dram.warmReset_ok)) ?_)
  exact Nat.zero_le _

theorem State.warmMonitor_effect (h : Effect s x) : Effect s x.warmMonitor := by
  unfold State.warmMonitor
  try dsimp only
  repeat' (with_reducible first | exact h | apply State.withMon_effect)

theorem State.beginBoot_effect {cause : BootCause} (h : Effect s x) : Effect s (x.beginBoot cause) := by
  unfold State.beginBoot
  try dsimp only
  repeat' (with_reducible first | exact h | apply State.withPower_effect)

theorem State.bootEnds_effect {o : BootOutcome} (h : Effect s x) : Effect s (x.bootEnds o) := by
  unfold State.bootEnds
  try dsimp only
  repeat' (with_reducible first | exact h | apply State.withPower_effect)

theorem State.withWire_effect {w : List WireSign} (h : Effect s x) : Effect s (x.withWire w) := State.withPower_effect h

theorem State.attemptAgain_effect (h : Effect s x) : Effect s x.attemptAgain := State.withPower_effect h

theorem State.answerByte_effect (h : Effect s x) : Effect s x.answerByte := by
  unfold State.answerByte
  exact State.withWire_effect h

theorem State.byteSent_effect {n : Nat} {acknowledged : Bool} (h : Effect s x) : Effect s (x.byteSent n acknowledged) := by
  unfold State.byteSent
  try dsimp only
  repeat' (with_reducible first | exact h | apply State.withPower_effect | apply State.withBoot_effect | apply State.withWire_effect | apply State.bootEnds_effect | split)

theorem State.bootHeaderByte_effect {b : Byte} (h : Effect s x) : Effect s (x.bootHeaderByte b) := by
  unfold State.bootHeaderByte
  try dsimp only
  repeat' (with_reducible first | exact h | apply State.withPower_effect | apply State.bootEnds_effect | split)

theorem State.sumByte_effect {b : Byte} (h : Effect s x) : Effect s (x.sumByte b) := by
  unfold State.sumByte
  try dsimp only
  repeat' (with_reducible first | exact h | apply State.withBoot_effect)

theorem State.wrstWoke_effect {cause : BootCause} (h : Effect s x) : Effect s (x.wrstWoke cause) := by
  unfold State.wrstWoke
  try dsimp only
  repeat' (with_reducible first | exact h | apply State.withPower_effect | apply State.raise_effect | apply State.beginBoot_effect)

theorem State.exitEnded_effect (h : Effect s x) : Effect s x.exitEnded := by
  unfold State.exitEnded
  try dsimp only
  repeat' (with_reducible first | exact h | apply State.withDram_effect | apply State.startAuto_effect | apply State.wakeUp_effect | apply State.wrstWoke_effect | split)
  all_goals first | rfl | exact id | exact Nat.le_refl _ | exact Dram.startAuto_ok _ _ _ | exact Dram.runEntry_ok _ _ | exact Dram.wake_ok _ _ | exact Dram.order_ok _ | exact Dram.enterActive_ok _ _

theorem State.restartPower_effect (h : Effect s x) : Effect s x.restartPower := by
  unfold State.restartPower
  try dsimp only
  repeat' (with_reducible first | exact h | apply State.withPower_effect | apply State.startAuto_effect | split)

/-! ### Inputs -/

theorem State.coverOpened_effect (h : Effect s x) : Effect s x.coverOpened := by
  unfold State.coverOpened
  try dsimp only
  repeat' (with_reducible first | exact h | apply State.haltBoth_effect | apply State.printCover_effect | apply State.scanCover_effect)

theorem State.handInput_effect {n : Nat} {v : Bool} (h : Effect s x) : Effect s (x.handInput n v) := by
  unfold State.handInput
  try dsimp only
  repeat' (with_reducible first | exact h | apply State.printPaper_effect | apply State.wakeSeen_effect | apply State.coverOpened_effect | split)

theorem State.sampleInput_effect {n : Nat} {v : Bool} (h : Effect s x) : Effect s (x.sampleInput n v) := by
  unfold State.sampleInput
  try dsimp only
  repeat' (with_reducible first | exact h | apply State.withInput_effect | apply State.reportInput_effect | apply State.handInput_effect | split)

theorem State.sampleInputs_effect {pins : BitVec 6} {n : Nat} (h : Effect s x) : Effect s (x.sampleInputs pins n) := by
  induction n generalizing x with
  | zero => exact h
  | succ n ih =>
    unfold State.sampleInputs
    dsimp only
    split
    · exact ih (State.sampleInput_effect h)
    · exact ih h

end Sys2Proof.Machine
end

