-- ==== Sys2Proof/Laws/Tables.lean ====
section
/-! SUPPORT. The loadable tables: what an entry reads after a write, and that every load keeps each entry in its range. -/

namespace Sys2Proof.Machine

/-- R182: entry j of table k after entry i of table id has been written; an index beyond the table is not written. -/
theorem Tables.get_put (t : Tables) (id i v k j : Nat) (hid : id < 9) :
    (t.put id i v).get k j = if k = id ∧ j = i ∧ i < (tableEntries id).getD 0 then v else t.get k j := by
  have hv : ∀ {n : Nat} (w : Vector Nat n),
      ((w.setIfInBounds i v)[j]?.getD 0 : Nat) = if j = i ∧ i < n then v else w[j]?.getD 0 := by
    intro n w
    by_cases h : j = i
    · subst h
      by_cases hi : j < n <;> simp [hi]
    · simp [h, Ne.symm h]
  obtain h | h | h | h | h | h | h | h | h : id = 0 ∨ id = 1 ∨ id = 2 ∨ id = 3 ∨ id = 4 ∨ id = 5 ∨ id = 6 ∨ id = 7 ∨ id = 8 := by
    omega
  all_goals
    subst h
    by_cases hk : k < 9
    · obtain g | g | g | g | g | g | g | g | g : k = 0 ∨ k = 1 ∨ k = 2 ∨ k = 3 ∨ k = 4 ∨ k = 5 ∨ k = 6 ∨ k = 7 ∨ k = 8 := by
        omega
      all_goals
        subst g
        simp only [Tables.put, Tables.get]
        first | (simp only [true_and]; exact hv _) | simp
    · have e1 : ∀ u : Tables, u.get k j = 0 := by
        intro u
        unfold Tables.get
        split <;> first | rfl | omega
      simp only [e1]
      split
      · omega
      · rfl

theorem Tables.p_eq (t : Tables) (i : Nat) : t.p i = t.get 0 i := rfl

theorem paramRange_le (i : Nat) : (paramRange i).1 ≤ (paramRange i).2 ∧ (paramRange i).2 ≤ 65535 := by
  unfold paramRange
  split <;> simp

theorem clampParam_plain {i : Nat} (h1 : i ≠ 1) (h2 : i ≠ 2) (h51 : i ≠ 51) (v : Nat) :
    clampParam i v = clampTo (paramRange i).1 (paramRange i).2 v := by
  unfold clampParam
  split <;> first | rfl | contradiction

/-- R184: a clamped parameter is left as it is by its clamp, and fits two bytes. -/
theorem clampParam_ok (i v : Nat) (hv : v < 65536) : clampParam i (clampParam i v) = clampParam i v ∧ clampParam i v < 65536 := by
  by_cases h1 : i = 1
  · subst h1
    simp only [clampParam, clampTo]
    omega
  · by_cases h2 : i = 2
    · subst h2
      simp only [clampParam]
      split <;> simp
    · by_cases h51 : i = 51
      · subst h51
        simp only [clampParam]
        exact ⟨by rw [Nat.and_assoc, Nat.and_self], Nat.lt_of_le_of_lt Nat.and_le_left hv⟩
      · have hr := paramRange_le i
        simp only [clampParam_plain h1 h2 h51, clampTo]
        omega

/-- R184: the clamp of a value that its width can hold is an entry in its range. -/
theorem clampEntry_ok {id i v : Nat} (hid : id < 9) (hv : v < 256 ^ (tableWidth id).getD 1) :
    entryOk id i (clampEntry id i v) := by
  obtain h | h | h | h | h | h | h | h | h : id = 0 ∨ id = 1 ∨ id = 2 ∨ id = 3 ∨ id = 4 ∨ id = 5 ∨ id = 6 ∨ id = 7 ∨ id = 8 := by
    omega
  all_goals
    subst h
    simp only [tableWidth, Option.getD_some] at hv
    simp only [entryOk, tableWidth, Option.getD_some]
  · exact clampParam_ok i v (by omega)
  · exact ⟨rfl, hv⟩
  · exact ⟨rfl, hv⟩
  · simp only [clampEntry, clampTo]; omega
  · simp only [clampEntry, clampTo]; split <;> omega
  · simp only [clampEntry, clampTo]; split <;> omega
  · simp only [clampEntry]; omega
  · simp only [clampEntry]; omega
  · simp only [clampEntry]; split <;> omega

/-- Every entry of every table is in its range. -/
abbrev Tables.entriesOk (t : Tables) : Prop := ∀ id < 9, ∀ i < (tableEntries id).getD 0, entryOk id i (t.get id i)

theorem Tables.put_entriesOk {t : Tables} (h : t.entriesOk) {id i v : Nat} (hid : id < 9) (hv : entryOk id i v) :
    (t.put id i v).entriesOk := by
  intro k hk j hj
  rw [Tables.get_put t id i v k j hid]
  split
  · rename_i he
    obtain ⟨rfl, rfl, _⟩ := he
    exact hv
  · exact h k hk j hj

theorem Tables.putAll_entriesOk {id : Nat} (hid : id < 9) : ∀ (vals : List Nat) {t : Tables} {i : Nat}, t.entriesOk →
    (∀ v ∈ vals, v < 256 ^ (tableWidth id).getD 1) → (t.putAll id i vals).entriesOk
  | [], _, _, h, _ => h
  | v :: vs, t, i, h, hv =>
    Tables.putAll_entriesOk hid vs (Tables.put_entriesOk h hid (clampEntry_ok hid (hv v (by simp))))
      (fun w hw => hv w (by simp [hw]))

theorem half_toNat_lt (a b : Byte) : (half a b).toNat < 65536 := (half a b).isLt

theorem pairValues_lt : ∀ (bs : List Byte), ∀ v ∈ pairValues bs, v < 65536
  | [], v, h => by simp [pairValues] at h
  | [_], v, h => by simp [pairValues] at h
  | a :: b :: rest, v, h => by
    simp only [pairValues, List.mem_cons] at h
    rcases h with rfl | h
    · exact half_toNat_lt a b
    · exact pairValues_lt rest v h

/-- R166: the values a record's bytes hold fit the table's width. -/
theorem loadValues_lt {id : Nat} (hid : id < 9) (bs : List Byte) : ∀ v ∈ loadValues id bs, v < 256 ^ (tableWidth id).getD 1 := by
  have hw : (tableWidth id).getD 1 = 1 ∨ (tableWidth id).getD 1 = 2 := by
    unfold tableWidth
    split <;> simp
  intro v hv
  unfold loadValues entryValues at hv
  rcases hw with h | h <;> rw [h] at hv ⊢
  · simp only [if_true, List.mem_map] at hv
    obtain ⟨b, _, rfl⟩ := hv
    exact b.isLt
  · simp only [show (2 : Nat) ≠ 1 by decide, if_false] at hv
    exact pairValues_lt bs v hv

theorem Tables.put_p {id : Nat} (hid : id < 9) (h0 : id ≠ 0) (t : Tables) (i v k : Nat) : (t.put id i v).p k = t.p k := by
  rw [Tables.p_eq, Tables.p_eq, Tables.get_put t id i v 0 k hid]
  simp [Ne.symm h0]

theorem Tables.putAll_p {id : Nat} (hid : id < 9) (h0 : id ≠ 0) : ∀ (vals : List Nat) (t : Tables) (i k : Nat),
    (t.putAll id i vals).p k = t.p k
  | [], _, _, _ => rfl
  | v :: vs, t, i, k => by rw [Tables.putAll, Tables.putAll_p hid h0 vs, Tables.put_p hid h0]

/-- R184: SENSOR_TOTAL raised where it is too low. -/
theorem Tables.raiseTotal_ok {t : Tables} (he : t.entriesOk) : (t.raiseTotal 0).ok := by
  unfold Tables.raiseTotal
  split
  · rename_i hc
    have hlt := hc.2
    have h5 := (he 0 (by omega) 5 (by decide)).1
    have h1 := (he 0 (by omega) 1 (by decide)).1
    have h4 := (he 0 (by omega) 4 (by decide)).1
    simp only [Tables.p_eq, Param.sensorTotal, Param.sensorLead, Param.scanWidth] at hlt ⊢
    simp only [clampEntry, clampParam, clampTo, paramRange] at h5 h1 h4
    refine ⟨Tables.put_entriesOk he (by omega) ⟨?_, ?_⟩, ?_⟩
    · simp only [clampEntry, clampParam, clampTo, paramRange]; omega
    · simp only [tableWidth, Option.getD_some]; omega
    · simp only [Tables.p_eq, Tables.get_put _ 0 4 _ _ _ (by omega)]
      simp [Param.sensorTotal, Param.sensorLead, Param.scanWidth, tableEntries]
  · rename_i hc
    exact ⟨he, Nat.le_of_not_lt fun hlt => hc ⟨rfl, hlt⟩⟩

/-- R183, R184: an accepted record keeps the tables safe. -/
theorem Tables.load_ok {t : Tables} (h : t.ok) {id start : Nat} {vals : List Nat} (hid : id < 9)
    (hv : ∀ v ∈ vals, v < 256 ^ (tableWidth id).getD 1) : (t.load id start vals).ok := by
  have he := Tables.putAll_entriesOk hid vals (i := start) h.1 hv
  by_cases h0 : id = 0
  · subst h0
    exact Tables.raiseTotal_ok he
  · have hr : t.load id start vals = t.putAll id start vals := by
      unfold Tables.load Tables.raiseTotal
      simp [h0]
    rw [hr]
    refine ⟨he, ?_⟩
    rw [Tables.putAll_p hid h0, Tables.putAll_p hid h0, Tables.putAll_p hid h0]
    exact h.2

/-- R188, R189: the built-in defaults are in range. -/
theorem Tables.defaults_ok : Tables.defaults.ok := by
  refine ⟨fun id hid i hi => ?_, by decide +kernel⟩
  by_cases h1 : id = 1
  · subst h1
    have hi' : i < 2048 := hi
    have hg : Tables.defaults.get 1 i = 64 := by simp [Tables.get, Tables.defaults, hi']
    rw [hg]
    exact ⟨rfl, by decide⟩
  · have hall : ∀ k < 9, k ≠ 1 → ∀ j < (tableEntries k).getD 0, entryOk k j (Tables.defaults.get k j) := by decide +kernel
    exact hall id hid h1 i hi

end Sys2Proof.Machine
end

