-- ==== Sys2Proof/Laws/Loads.lean ====
section
/-! SUPPORT. What changes memory, tables, time or replies keeps: loads of tables, the boot's loads, the resets. -/

namespace Sys2Proof.Machine

variable {s x : State}

/-- An operation inside a command, after what keeps. -/
theorem Keeps.effect {y : State} (h : Keeps s x) (e : Effect x y) : Keeps s y := h.trans e.keeps

theorem State.at_keeps {d : Nat} (h : Keeps s x) : Keeps s (x.at d) :=
  h.trans ⟨rfl, Nat.le_max_left _ _, id, id, id, id, id, id, id, id⟩

theorem State.withMem_keeps {m : Memory} (h : Keeps s x) (hm : x.mem.wf = true → m.wf = true) : Keeps s (x.withMem m) :=
  h.trans ⟨rfl, Nat.le_refl _, hm, id, id, id, id, id, id, id⟩

theorem State.withTables_keeps {t : Tables} (h : Keeps s x) (ht : x.tables.ok → t.ok) : Keeps s (x.withTables t) :=
  h.trans ⟨rfl, Nat.le_refl _, id, ht, id, id, id, id, id, id⟩

theorem State.withLink_keeps {l : Link} (h : Keeps s x) (hl : x.link.ok → l.ok) : Keeps s (x.withLink l) :=
  h.trans ⟨rfl, Nat.le_refl _, id, id, id, id, hl, id, id, id⟩

theorem State.storeBytes_keeps {r : Request} (h : Keeps s x) : Keeps s (x.storeBytes r) :=
  State.withMem_keeps h fun k => Memory.wf_writeAll _ _ k

/-- R143: a reply with room for it. -/
theorem State.reply_keeps {r : Reply} (h : Keeps s x) (hr : x.link.replies.length < Config.replyCapacity) :
    Keeps s (x.reply r) := by
  refine Keeps.effect (State.withLink_keeps h ?_) (State.choose_effect (Effect.refl _))
  intro k
  refine ⟨k.1, k.2.1, ?_, k.2.2.2⟩
  rw [List.length_append, List.length_singleton]
  exact hr

/-! ### The pool -/

/-- A safe Page Store whose pages are all FREE holds no band. -/
theorem PageStore.held_empty {p : PageStore} (h : p.ok) (he : p.directoryEmpty = true) : p.held = [] := by
  unfold PageStore.directoryEmpty at he
  rw [List.all_eq_true] at he
  unfold PageStore.held
  rw [List.flatMap_eq_nil_iff]
  intro r hr
  exact h.2 r hr (by simpa using he r hr)

/-- R8: the pool built where no page holds a band. -/
theorem PageStore.build_ok {p : PageStore} (b : Nat) (h : p.ok) (he : p.held = []) : (p.build b).ok := by
  refine ⟨?_, h.2⟩
  have : (p.build b).held = [] := he
  rw [this, List.append_nil]
  exact List.Perm.refl _

/-- Before the pool has been built no page holds a band. -/
theorem PageStore.held_unbuilt {p : PageStore} (h : p.ok) (h0 : p.poolSize = 0) : p.held = [] := by
  have h1 := h.1
  rw [h0] at h1
  have := h1.eq_nil
  exact (List.append_eq_nil_iff.1 this).2

theorem State.redriveHold_keeps {m : Motor} (h : Keeps s x) : Keeps s (x.redriveHold m) :=
  Keeps.effect h (State.redriveHold_effect (Effect.refl _))

theorem State.banksChanged_keeps (h : Keeps s x) (hd : x.store.poolSize ≠ 0 → x.store.directoryEmpty = true) :
    Keeps s x.banksChanged := by
  have h1 : Keeps s ((x.withDram (x.dram.changeBanks (x.tables.p Param.banks))).withMem
      (x.mem.below (x.tables.p Param.banks * Config.bankBytes))) :=
    State.withMem_keeps (Keeps.effect h (State.withDram_effect (Effect.refl _) (Dram.changeBanks_ok _)))
      fun k => Memory.wf_below k _
  unfold State.banksChanged
  dsimp only
  split
  · exact h1
  · rename_i h0
    exact Keeps.effect h1 (State.withStore_effect (Effect.refl _)
      fun k => PageStore.build_ok _ k (PageStore.held_empty k (hd h0)))

theorem State.redriveHold_store {m : Motor} : (x.redriveHold m).store = x.store := by
  unfold State.redriveHold
  dsimp only
  split <;> simp

/-- R183: the tables replaced by safe ones, BANKS with them only where no page is held. -/
theorem State.replaceTables_keeps {t : Tables} (h : Keeps s x) (ht : x.tables.ok → t.ok)
    (hd : t.p Param.banks ≠ x.tables.p Param.banks → x.store.directoryEmpty = true) : Keeps s (x.replaceTables t) := by
  have h1 := State.withTables_keeps h ht
  unfold State.replaceTables
  dsimp only
  split
  · rename_i hb
    refine State.banksChanged_keeps ?_ fun _ => ?_
    · repeat' (with_reducible first | exact h1 | apply State.redriveHold_keeps | split)
    · have := hd hb
      repeat' split
      all_goals simpa [State.redriveHold_store] using this
  · repeat' (with_reducible first | exact h1 | apply State.redriveHold_keeps | split)

/-! ### Loads -/

/-- An id that names a table is below 9. -/
theorem tableEntries_lt {id n : Nat} (h : tableEntries id = some n) : id < 9 := by
  unfold tableEntries at h
  split at h <;> first | omega | cases h

/-- R166, R183: what an accepted LOAD TABLE has passed. -/
theorem State.loadOutcome_accepted {id start w c : Nat} {bs : List Byte} (h : x.loadOutcome id start bs = .accepted w c) :
    id < 9 ∧ start + (loadValues id bs).length ≤ (tableEntries id).getD 0 ∧ loadValues id bs ≠ [] ∧
      x.loadable id start (loadValues id bs).length = true := by
  unfold State.loadOutcome at h
  cases ht : tableEntries id with
  | none => rw [ht] at h; simp at h
  | some n =>
    rw [ht] at h
    dsimp only at h
    split at h
    · simp at h
    · rename_i hc
      split at h
      · rename_i hl
        refine ⟨tableEntries_lt ht, ?_, fun e => hc (Or.inl e), hl⟩
        simp only [Option.getD_some]
        exact Nat.le_of_not_lt fun hlt => hc (Or.inr hlt)
      · simp at h

theorem Tables.putAll_banks : ∀ (vals : List Nat) (t : Tables) (start : Nat), 0 < start →
    (t.putAll 0 start vals).p Param.banks = t.p Param.banks
  | [], _, _, _ => rfl
  | v :: vs, t, start, h0 => by
    rw [Tables.putAll, Tables.putAll_banks vs _ _ (by omega), Tables.p_eq, Tables.p_eq,
      Tables.get_put t 0 start _ 0 _ (by omega)]
    have : Param.banks ≠ start := by simp only [Param.banks]; omega
    simp [this]

theorem Tables.raiseTotal_banks (t : Tables) (id : Nat) : (t.raiseTotal id).p Param.banks = t.p Param.banks := by
  unfold Tables.raiseTotal
  split
  · rw [Tables.p_eq, Tables.p_eq, Tables.get_put t 0 _ _ 0 _ (by omega)]
    simp [Param.banks, Param.sensorTotal, Tables.p_eq]
  · rfl

/-- R183: a load that changes BANKS writes PARAM entry 0. -/
theorem Tables.load_banks {t : Tables} {id start : Nat} {vals : List Nat} (hid : id < 9)
    (hb : (t.load id start vals).p Param.banks ≠ t.p Param.banks) : id = 0 ∧ start = 0 := by
  unfold Tables.load at hb
  rw [Tables.raiseTotal_banks] at hb
  by_cases h0 : id = 0
  · subst h0
    refine ⟨rfl, ?_⟩
    by_cases hs : start = 0
    · exact hs
    · exact absurd (Tables.putAll_banks vals t start (by omega)) hb
  · exact absurd (Tables.putAll_p hid h0 vals t start _) hb

/-- R183: an accepted LOAD TABLE. -/
theorem State.applyLoad_keeps {id start w c : Nat} {bs : List Byte} (ha : x.loadOutcome id start bs = .accepted w c)
    {y : State} (h : Keeps s y) (hst : y.store = x.store) :
    Keeps s (y.applyLoad id start bs) := by
  obtain ⟨hid, _, hne, hload⟩ := State.loadOutcome_accepted ha
  unfold State.applyLoad
  refine State.replaceTables_keeps h (fun k => Tables.load_ok k hid (loadValues_lt hid bs)) fun hb => ?_
  obtain ⟨rfl, rfl⟩ := Tables.load_banks hid hb
  unfold State.loadable at hload
  rw [List.all_eq_true] at hload
  have := hload 0 (by
    cases hv : loadValues 0 bs with
    | nil => exact absurd hv hne
    | cons a l => simp)
  simp only [Nat.zero_add, loadRule, paramRule, if_true, State.allows, Bool.and_eq_true] at this
  rw [hst]
  exact this.1

/-! ### Calibration -/

theorem shadeGain_lt (t n : Nat) : shadeGain t n < 256 := by
  unfold shadeGain
  dsimp only
  split <;> omega

/-- R65: a calibration readout. -/
theorem State.calibrationReadout_keeps {c : Calibration} {bs : List Byte} (h : Keeps s x) :
    Keeps s (x.calibrationReadout c bs) := by
  unfold State.calibrationReadout
  dsimp only
  split
  · exact Keeps.effect h (State.withScan_effect (Effect.refl _))
  · refine Keeps.effect (State.withTables_keeps h ?_) (State.raise_effect (State.endCalibration_effect (Effect.refl _)))
    intro k
    refine ⟨Tables.putAll_entriesOk (by omega) _ k.1 ?_, ?_⟩
    · intro v hv
      obtain ⟨n, _, rfl⟩ := List.mem_map.1 hv
      exact shadeGain_lt _ _
    · rw [Tables.putAll_p (by omega) (by omega), Tables.putAll_p (by omega) (by omega),
        Tables.putAll_p (by omega) (by omega)]
      exact k.2

/-! ### The boot (R189, R203, R204) -/

/-- R189: the fallback tables are safe, BANKS kept where a page is held. -/
theorem State.fallbackTables_ok (k : x.tables.ok) : x.fallbackTables.ok := by
  unfold State.fallbackTables
  split
  · exact Tables.defaults_ok
  · have h0 := k.1 0 (by omega) 0 (by decide)
    refine ⟨Tables.put_entriesOk Tables.defaults_ok.1 (by omega) h0, ?_⟩
    have hne : ∀ i, i ≠ Param.banks → (Tables.defaults.put 0 Param.banks (x.tables.p Param.banks)).p i = Tables.defaults.p i := by
      intro i hi
      rw [Tables.p_eq, Tables.p_eq, Tables.get_put _ 0 _ _ 0 _ (by omega)]
      simp [hi, Tables.p_eq]
    rw [hne _ (by decide), hne _ (by decide), hne _ (by decide)]
    exact Tables.defaults_ok.2

theorem State.fallbackTables_banks (hb : x.fallbackTables.p Param.banks ≠ x.tables.p Param.banks) :
    x.store.directoryEmpty = true := by
  unfold State.fallbackTables at hb
  split at hb
  · assumption
  · rw [Tables.p_eq, Tables.get_put _ 0 _ _ 0 _ (by omega)] at hb
    simp [Param.banks, tableEntries] at hb

theorem State.buildPool_keeps (h : Keeps s x) :
    Keeps s (if x.store.poolSize = 0 then x.withStore (x.store.build (x.tables.p Param.banks)) else x) := by
  split
  · rename_i h0
    exact Keeps.effect h (State.withStore_effect (Effect.refl _)
      fun k => PageStore.build_ok _ k (PageStore.held_unbuilt k h0))
  · exact h

theorem State.finishBoot_keeps {o : BootOutcome} (h : Keeps s x) : Keeps s (x.finishBoot o) := by
  have h1 : Keeps s (if o.failed then x.replaceTables x.fallbackTables else x) := by
    split
    · exact State.replaceTables_keeps h State.fallbackTables_ok State.fallbackTables_banks
    · exact h
  exact Keeps.effect (State.buildPool_keeps h1)
    (State.raise_effect (State.startRound_effect (State.withPower_effect (Effect.refl _))))

theorem State.applyBootRecord_keeps {p : List Byte} (h : Keeps s x) : Keeps s (x.applyBootRecord p) := by
  unfold State.applyBootRecord
  split
  · split
    · rename_i ha
      exact Keeps.effect (State.applyLoad_keeps ha h rfl) (State.withBoot_effect (Effect.refl _))
    · exact h
    · exact h
  · exact h

theorem State.bootPayloadByte_keeps {b : Byte} (h : Keeps s x) : Keeps s (x.bootPayloadByte b) := by
  have hp : ∀ {y : State} {u : Power}, Keeps s y → Keeps s (y.withPower u) :=
    fun k => Keeps.effect k (State.withPower_effect (Effect.refl _))
  have he : ∀ {y : State} {o : BootOutcome}, Keeps s y → Keeps s (y.bootEnds o) :=
    fun k => Keeps.effect k (State.bootEnds_effect (Effect.refl _))
  unfold State.bootPayloadByte
  dsimp only
  repeat' (with_reducible first | exact h | apply he | apply State.applyBootRecord_keeps | apply hp | split)

theorem State.streamByte_keeps {b : Byte} (h : Keeps s x) : Keeps s (x.streamByte b) := by
  have h1 : Keeps s (x.sumByte b) := Keeps.effect h (State.sumByte_effect (Effect.refl _))
  have hh : ∀ {y : State}, Keeps s y → Keeps s (y.bootHeaderByte b) :=
    fun k => Keeps.effect k (State.bootHeaderByte_effect (Effect.refl _))
  have he : ∀ {y : State} {o : BootOutcome}, Keeps s y → Keeps s (y.bootEnds o) :=
    fun k => Keeps.effect k (State.bootEnds_effect (Effect.refl _))
  unfold State.streamByte
  dsimp only
  refine Keeps.effect ?_ (State.answerByte_effect (Effect.refl _))
  repeat' (with_reducible first | exact h1 | apply he | apply State.bootPayloadByte_keeps | apply hh | split)

/-! ### WRST and RESTART (R156, R205) -/

theorem Link.afterWrst_ok (l : Link) : l.afterWrst.ok :=
  ⟨Nat.zero_le _, Nat.zero_le _, Nat.zero_le _, Nat.zero_le _, by simp [Link.afterWrst, Link.reset], Nat.zero_le _⟩

theorem Link.afterRestart_ok {l : Link} (h : l.ok) : l.afterRestart.ok :=
  ⟨h.1, h.2.1, Nat.zero_le _, Nat.zero_le _, by simp [Link.afterRestart, Link.reset], Nat.zero_le _⟩

theorem State.wrstBlocks_keeps (h : Keeps s x) : Keeps s x.wrstBlocks := by
  unfold State.wrstBlocks
  dsimp only
  refine Keeps.effect (State.withLink_keeps (Keeps.effect h
    (State.warmMonitor_effect (State.warmBlocks_effect (Effect.refl _)))) fun _ => Link.afterWrst_ok _)
    (State.withPower_effect (State.withDram_effect (Effect.refl _) ?_))
  intro k
  split
  · exact k
  · exact Dram.runEntry_ok _ _ k

theorem State.warmRestart_keeps {b1 b0 : Bool} (h : Keeps s x) : Keeps s (x.warmRestart b1 b0) := by
  have h1 : Keeps s (x.withPower { x.power with bootsel1 := b1, bootsel0 := b0 }).wrstBlocks :=
    State.wrstBlocks_keeps (Keeps.effect h (State.withPower_effect (Effect.refl _)))
  unfold State.warmRestart
  dsimp only
  repeat' split
  all_goals refine Keeps.effect h1 ?_
  all_goals with_reducible first
    | exact State.beginBoot_effect (Effect.refl _)
    | exact State.withPower_effect (Effect.refl _)
    | exact State.wrstWoke_effect (Effect.refl _)
    | exact State.startWaking_effect (Effect.refl _)

theorem State.restartBlocks_keeps (h : Keeps s x) : Keeps s x.restartBlocks := by
  unfold State.restartBlocks
  dsimp only
  refine Keeps.effect (State.withLink_keeps (Keeps.effect h (State.warmBlocks_effect (Effect.refl _))) ?_)
    (State.restartPower_effect (Effect.refl _))
  intro k
  have e : x.warmBlocks.link = x.link := by
    simp [State.warmBlocks, State.resetBoth]
  rw [e] at k
  exact Link.afterRestart_ok k

end Sys2Proof.Machine
end

