-- ==== Sys2Proof/Laws/CommandsEffect.lean ====
section
/-! SUPPORT. What a command record comes to (09): a refusal that is its reply and nothing else, or an acceptance and its effect. -/

namespace Sys2Proof.Machine

variable {s x : State}

/-- What a command comes to (R158): a refusal, which is its reply and nothing else, or an acceptance, whose effect follows
the reply. -/
def Answered (tag kind : Byte) (s t : State) : Prop :=
  (∃ code, code ≠ ResultCode.accepted ∧ t = s.refuse tag kind code) ∨
    ∃ data, Effect (s.answer tag kind .accepted data) t

theorem Answered.refused {tag kind : Byte} {code : ResultCode} (h : code ≠ .accepted) :
    Answered tag kind s (s.refuse tag kind code) := Or.inl ⟨code, h, rfl⟩

theorem Answered.accepted {tag kind : Byte} {data : List Byte} {t : State}
    (h : Effect (s.answer tag kind .accepted data) t) : Answered tag kind s t := Or.inr ⟨data, h⟩

/-- With room for its reply a command keeps every part of a safe state. -/
theorem Answered.keeps {tag kind : Byte} {t : State} (h : Answered tag kind s t)
    (hr : s.link.replies.length < Config.replyCapacity) : Keeps s t := by
  rcases h with ⟨code, _, rfl⟩ | ⟨data, e⟩
  · exact State.reply_keeps (Keeps.refl s) hr
  · exact Keeps.effect (State.reply_keeps (Keeps.refl s) hr) e

/-- A record of a FREE page replaced by one that holds no band and is not FREE. -/
theorem State.openPage_effect {p : Nat} {r : PageRec} (h : Effect s x) (hf : (x.page p).state = .free) (hc : r.chain = [])
    (hs : r.state ≠ .free) : Effect s (x.withPage p r) := by
  refine State.withStore_effect h fun k => ?_
  have := PageStore.put_ok (i := p) (r := r) (fl := x.store.freeList) k (fun e => absurd e hs) ?_ (fun _ => hc)
  · simpa [PageStore.put] using this
  · rw [hc, PageStore.free_chain k hf]

theorem PageRec.opened_chain (k : PageKind) (m : PageMode) (w : Writer) (n : Nat) (r : Resolution) (b : Bool) (l : Half) :
    (PageRec.opened k m w n r b l).chain = [] := rfl

theorem PageRec.opened_state (k : PageKind) (m : PageMode) (w : Writer) (n : Nat) (r : Resolution) (b : Bool) (l : Half) :
    (PageRec.opened k m w n r b l).state = .opened := rfl

theorem State.answer_page (tag kind : Byte) (code : ResultCode) (data : List Byte) (p : Nat) :
    (s.answer tag kind code data).page p = s.page p := rfl

/-! ### Commands -/

theorem State.doOpenPage_answered {tag page kind mode : Byte} {width : Half} {resolution retain : Byte} {label : Half} :
    Answered tag 0x01#8 s (s.doOpenPage tag page kind mode width resolution retain label) := by
  unfold State.doOpenPage
  try dsimp only
  repeat' split
  · exact Answered.refused (by decide)
  · exact Answered.refused (by decide)
  · rename_i f _ hf
    refine Answered.accepted (data := []) (State.openPage_effect (Effect.refl _) ?_ rfl ?_)
    · simpa [State.accept, State.answer_page] using hf
    · simp [PageRec.opened]

theorem State.doClosePage_answered {tag page : Byte} :
    Answered tag 0x02#8 s (s.doClosePage tag page) := by
  unfold State.doClosePage
  try dsimp only
  repeat' split
  all_goals first
    | exact Answered.refused (by decide)
    | exact Answered.accepted (State.closePage_effect (Effect.refl _))

theorem State.doReleasePage_answered {tag page : Byte} :
    Answered tag 0x03#8 s (s.doReleasePage tag page) := by
  unfold State.doReleasePage
  try dsimp only
  repeat' split
  all_goals first
    | exact Answered.refused (by decide)
    | exact Answered.accepted (State.releasePage_effect (Effect.refl _))

theorem State.doQueryPage_answered {tag page : Byte} :
    Answered tag 0x04#8 s (s.doQueryPage tag page) := by
  unfold State.doQueryPage
  try dsimp only
  repeat' split
  all_goals first
    | exact Answered.refused (by decide)

    | exact Answered.accepted (Effect.refl _)

theorem State.doQueryPool_answered {tag : Byte} :
    Answered tag 0x05#8 s (s.doQueryPool tag) := by
  unfold State.doQueryPool
  try dsimp only
  all_goals first
    | exact Answered.refused (by decide)

    | exact Answered.accepted (Effect.refl _)

theorem State.startScan_effect {f : ScanFields} (h : Effect s x) (hf : (x.page f.page).state = .free) :
    Effect s (x.startScan f) := by
  have h1 := State.openPage_effect (p := f.page) (r := PageRec.opened .image f.mode .scan (x.tables.p Param.scanWidth)
    f.res f.retain f.label) h hf rfl (by simp [PageRec.opened])
  unfold State.startScan
  dsimp only
  split
  · exact State.jobAccepted_effect (State.withJob_effect h1)
  · exact State.scanBegin_effect (State.jobAccepted_effect (State.withJob_effect h1))

theorem State.doScan_answered {tag page resolution mode retain : Byte} {label : Half} {source pattern : Byte}
    {lineCount : Half} :
    Answered tag 0x08#8 s (s.doScan tag page resolution mode retain label source pattern lineCount) := by
  unfold State.doScan
  repeat' split
  all_goals first
    | exact Answered.refused (by decide)
    | exact Answered.accepted (data := []) (State.startScan_effect (Effect.refl _) (by simp_all [State.answer_page, State.accept]))

theorem State.doCancelScan_answered {tag : Byte} :
    Answered tag 0x09#8 s (s.doCancelScan tag) := by
  unfold State.doCancelScan
  try dsimp only
  repeat' split
  all_goals first
    | exact Answered.refused (by decide)
    | exact Answered.accepted (State.scanAbortStop_effect (Effect.refl _))

theorem State.startShade_effect (h : Effect s x) : Effect s x.startShade := by
  unfold State.startShade
  try dsimp only
  repeat' (with_reducible first | exact h | apply State.withScan_effect | apply State.beginReading_effect | apply State.jobAccepted_effect | split)

theorem State.doShade_answered {tag : Byte} :
    Answered tag 0x0a#8 s (s.doShade tag) := by
  unfold State.doShade
  try dsimp only
  repeat' split
  all_goals first
    | exact Answered.refused (by decide)
    | exact Answered.accepted (State.startShade_effect (Effect.refl _))

theorem State.startPrint_effect {p copies : Nat} (h : Effect s x) (hq : x.print.queue.length < Config.printCapacity) :
    Effect s (x.startPrint p copies) := by
  unfold State.startPrint
  dsimp only
  have h1 : ∀ e : PrintEntry, Effect s (x.withPrint { x.print with queue := x.print.queue ++ [e] }) := by
    intro e
    refine h.trans ⟨rfl, rfl, rfl, rfl, rfl, rfl, rfl, rfl, rfl, id, id, id, fun _ => ?_, id, id⟩
    show (x.print.queue ++ [e]).length ≤ _
    simp only [List.length_append, List.length_singleton]
    exact hq
  split
  · exact State.beginCopy_effect (State.jobAccepted_effect (State.addHold_effect (h1 _)))
  · exact State.jobAccepted_effect (State.addHold_effect (h1 _))

theorem State.doPrint_answered {tag page copies : Byte} :
    Answered tag 0x0c#8 s (s.doPrint tag page copies) := by
  unfold State.doPrint
  try dsimp only
  repeat' split
  all_goals first
    | exact Answered.refused (by decide)
    | exact Answered.accepted (data := []) (State.startPrint_effect (Effect.refl _) (Nat.lt_of_not_le (by assumption)))

theorem State.doCancelPrint_answered {tag page : Byte} :
    Answered tag 0x0d#8 s (s.doCancelPrint tag page) := by
  unfold State.doCancelPrint
  try dsimp only
  repeat' split
  all_goals first
    | exact Answered.refused (by decide)
    | exact Answered.accepted (State.cancelPrints_effect (Effect.refl _))

theorem State.doResumePrint_answered {tag : Byte} :
    Answered tag 0x0e#8 s (s.doResumePrint tag) := by
  unfold State.doResumePrint
  try dsimp only
  repeat' split
  all_goals first
    | exact Answered.refused (by decide)
    | exact Answered.accepted (data := [])
        (State.startCopy_effect (State.resetCursor_effect (State.jobAccepted_effect (Effect.refl _))))

theorem State.startRead_effect {p start count : Nat} (h : Effect s x) (hq : x.link.reads.length < Config.readCapacity) :
    Effect s (x.startRead p start count) := by
  have h1 : ∀ e : ReadEntry, Effect s (x.withReads (x.link.reads ++ [e])) := by
    intro e
    refine State.withLink_effect h rfl rfl rfl rfl rfl fun k => ⟨k.1, k.2.1, k.2.2.1, k.2.2.2.1, k.2.2.2.2.1, ?_⟩
    rw [List.length_append, List.length_singleton]
    exact hq
  unfold State.startRead
  dsimp only
  repeat' (with_reducible first | exact h1 _ | apply State.readOn_effect | apply State.consumeAll_effect | apply State.jobAccepted_effect | apply State.addHold_effect | split)

theorem State.doReadPage_answered {tag page : Byte} {start count : Offset} :
    Answered tag 0x10#8 s (s.doReadPage tag page start count) := by
  unfold State.doReadPage
  try dsimp only
  repeat' split
  all_goals first
    | exact Answered.refused (by decide)
    | exact Answered.accepted (data := []) (State.startRead_effect (Effect.refl _)
        (Nat.lt_of_not_le (by simpa [State.accept, State.answer] using (by assumption : ¬ Config.readCapacity ≤ s.link.reads.length))))

theorem State.doCancelRead_answered {tag page : Byte} :
    Answered tag 0x11#8 s (s.doCancelRead tag page) := by
  unfold State.doCancelRead
  try dsimp only
  repeat' split
  all_goals first
    | exact Answered.refused (by decide)
    | exact Answered.accepted (State.cancelReads_effect (Effect.refl _))

theorem State.startFeed_effect {m : Motor} {n : Nat} (h : Effect s x) : Effect s (x.startFeed m n) := by
  unfold State.startFeed
  try dsimp only
  repeat' (with_reducible first | exact h | apply State.requestMove_effect | apply State.jobAccepted_effect)

theorem State.doFeed_answered {tag channel : Byte} {steps : Half} :
    Answered tag 0x14#8 s (s.doFeed tag channel steps) := by
  unfold State.doFeed
  try dsimp only
  repeat' split
  all_goals first
    | exact Answered.refused (by decide)
    | exact Answered.accepted (State.startFeed_effect (Effect.refl _))

theorem State.doReadTable_answered {tag table : Byte} {start count : Half} :
    Answered tag 0x19#8 s (s.doReadTable tag table start count) := by
  unfold State.doReadTable
  try dsimp only
  repeat' split
  all_goals first
    | exact Answered.refused (by decide)

    | exact Answered.accepted (Effect.refl _)

theorem State.doStandby_answered {tag : Byte} :
    Answered tag 0x1c#8 s (s.doStandby tag) := by
  unfold State.doStandby
  try dsimp only
  repeat' split
  all_goals first
    | exact Answered.refused (by decide)
    | exact Answered.accepted (State.enterStandby_effect (Effect.refl _))
    | exact Answered.accepted (Effect.refl _)

theorem State.doSleep_answered {tag : Byte} :
    Answered tag 0x1d#8 s (s.doSleep tag) := by
  unfold State.doSleep
  try dsimp only
  repeat' split
  all_goals first
    | exact Answered.refused (by decide)
    | exact Answered.accepted (State.askSleep_effect (Effect.refl _))

theorem State.doQueryMemory_answered {tag : Byte} :
    Answered tag 0x20#8 s (s.doQueryMemory tag) := by
  unfold State.doQueryMemory
  exact Answered.accepted (State.withDram_effect (Effect.refl _) Dram.clearCounters_ok)

theorem State.doQueryStatus_answered {tag : Byte} :
    Answered tag 0x1e#8 s (s.doQueryStatus tag) := by
  unfold State.doQueryStatus
  try dsimp only
  all_goals first
    | exact Answered.refused (by decide)

    | exact Answered.accepted (Effect.refl _)

theorem State.dataInStandby_effect (h : Effect s x) : Effect s x.dataInStandby := by
  unfold State.dataInStandby
  try dsimp only
  repeat' (with_reducible first | exact h | apply State.withPower_effect | split)

theorem State.takeLine_effect {page : Byte} {data : List Byte} (h : Effect s x) : Effect s (x.takeLine page data) := by
  unfold State.takeLine
  try dsimp only
  repeat' (with_reducible first | exact h | apply State.raise_effect | apply State.withWriter_effect | apply State.linkAdvance_effect | apply State.dataInStandby_effect | split)

theorem State.takeBlock_effect {page : Byte} {data : List Byte} (h : Effect s x) : Effect s (x.takeBlock page data) := by
  unfold State.takeBlock
  try dsimp only
  repeat' (with_reducible first | exact h | apply State.raise_effect | apply State.withWriter_effect | apply State.linkAdvance_effect | apply State.dataInStandby_effect | split)

theorem State.linkWritten_effect {r : Request} {j : LinkJob} (h : Effect s x) : Effect s (x.linkWritten r j) := by
  unfold State.linkWritten
  try dsimp only
  repeat' (with_reducible first | exact h | apply State.withWriter_effect | apply State.linkAdvance_effect | apply State.commit_effect | split)

theorem State.poolTimeout_effect {w : PoolWait} (h : Effect s x) : Effect s (x.poolTimeout w) := by
  unfold State.poolTimeout
  try dsimp only
  repeat' (with_reducible first | exact h | apply State.withStore_effect | apply State.raise_effect | apply State.withWriter_effect | apply State.closePage_effect | split)
  all_goals first | rfl | exact id

end Sys2Proof.Machine
end

