-- ==== Sys2Proof/Laws/LinkEffect.lean ====
section
/-! SUPPORT. What the byte paths of the Stream Link keep (08), and what the operations of single commands can do. -/

namespace Sys2Proof.Machine

variable {s x : State}

/-! ### LOAD TABLE and RESTART -/

theorem State.doLoadTable_keeps {tag table : Byte} {start : Half} {es : List Byte}
    (hr : s.link.replies.length < Config.replyCapacity) : Keeps s (s.doLoadTable tag table start es) := by
  unfold State.doLoadTable
  split
  · exact State.reply_keeps (Keeps.refl s) hr
  · exact State.reply_keeps (Keeps.refl s) hr
  · rename_i ha
    exact State.applyLoad_keeps ha (State.reply_keeps (Keeps.refl s) hr) rfl

theorem State.restartPower_link (y : State) : y.restartPower.link = y.link := by
  unfold State.restartPower State.startAuto
  dsimp only
  split <;> rfl

/-- R156, R205: a RESTART leaves room for its own reply. -/
theorem State.doRestart_keeps {tag : Byte} : Keeps s (s.doRestart tag) := by
  unfold State.doRestart
  refine Keeps.effect (State.reply_keeps (State.restartBlocks_keeps (Keeps.refl s)) ?_)
    (State.raiseAll_effect (Effect.refl _))
  have : s.restartBlocks.link.replies = [] := by
    unfold State.restartBlocks
    rw [State.restartPower_link]
    rfl
  rw [this]
  decide

/-! ### Handing on (R141, R142) -/

/-- A command or data record delivered where its condition of R141 holds. -/
theorem State.deliver_keeps {i : Instr} (ht : s.takes i = true) : Keeps s (s.deliver i) := by
  cases i <;> simp only [State.takes, State.takesCommand, State.takesQuery, Bool.and_eq_true, decide_eq_true_eq] at ht
  case openPage => exact State.doOpenPage_answered.keeps ht.1.2
  case closePage => exact State.doClosePage_answered.keeps ht.1.2
  case releasePage => exact State.doReleasePage_answered.keeps ht.1.2
  case queryPage => exact State.doQueryPage_answered.keeps ht.1.2
  case queryPool => exact State.doQueryPool_answered.keeps ht.2
  case scan => exact State.doScan_answered.keeps ht.1.2
  case cancelScan => exact State.doCancelScan_answered.keeps ht.1.2
  case shade => exact State.doShade_answered.keeps ht.1.2
  case print => exact State.doPrint_answered.keeps ht.1.2
  case cancelPrint => exact State.doCancelPrint_answered.keeps ht.1.2
  case resumePrint => exact State.doResumePrint_answered.keeps ht.1.2
  case readPage => exact State.doReadPage_answered.keeps ht.1.2
  case cancelRead => exact State.doCancelRead_answered.keeps ht.1.2
  case feed => exact State.doFeed_answered.keeps ht.1.2
  case loadTable => exact State.doLoadTable_keeps ht.1.2
  case readTable => exact State.doReadTable_answered.keeps ht.1.2
  case standby => exact State.doStandby_answered.keeps ht.1.2
  case sleep => exact State.doSleep_answered.keeps ht.1.2
  case queryStatus => exact State.doQueryStatus_answered.keeps ht.2
  case restart => exact State.doRestart_keeps
  case queryMemory => exact State.doQueryMemory_answered.keeps ht.1.2
  case line => exact Effect.keeps (State.takeLine_effect (Effect.refl s))
  case block => exact Effect.keeps (State.takeBlock_effect (Effect.refl s))
  all_goals exact Keeps.refl s

theorem State.withParser_keeps {p : Parser} (h : Keeps s x) : Keeps s (x.withParser p) :=
  State.withLink_keeps h id

/-- The parser bears on no condition of R141. -/
theorem State.takes_withParser {p : Parser} (i : Instr) : (x.withParser p).takes i = x.takes i := rfl

theorem State.hand_keeps {o : Handed} (h : Keeps s x) (hm : x.mayHand o = true) : Keeps s (x.hand o) := by
  cases o with
  | command i => exact (State.withParser_keeps h).trans (State.deliver_keeps hm)
  | badRecord tag kind =>
    refine State.reply_keeps (State.withParser_keeps h) ?_
    simp only [State.mayHand, State.takesCommand, State.takesQuery, Bool.and_eq_true, decide_eq_true_eq] at hm
    exact hm.1.2

/-! ### The parser (R139, R140) -/

theorem State.recordComplete_keeps {p : Parser} (h : Keeps s x) : Keeps s (x.recordComplete p) := by
  unfold State.recordComplete
  split
  · exact Keeps.effect (State.withParser_keeps h) (State.raise_effect (Effect.refl _))
  · split
    · exact State.hand_keeps h (by assumption)
    · exact State.withParser_keeps h

theorem State.frameLost_keeps {r : List Byte} (h : Keeps s x) : Keeps s (x.frameLost r) :=
  Keeps.effect (State.withParser_keeps h) (State.raise_effect (Effect.refl _))

theorem State.takeByte_keeps (h : Keeps s x) : Keeps s x.takeByte := by
  unfold State.takeByte
  split
  · exact h
  · rename_i b rest hd
    have h1 : Keeps s (x.withLink { x.link with down := rest }) := by
      refine State.withLink_keeps h fun k => ⟨?_, k.2⟩
      have := k.1
      rw [hd, List.length_cons] at this
      exact Nat.le_of_succ_le this
    dsimp only
    split
    · split
      · exact State.withParser_keeps h1
      · exact h1
    · unfold State.headerByte
      dsimp only
      repeat' (with_reducible first | apply State.frameLost_keeps | apply State.withParser_keeps | apply State.recordComplete_keeps | exact h1 | split)
    · unfold State.payloadByte
      dsimp only
      repeat' (with_reducible first | apply State.withParser_keeps | apply State.recordComplete_keeps | exact h1 | split)
    · exact h

/-! ### Upstream (R153, R154) -/

theorem Link.popEvent_ok {l : Link} (h : l.ok) : l.popEvent.ok := by
  unfold Link.popEvent
  split
  · rename_i es he
    refine ⟨h.1, h.2.1, h.2.2.1, ?_, h.2.2.2.2⟩
    have := h.2.2.2.1
    rw [he, List.length_cons] at this
    exact Nat.le_of_succ_le this
  · exact ⟨h.1, h.2.1, h.2.2.1, h.2.2.2.1, by simp, h.2.2.2.2.2⟩

/-- R153: a record placed where it fits. -/
theorem State.place_keeps {c : UpClass} (h : Keeps s x) (hf : x.link.fits (x.link.chosenRecord c) = true) :
    Keeps s (x.place c) := by
  have hup : (x.link.up ++ x.link.chosenRecord c).length ≤ Config.upCapacity := by
    simpa [Link.fits] using hf
  have h1 : x.link.ok → ({ x.link with up := x.link.up ++ x.link.chosenRecord c, chosen := none } : Link).ok :=
    fun k => ⟨k.1, hup, k.2.2⟩
  unfold State.place
  dsimp only
  split
  · refine Keeps.effect (State.withLink_keeps h fun k => ?_) (State.choose_effect (Effect.refl _))
    refine ⟨k.1, hup, Nat.le_trans ?_ k.2.2.1, k.2.2.2⟩
    simp
  · exact Keeps.effect (State.withLink_keeps h fun k => Link.popEvent_ok (h1 k)) (State.choose_effect (Effect.refl _))
  · exact Keeps.effect (State.withLink_keeps h h1) (State.choose_effect (State.readPlaced_effect (Effect.refl _)))

theorem State.hostWrites_keeps {b : Byte} (h : Keeps s x) : Keeps s (x.hostWrites b) := by
  unfold State.hostWrites
  split
  · rename_i hd
    refine State.withLink_keeps h fun k => ⟨?_, k.2⟩
    simp only [State.drdy, Bool.and_eq_true, decide_eq_true_eq] at hd
    rw [List.length_append, List.length_singleton]
    exact hd.2
  · split
    · exact Keeps.effect h (State.wakeSeen_effect (Effect.refl _))
    · exact h

theorem State.hostReads_keeps (h : Keeps s x) : Keeps s x.hostReads := by
  unfold State.hostReads
  split
  · rename_i b rest hu
    split
    · refine State.withLink_keeps h fun k => ⟨k.1, ?_, k.2.2⟩
      have := k.2.1
      rw [hu, List.length_cons] at this
      exact Nat.le_of_succ_le this
    · exact State.withLink_keeps h id
  · exact State.withLink_keeps h id

/-! ### Parser -/

/-! ### ExecReset -/

theorem State.releasePor_effect {bootsel1 bootsel0 : Bool} (h : Effect s x) : Effect s (x.releasePor bootsel1 bootsel0) := by
  unfold State.releasePor
  try dsimp only
  repeat' (with_reducible first | exact h | apply State.withMon_effect | apply State.withPower_effect | apply State.withDram_effect | apply State.beginBoot_effect | split)
  all_goals first | rfl | exact id

/-! ### ExecLink -/

/-! ### ExecMemory -/

/-! ### Operations of single commands -/

theorem State.tickNow_effect (h : Effect s x) : Effect s x.tickNow := by
  unfold State.tickNow
  dsimp only
  have h1 : Effect s (x.withDram (x.dram.tick x.now (x.tables.p Param.refreshInterval))) :=
    State.withDram_effect h (Dram.tick_ok _ _)
  split
  · exact State.raise_effect h1
  · exact h1

theorem State.fetchOver_effect {r : Request} (h : Effect s x) : Effect s (x.fetchOver r) := by
  unfold State.fetchOver
  try dsimp only
  repeat' (with_reducible first | exact h | apply State.outlived_effect | apply State.requestFetch_effect | apply State.fetchArrived_effect | split)

theorem State.linkWriteOver_effect {r : Request} (h : Effect s x) : Effect s (x.linkWriteOver r) := by
  unfold State.linkWriteOver
  try dsimp only
  repeat' (with_reducible first | exact h | apply State.withWriter_effect | apply State.outlived_effect | apply State.linkRequest_effect | apply State.linkWritten_effect | split)

theorem State.linkReadOver_effect {r : Request} (h : Effect s x) : Effect s (x.linkReadOver r) := by
  unfold State.linkReadOver
  try dsimp only
  repeat' (with_reducible first | exact h | apply State.outlived_effect | apply State.requestReadPiece_effect | apply State.readPieceEnded_effect | split)

/-! ### ExecPrint -/

theorem State.shiftDone_effect (h : Effect s x) : Effect s x.shiftDone := by
  unfold State.shiftDone
  try dsimp only
  repeat' (with_reducible first | exact h | apply State.withCopy_effect)

theorem State.nextPhase_effect (h : Effect s x) : Effect s x.nextPhase := by
  unfold State.nextPhase
  try dsimp only
  repeat' (with_reducible first | exact h | apply State.withPrint_effect | apply State.strobeIdle_effect | split)
  all_goals rfl

theorem State.pulseOver_effect (h : Effect s x) : Effect s x.pulseOver := by
  unfold State.pulseOver
  try dsimp only
  repeat' (with_reducible first | exact h | apply State.withPrint_effect | apply State.nextPhase_effect | split)
  all_goals rfl

/-! ### ExecSensor -/

theorem State.transactionOver_effect {t : Transaction} {raw : Byte} (h : Effect s x) : Effect s (x.transactionOver t raw) := by
  unfold State.transactionOver
  try dsimp only
  repeat' (with_reducible first | exact h | apply State.withMon_effect | apply State.takeSample_effect | apply State.goRound_effect)

theorem State.inputsNow_effect {pins : BitVec 6} (h : Effect s x) : Effect s (x.inputsNow pins) :=
  State.sampleInputs_effect (State.withMon_effect h)

/-! ### ExecPower -/

end Sys2Proof.Machine
end

