-- ==== Sys2Proof/Laws/Inner.lean ====
section
/-! SUPPORT. What the operations of the units leave as it is: the power and boot controller and the link writer's record. -/

namespace Sys2Proof.Machine

variable {s x : State}

/-- The power and boot controller and the link writer's record are as they were. -/
structure Inner (s t : State) : Prop where
  power : t.power = s.power
  writer : t.link.writer = s.link.writer

theorem Inner.refl (s : State) : Inner s s := ⟨rfl, rfl⟩

theorem Inner.trans {t u : State} (h : Inner s t) (k : Inner t u) : Inner s u :=
  ⟨k.power.trans h.power, k.writer.trans h.writer⟩

theorem State.withScan_inner {u : ScanUnit} (h : Inner s x) : Inner s (x.withScan u) :=
  h.trans ⟨rfl, rfl⟩

theorem State.withPrint_inner {u : PrintUnit} (h : Inner s x) : Inner s (x.withPrint u) :=
  h.trans ⟨rfl, rfl⟩

theorem State.withMon_inner {u : Monitor} (h : Inner s x) : Inner s (x.withMon u) :=
  h.trans ⟨rfl, rfl⟩

theorem State.withDram_inner {u : Dram} (h : Inner s x) : Inner s (x.withDram u) :=
  h.trans ⟨rfl, rfl⟩

theorem State.withStore_inner {u : PageStore} (h : Inner s x) : Inner s (x.withStore u) :=
  h.trans ⟨rfl, rfl⟩

theorem State.withMotS_inner {c : Channel} (h : Inner s x) : Inner s (x.withMotS c) :=
  h.trans ⟨rfl, rfl⟩

theorem State.withMotP_inner {c : Channel} (h : Inner s x) : Inner s (x.withMotP c) :=
  h.trans ⟨rfl, rfl⟩

theorem State.withMot_inner {m : Motor} {c : Channel} (h : Inner s x) : Inner s (x.withMot m c) :=
  h.trans ⟨by simp, by simp⟩

theorem State.withJob_inner {j : ScanJob} (h : Inner s x) : Inner s (x.withJob j) :=
  h.trans ⟨rfl, rfl⟩

theorem State.withCopy_inner {c : CopyRec} (h : Inner s x) : Inner s (x.withCopy c) :=
  h.trans ⟨rfl, rfl⟩

theorem State.withEntry_inner {e : PrintEntry} (h : Inner s x) : Inner s (x.withEntry e) :=
  h.trans ⟨rfl, rfl⟩

theorem State.withReadBuf_inner {b : ReadBuf} (h : Inner s x) : Inner s (x.withReadBuf b) :=
  h.trans ⟨rfl, rfl⟩

theorem State.withReads_inner {es : List ReadEntry} (h : Inner s x) : Inner s (x.withReads es) :=
  h.trans ⟨rfl, rfl⟩

theorem State.withChannel_inner {n : Nat} {r : AnalogRec} (h : Inner s x) : Inner s (x.withChannel n r) :=
  h.trans ⟨rfl, rfl⟩

theorem State.withInput_inner {n : Nat} {r : InputRec} (h : Inner s x) : Inner s (x.withInput n r) :=
  h.trans ⟨rfl, rfl⟩

theorem State.withPage_inner {p : Nat} {r : PageRec} (h : Inner s x) : Inner s (x.withPage p r) :=
  h.trans ⟨rfl, rfl⟩

theorem State.addBands_inner {bs : List Band} (h : Inner s x) : Inner s (x.addBands bs) :=
  h.trans ⟨rfl, rfl⟩

theorem State.submit_inner {r : Request} (h : Inner s x) : Inner s (x.submit r) :=
  h.trans ⟨rfl, rfl⟩

theorem State.withdraw_inner {c : ReqClass} (h : Inner s x) : Inner s (x.withdraw c) :=
  h.trans ⟨rfl, rfl⟩

theorem State.disown_inner {p : Request → Bool} (h : Inner s x) : Inner s (x.disown p) :=
  h.trans ⟨rfl, rfl⟩

theorem State.requestMove_inner {m : Motor} {n : Nat} {r : MoveReq} (h : Inner s x) : Inner s (x.requestMove m n r) :=
  h.trans ⟨by simp [State.requestMove], by simp [State.requestMove]⟩

theorem State.requestStop_inner {m : Motor} {o : Owner} (h : Inner s x) : Inner s (x.requestStop m o).1 :=
  State.withMot_inner h

theorem State.withLink_inner {l : Link} (h : Inner s x) (hl : l.writer = x.link.writer) : Inner s (x.withLink l) :=
  h.trans ⟨rfl, hl⟩

theorem State.choose_inner (h : Inner s x) : Inner s x.choose := State.withLink_inner h (by simp)

theorem State.raise_inner {e : Event} (h : Inner s x) : Inner s (x.raise e) :=
  State.choose_inner (State.withLink_inner h (by simp))

theorem State.holdAfterRest_inner {m : Motor} (h : Inner s x) : Inner s (x.holdAfterRest m) := by
  unfold State.holdAfterRest
  dsimp only
  split
  · exact State.withMot_inner h
  · exact h

theorem State.haltBoth_inner (h : Inner s x) : Inner s x.haltBoth := State.withMot_inner (State.withMot_inner h)

theorem State.resetBoth_inner (h : Inner s x) : Inner s x.resetBoth := State.withMot_inner (State.withMot_inner h)

theorem State.offBoth_inner (h : Inner s x) : Inner s x.offBoth := State.withMot_inner (State.withMot_inner h)

theorem State.outlived_inner (h : Inner s x) : Inner s x.outlived := State.withDram_inner h

theorem State.endTransfer_inner (h : Inner s x) : Inner s x.endTransfer := State.withDram_inner h

/-! ### Bands -/

theorem State.grantBand_inner {p : Nat} (h : Inner s x) : Inner s (x.grantBand p) := by
  unfold State.grantBand
  try dsimp only
  repeat' (with_reducible first | exact h | apply State.withStore_inner | apply State.withPage_inner | split)

theorem State.capture_inner (h : Inner s x) : Inner s x.capture := by
  unfold State.capture
  try dsimp only
  repeat' (with_reducible first | exact h | apply State.withScan_inner | apply State.raise_inner | apply State.withPage_inner | split)

theorem State.nextPatternReadout_inner (h : Inner s x) : Inner s x.nextPatternReadout := by
  unfold State.nextPatternReadout
  try dsimp only
  repeat' (with_reducible first | exact h | apply State.capture_inner | split)

theorem State.scanResume_inner (h : Inner s x) : Inner s x.scanResume := by
  unfold State.scanResume
  try dsimp only
  repeat' (with_reducible first | exact h | apply State.raise_inner | apply State.withJob_inner | apply State.requestMove_inner | apply State.capture_inner | apply State.nextPatternReadout_inner | split)

theorem State.scanStall_inner (h : Inner s x) : Inner s x.scanStall := by
  unfold State.scanStall
  try dsimp only
  repeat' (with_reducible first | exact h | apply State.raise_inner | apply State.withJob_inner | apply State.scanResume_inner | split)

theorem State.scanMemoryLow_inner (h : Inner s x) : Inner s x.scanMemoryLow := by
  unfold State.scanMemoryLow
  try dsimp only
  repeat' (with_reducible first | exact h | apply State.raise_inner | apply State.withJob_inner | apply State.holdAfterRest_inner | apply State.requestStop_inner | apply State.capture_inner | apply State.scanStall_inner | split)

theorem State.scanMemoryAvailable_inner (h : Inner s x) : Inner s x.scanMemoryAvailable := by
  unfold State.scanMemoryAvailable
  try dsimp only
  repeat' (with_reducible first | exact h | apply State.withJob_inner | apply State.scanResume_inner | split)

theorem State.lowCheck_inner (h : Inner s x) : Inner s x.lowCheck := by
  unfold State.lowCheck
  try dsimp only
  repeat' (with_reducible first | exact h | apply State.withStore_inner | apply State.scanMemoryLow_inner | split)

theorem State.requestScanWrite_inner {w : ScanWrite} (h : Inner s x) : Inner s (x.requestScanWrite w) := by
  unfold State.requestScanWrite
  try dsimp only
  repeat' (with_reducible first | exact h | apply State.withScan_inner | apply State.submit_inner | split)

theorem State.scanAdvance_inner {n : Nat} (h : Inner s x) : Inner s (x.scanAdvance n) := by
  induction n generalizing x with
  | zero => exact h
  | succ n ih =>
    unfold State.scanAdvance
    try dsimp only
    repeat' (with_reducible first | exact h | apply ih | apply State.lowCheck_inner | apply State.withScan_inner | apply State.grantBand_inner | apply State.requestScanWrite_inner | apply State.withStore_inner | split)

theorem State.grantScanWaiting_inner (h : Inner s x) : Inner s x.grantScanWaiting := by
  unfold State.grantScanWaiting
  try dsimp only
  repeat' (with_reducible first | exact h | apply State.withScan_inner | apply State.withStore_inner | apply State.grantBand_inner | apply State.lowCheck_inner | apply State.scanAdvance_inner | split)

theorem State.linkRequest_inner (h : Inner s x) : Inner s x.linkRequest := by
  unfold State.linkRequest
  try dsimp only
  repeat' (with_reducible first | exact h | apply State.submit_inner | split)

theorem State.linkAdvance_inner (h : Inner s x) : Inner s x.linkAdvance := by
  unfold State.linkAdvance
  try dsimp only
  repeat' (with_reducible first | exact h | apply State.withStore_inner | apply State.grantBand_inner | apply State.linkRequest_inner | split)

theorem State.lookLink_inner (h : Inner s x) : Inner s x.lookLink := by
  unfold State.lookLink
  try dsimp only
  repeat' (with_reducible first | exact h | apply State.withStore_inner | apply State.grantBand_inner | apply State.linkRequest_inner | split)

theorem State.availableCheck_inner (h : Inner s x) : Inner s x.availableCheck := by
  unfold State.availableCheck
  try dsimp only
  repeat' (with_reducible first | exact h | apply State.withStore_inner | apply State.scanMemoryAvailable_inner | split)

theorem State.lookWaiting_inner (h : Inner s x) : Inner s x.lookWaiting := by
  unfold State.lookWaiting
  try dsimp only
  repeat' (with_reducible first | exact h | apply State.grantScanWaiting_inner | apply State.lookLink_inner | apply State.availableCheck_inner)

theorem State.disownWrites_inner {p : Nat} (h : Inner s x) : Inner s (x.disownWrites p) := by
  unfold State.disownWrites
  try dsimp only
  repeat' (with_reducible first | exact h | apply State.disown_inner)

theorem State.releasePage_inner {p : Nat} (h : Inner s x) : Inner s (x.releasePage p) := by
  unfold State.releasePage
  try dsimp only
  repeat' (with_reducible first | exact h | apply State.raise_inner | apply State.lookWaiting_inner | apply State.addBands_inner | apply State.disownWrites_inner | apply State.withPage_inner)

theorem State.autoRelease_inner {p : Nat} (h : Inner s x) : Inner s (x.autoRelease p) := by
  unfold State.autoRelease
  try dsimp only
  repeat' (with_reducible first | exact h | apply State.releasePage_inner | split)

theorem State.consume_inner {p n : Nat} (h : Inner s x) : Inner s (x.consume p n) := by
  induction n generalizing x with
  | zero => exact h
  | succ n ih =>
    unfold State.consume
    try dsimp only
    repeat' (with_reducible first | exact h | apply ih | apply State.lookWaiting_inner | apply State.addBands_inner | apply State.withPage_inner | split)

theorem State.consumeAll_inner {p : Nat} (h : Inner s x) : Inner s (x.consumeAll p) := by
  unfold State.consumeAll
  try dsimp only
  repeat' (with_reducible first | exact h | apply State.consume_inner)

theorem State.raiseMark_inner {p pos : Nat} (h : Inner s x) : Inner s (x.raiseMark p pos) := by
  unfold State.raiseMark
  try dsimp only
  repeat' (with_reducible first | exact h | apply State.autoRelease_inner | apply State.consumeAll_inner | apply State.withPage_inner)

/-! ### ReadQueue -/

theorem State.dropHold_inner {p : Nat} {k : Reader} (h : Inner s x) : Inner s (x.dropHold p k) := by
  unfold State.dropHold
  try dsimp only
  repeat' (with_reducible first | exact h | apply State.withPage_inner)

theorem State.addHold_inner {p : Nat} {k : Reader} {start : Nat} (h : Inner s x) : Inner s (x.addHold p k start) := by
  unfold State.addHold
  try dsimp only
  repeat' (with_reducible first | exact h | apply State.withPage_inner)

theorem State.completeRead_inner (h : Inner s x) : Inner s x.completeRead := by
  unfold State.completeRead
  try dsimp only
  repeat' (with_reducible first | exact h | apply State.raise_inner | apply State.withReads_inner | apply State.autoRelease_inner | apply State.dropHold_inner | split)

theorem State.requestReadPiece_inner (h : Inner s x) : Inner s x.requestReadPiece := by
  unfold State.requestReadPiece
  try dsimp only
  repeat' (with_reducible first | exact h | apply State.withReads_inner | apply State.submit_inner | split)

theorem State.readBegin_inner {n : Nat} (h : Inner s x) : Inner s (x.readBegin n) := by
  induction n generalizing x with
  | zero => exact h
  | succ n ih =>
    unfold State.readBegin
    try dsimp only
    repeat' (with_reducible first | exact h | apply ih | apply State.requestReadPiece_inner | apply State.withReadBuf_inner | apply State.completeRead_inner | split)

theorem State.readOn_inner (h : Inner s x) : Inner s x.readOn := by
  unfold State.readOn
  try dsimp only
  repeat' (with_reducible first | exact h | apply State.readBegin_inner)

theorem State.readPieceEnded_inner {bytes : List Byte} (h : Inner s x) : Inner s (x.readPieceEnded bytes) := by
  unfold State.readPieceEnded
  try dsimp only
  repeat' (with_reducible first | exact h | apply State.choose_inner | apply State.withReadBuf_inner | apply State.requestReadPiece_inner | split)

theorem State.readPlaced_inner (h : Inner s x) : Inner s x.readPlaced := by
  unfold State.readPlaced
  try dsimp only
  repeat' (with_reducible first | exact h | apply State.withReadBuf_inner | apply State.withReads_inner | apply State.raiseMark_inner | apply State.completeRead_inner | apply State.readOn_inner | split)

theorem State.dropRead_inner {e : ReadEntry} (h : Inner s x) : Inner s (x.dropRead e) := by
  unfold State.dropRead
  try dsimp only
  repeat' (with_reducible first | exact h | apply State.raise_inner | apply State.autoRelease_inner | apply State.dropHold_inner)

theorem State.dropReads_inner {es : List ReadEntry} (h : Inner s x) : Inner s (x.dropReads es) := by
  induction es generalizing x with
  | nil => exact h
  | cons e es ih => exact ih (State.dropRead_inner h)

theorem State.abandonRecord_inner (h : Inner s x) : Inner s x.abandonRecord := by
  unfold State.abandonRecord
  try dsimp only
  repeat' (with_reducible first | exact h | apply State.withLink_inner | apply State.withdraw_inner | apply State.disown_inner | split)
  all_goals rfl

theorem State.cancelReads_inner {field : Nat} (h : Inner s x) : Inner s (x.cancelReads field) := by
  unfold State.cancelReads
  try dsimp only
  repeat' (with_reducible first | exact h | apply State.choose_inner | apply State.withReads_inner | apply State.readOn_inner | apply State.dropReads_inner | apply State.abandonRecord_inner | split)

/-! ### Print -/

theorem State.requestFetch_inner (h : Inner s x) : Inner s x.requestFetch := by
  unfold State.requestFetch
  try dsimp only
  repeat' (with_reducible first | exact h | apply State.submit_inner | split)

theorem State.fetchNow_inner (h : Inner s x) : Inner s x.fetchNow := by
  unfold State.fetchNow
  try dsimp only
  repeat' (with_reducible first | exact h | apply State.withCopy_inner | apply State.withEntry_inner | apply State.requestFetch_inner | split)

theorem State.askFetch_inner (h : Inner s x) : Inner s x.askFetch := by
  unfold State.askFetch
  try dsimp only
  repeat' (with_reducible first | exact h | apply State.fetchNow_inner | split)

theorem State.shiftTakes_inner (h : Inner s x) : Inner s x.shiftTakes := by
  unfold State.shiftTakes
  try dsimp only
  repeat' (with_reducible first | exact h | apply State.withCopy_inner | apply State.askFetch_inner)

theorem State.fetchArrived_inner {r : Request} {bytes : List Byte} (h : Inner s x) : Inner s (x.fetchArrived r bytes) := by
  unfold State.fetchArrived
  try dsimp only
  repeat' (with_reducible first | exact h | apply State.withCopy_inner | apply State.shiftTakes_inner | split)

theorem State.dropFetch_inner (h : Inner s x) : Inner s x.dropFetch := by
  unfold State.dropFetch
  try dsimp only
  repeat' (with_reducible first | exact h | apply State.withCopy_inner | apply State.withdraw_inner | apply State.disown_inner)

theorem State.resetCursor_inner (h : Inner s x) : Inner s x.resetCursor := by
  unfold State.resetCursor
  try dsimp only
  repeat' (with_reducible first | exact h | apply State.withCopy_inner | apply State.withEntry_inner | apply State.dropFetch_inner | split)

theorem State.printMove_inner {ask : MoveAsk} (h : Inner s x) : Inner s (x.printMove ask) := by
  unfold State.printMove
  try dsimp only
  repeat' (with_reducible first | exact h | apply State.withCopy_inner | apply State.requestMove_inner | split)

theorem State.enterLead_inner (h : Inner s x) : Inner s x.enterLead := by
  unfold State.enterLead
  try dsimp only
  repeat' (with_reducible first | exact h | apply State.withPrint_inner | apply State.printMove_inner)

theorem State.pauseReason_inner (h : Inner s x) : Inner s x.pauseReason := by
  unfold State.pauseReason
  try dsimp only
  repeat' (with_reducible first | exact h | apply State.raise_inner | apply State.withCopy_inner | split)

theorem State.suspend_inner {why : SuspendReason} (h : Inner s x) : Inner s (x.suspend why) := by
  unfold State.suspend
  try dsimp only
  repeat' (with_reducible first | exact h | apply State.withPrint_inner | apply State.raise_inner)

theorem State.startCopy_inner {checked : Bool} (h : Inner s x) : Inner s (x.startCopy checked) := by
  unfold State.startCopy
  try dsimp only
  repeat' (with_reducible first | exact h | apply State.withPrint_inner | apply State.raise_inner | apply State.withCopy_inner | apply State.fetchNow_inner | apply State.enterLead_inner | apply State.pauseReason_inner | apply State.suspend_inner | split)

theorem State.beginCopy_inner {fromStandby : Bool} (h : Inner s x) : Inner s (x.beginCopy fromStandby) := by
  unfold State.beginCopy
  try dsimp only
  repeat' (with_reducible first | exact h | apply State.withCopy_inner | apply State.startCopy_inner | split)

theorem State.nextEntry_inner (h : Inner s x) : Inner s x.nextEntry := by
  unfold State.nextEntry
  try dsimp only
  repeat' (with_reducible first | exact h | apply State.withPrint_inner | apply State.beginCopy_inner | split)

theorem State.entryGone_inner {cancelled : Bool} (h : Inner s x) : Inner s (x.entryGone cancelled) := by
  unfold State.entryGone
  try dsimp only
  repeat' (with_reducible first | exact h | apply State.withPrint_inner | apply State.raise_inner | apply State.autoRelease_inner | apply State.dropHold_inner | apply State.nextEntry_inner | split)

theorem State.leaveCut_inner (h : Inner s x) : Inner s x.leaveCut := by
  unfold State.leaveCut
  try dsimp only
  repeat' (with_reducible first | exact h | apply State.withPrint_inner | apply State.raise_inner | apply State.withEntry_inner | apply State.startCopy_inner | apply State.entryGone_inner | split)

theorem State.enterCut_inner (h : Inner s x) : Inner s x.enterCut := by
  unfold State.enterCut
  try dsimp only
  repeat' (with_reducible first | exact h | apply State.withPrint_inner | apply State.leaveCut_inner | split)

theorem State.trailRested_inner (h : Inner s x) : Inner s x.trailRested := by
  unfold State.trailRested
  try dsimp only
  repeat' (with_reducible first | exact h | apply State.withCopy_inner | apply State.enterCut_inner | split)

theorem State.trailFromRest_inner (h : Inner s x) : Inner s x.trailFromRest := by
  unfold State.trailFromRest
  try dsimp only
  repeat' (with_reducible first | exact h | apply State.withCopy_inner | apply State.printMove_inner | apply State.trailRested_inner | split)

theorem State.trailAtBoundary_inner (h : Inner s x) : Inner s x.trailAtBoundary := by
  unfold State.trailAtBoundary
  try dsimp only
  repeat' (with_reducible first | exact h | apply State.withMot_inner | apply State.withCopy_inner)

theorem State.pausedTest_inner (h : Inner s x) : Inner s x.pausedTest := by
  unfold State.pausedTest
  try dsimp only
  repeat' (with_reducible first | exact h | apply State.raise_inner | apply State.withCopy_inner | apply State.printMove_inner | apply State.enterLead_inner | apply State.pauseReason_inner | apply State.trailFromRest_inner | split)

theorem State.pauseAtRest_inner (h : Inner s x) : Inner s x.pauseAtRest := by
  unfold State.pauseAtRest
  try dsimp only
  repeat' (with_reducible first | exact h | apply State.raise_inner | apply State.withCopy_inner | apply State.pausedTest_inner)

theorem State.paperRested_inner (h : Inner s x) : Inner s x.paperRested := by
  unfold State.paperRested
  try dsimp only
  repeat' (with_reducible first | exact h | apply State.withCopy_inner | apply State.suspend_inner | split)

theorem State.printRest_inner (h : Inner s x) : Inner s x.printRest := by
  unfold State.printRest
  try dsimp only
  repeat' (with_reducible first | exact h | apply State.trailRested_inner | apply State.trailFromRest_inner | apply State.pauseAtRest_inner | apply State.paperRested_inner | split)

theorem State.strobeIdle_inner (h : Inner s x) : Inner s x.strobeIdle := by
  unfold State.strobeIdle
  try dsimp only
  repeat' (with_reducible first | exact h | apply State.withCopy_inner | apply State.requestMove_inner | apply State.suspend_inner | apply State.enterCut_inner | split)

theorem State.latch_inner (h : Inner s x) : Inner s x.latch := by
  unfold State.latch
  try dsimp only
  repeat' (with_reducible first | exact h | apply State.withPrint_inner | apply State.withMot_inner | apply State.withCopy_inner | apply State.raiseMark_inner | apply State.askFetch_inner | apply State.shiftTakes_inner | split)

theorem State.boundaryTests_inner (h : Inner s x) : Inner s x.boundaryTests := by
  unfold State.boundaryTests
  try dsimp only
  repeat' (with_reducible first | exact h | apply State.withCopy_inner | apply State.requestStop_inner | split)

theorem State.printBoundary_inner (h : Inner s x) : Inner s x.printBoundary := by
  unfold State.printBoundary
  try dsimp only
  repeat' (with_reducible first | exact h | apply State.withMot_inner | apply State.raise_inner | apply State.trailAtBoundary_inner | apply State.latch_inner | apply State.boundaryTests_inner | split)

theorem State.printStep_inner (h : Inner s x) : Inner s x.printStep := by
  unfold State.printStep
  try dsimp only
  repeat' (with_reducible first | exact h | apply State.withMot_inner | apply State.withCopy_inner | apply State.printBoundary_inner | split)

theorem State.stopAbandoned_inner (h : Inner s x) : Inner s x.stopAbandoned := by
  unfold State.stopAbandoned
  try dsimp only
  repeat' (with_reducible first | exact h | apply State.withCopy_inner | apply State.holdAfterRest_inner | apply State.printRest_inner | apply State.requestStop_inner | split)

theorem State.printPaper_inner (h : Inner s x) : Inner s x.printPaper := by
  unfold State.printPaper
  try dsimp only
  repeat' (with_reducible first | exact h | apply State.withCopy_inner | apply State.resetCursor_inner | apply State.paperRested_inner | apply State.stopAbandoned_inner | split)

theorem State.cutHead_inner (h : Inner s x) : Inner s x.cutHead := by
  unfold State.cutHead
  try dsimp only
  repeat' (with_reducible first | exact h | apply State.requestMove_inner | apply State.withPrint_inner | split)

theorem State.printCover_inner (h : Inner s x) : Inner s x.printCover := by
  unfold State.printCover
  try dsimp only
  repeat' (with_reducible first | exact h | apply State.dropFetch_inner | apply State.resetCursor_inner | apply State.suspend_inner | apply State.entryGone_inner | apply State.leaveCut_inner | apply State.cutHead_inner | split)

theorem State.cancelActive_inner (h : Inner s x) : Inner s x.cancelActive := by
  unfold State.cancelActive
  try dsimp only
  repeat' (with_reducible first | exact h | apply State.withCopy_inner | apply State.dropFetch_inner | apply State.entryGone_inner | apply State.trailFromRest_inner | apply State.stopAbandoned_inner | split)

theorem State.dropPrint_inner {e : PrintEntry} (h : Inner s x) : Inner s (x.dropPrint e) := by
  unfold State.dropPrint
  try dsimp only
  repeat' (with_reducible first | exact h | apply State.raise_inner | apply State.autoRelease_inner | apply State.dropHold_inner)

theorem State.dropPrints_inner {es : List PrintEntry} (h : Inner s x) : Inner s (x.dropPrints es) := by
  induction es generalizing x with
  | nil => exact h
  | cons e es ih => exact ih (State.dropPrint_inner h)

theorem State.cancelPrints_inner {field : Nat} (h : Inner s x) : Inner s (x.cancelPrints field) := by
  unfold State.cancelPrints
  try dsimp only
  repeat' (with_reducible first | exact h | apply State.withPrint_inner | apply State.cancelActive_inner | apply State.dropPrints_inner | split)

theorem State.wakeFetch_inner {p : Nat} (h : Inner s x) : Inner s (x.wakeFetch p) := by
  unfold State.wakeFetch
  try dsimp only
  repeat' (with_reducible first | exact h | apply State.fetchNow_inner | split)

theorem State.endFetch_inner {p : Nat} (h : Inner s x) : Inner s (x.endFetch p) := by
  unfold State.endFetch
  try dsimp only
  repeat' (with_reducible first | exact h | apply State.withCopy_inner | split)

theorem State.printPageTest_inner {p : Nat} (h : Inner s x) : Inner s (x.printPageTest p) := by
  unfold State.printPageTest
  try dsimp only
  repeat' (with_reducible first | exact h | apply State.pausedTest_inner | split)

/-! ### Pages -/

theorem State.wakeReaders_inner {p : Nat} (h : Inner s x) : Inner s (x.wakeReaders p) := by
  unfold State.wakeReaders
  try dsimp only
  repeat' (with_reducible first | exact h | apply State.readOn_inner | apply State.wakeFetch_inner | apply State.printPageTest_inner)

theorem State.commit_inner {p n : Nat} (h : Inner s x) : Inner s (x.commit p n) := by
  unfold State.commit
  try dsimp only
  repeat' (with_reducible first | exact h | apply State.consumeAll_inner | apply State.wakeReaders_inner | apply State.withPage_inner)

theorem State.shutPage_inner {p : Nat} {truncated : Bool} (h : Inner s x) : Inner s (x.shutPage p truncated) := by
  unfold State.shutPage
  try dsimp only
  repeat' (with_reducible first | exact h | apply State.addBands_inner | apply State.disownWrites_inner | apply State.withPage_inner)

theorem State.tellReaders_inner {p : Nat} (h : Inner s x) : Inner s (x.tellReaders p) := by
  unfold State.tellReaders
  try dsimp only
  repeat' (with_reducible first | exact h | apply State.readOn_inner | apply State.endFetch_inner | apply State.printPageTest_inner)

theorem State.closePage_inner {p : Nat} {truncated : Bool} (h : Inner s x) : Inner s (x.closePage p truncated) := by
  unfold State.closePage
  try dsimp only
  repeat' (with_reducible first | exact h | apply State.raise_inner | apply State.lookWaiting_inner | apply State.autoRelease_inner | apply State.shutPage_inner | apply State.tellReaders_inner)

/-! ### Scan -/

theorem State.scanIdle_inner (h : Inner s x) : Inner s x.scanIdle := by
  unfold State.scanIdle
  try dsimp only
  repeat' (with_reducible first | exact h | apply State.withStore_inner | apply State.withScan_inner | apply State.lookLink_inner)

theorem State.ejectCheck_inner (h : Inner s x) : Inner s x.ejectCheck := by
  unfold State.ejectCheck
  try dsimp only
  repeat' (with_reducible first | exact h | apply State.raise_inner | apply State.withJob_inner | apply State.closePage_inner | apply State.scanIdle_inner | split)

theorem State.enterEject_inner (h : Inner s x) : Inner s x.enterEject := by
  unfold State.enterEject
  try dsimp only
  repeat' (with_reducible first | exact h | apply State.withScan_inner | apply State.withMot_inner | apply State.withJob_inner | apply State.requestMove_inner | split)

theorem State.endCaptures_inner {cut : Bool} (h : Inner s x) : Inner s (x.endCaptures cut) := by
  unfold State.endCaptures
  try dsimp only
  repeat' (with_reducible first | exact h | apply State.withScan_inner | apply State.withdraw_inner)

theorem State.scanAbort_inner {why : AbortReason} {cut : Bool} (h : Inner s x) : Inner s (x.scanAbort why cut) := by
  unfold State.scanAbort
  try dsimp only
  repeat' (with_reducible first | exact h | apply State.withScan_inner | apply State.withStore_inner | apply State.raise_inner | apply State.lookLink_inner | apply State.closePage_inner | apply State.endCaptures_inner | split)

theorem State.scanAbortStop_inner {why : AbortReason} (h : Inner s x) : Inner s (x.scanAbortStop why) := by
  unfold State.scanAbortStop
  try dsimp only
  repeat' (with_reducible first | exact h | apply State.holdAfterRest_inner | apply State.requestStop_inner | apply State.scanAbort_inner | split)

theorem State.endCalibration_inner (h : Inner s x) : Inner s x.endCalibration := by
  unfold State.endCalibration
  try dsimp only
  repeat' (with_reducible first | exact h | apply State.withScan_inner)

theorem State.scanCover_inner (h : Inner s x) : Inner s x.scanCover := by
  unfold State.scanCover
  try dsimp only
  repeat' (with_reducible first | exact h | apply State.withScan_inner | apply State.withJob_inner | apply State.capture_inner | apply State.ejectCheck_inner | apply State.scanAbort_inner | apply State.endCalibration_inner | split)

theorem State.enterFeedIn_inner (h : Inner s x) : Inner s x.enterFeedIn := by
  unfold State.enterFeedIn
  try dsimp only
  repeat' (with_reducible first | exact h | apply State.withScan_inner | apply State.requestMove_inner)

theorem State.scanBegin_inner (h : Inner s x) : Inner s x.scanBegin := by
  unfold State.scanBegin
  try dsimp only
  repeat' (with_reducible first | exact h | apply State.withJob_inner | apply State.capture_inner | apply State.nextPatternReadout_inner | apply State.enterFeedIn_inner | split)

theorem State.firstBoundary_inner (h : Inner s x) : Inner s x.firstBoundary := by
  unfold State.firstBoundary
  try dsimp only
  repeat' (with_reducible first | exact h | apply State.withMot_inner | apply State.withJob_inner | apply State.capture_inner)

theorem State.lampTest_inner (h : Inner s x) : Inner s x.lampTest := by
  unfold State.lampTest
  try dsimp only
  repeat' (with_reducible first | exact h | apply State.raise_inner | split)

theorem State.leadEdge_inner (h : Inner s x) : Inner s x.leadEdge := by
  unfold State.leadEdge
  try dsimp only
  repeat' (with_reducible first | exact h | apply State.raise_inner | apply State.withJob_inner | apply State.firstBoundary_inner | apply State.lampTest_inner | split)

theorem State.scanStep_inner {sample : Bool} (h : Inner s x) : Inner s (x.scanStep sample) := by
  unfold State.scanStep
  try dsimp only
  repeat' (with_reducible first | exact h | apply State.withMot_inner | apply State.withJob_inner | apply State.capture_inner | apply State.ejectCheck_inner | apply State.enterEject_inner | apply State.scanAbortStop_inner | apply State.firstBoundary_inner | apply State.leadEdge_inner | split)

theorem State.scanRest_inner (h : Inner s x) : Inner s x.scanRest := by
  unfold State.scanRest
  try dsimp only
  repeat' (with_reducible first | exact h | apply State.withJob_inner | apply State.capture_inner | apply State.scanStall_inner | apply State.ejectCheck_inner | split)

theorem State.lineRead_inner {r : Readout} {samples : List Byte} (h : Inner s x) : Inner s (x.lineRead r samples) := by
  unfold State.lineRead
  try dsimp only
  repeat' (with_reducible first | exact h | apply State.withScan_inner | split)

theorem State.patternCount_inner (h : Inner s x) : Inner s x.patternCount := by
  unfold State.patternCount
  try dsimp only
  repeat' (with_reducible first | exact h | apply State.withJob_inner | apply State.capture_inner | apply State.enterEject_inner | split)

theorem State.readoutOver_inner {samples : List Byte} (h : Inner s x) : Inner s (x.readoutOver samples) := by
  unfold State.readoutOver
  try dsimp only
  repeat' (with_reducible first | exact h | apply State.withScan_inner | apply State.nextPatternReadout_inner | apply State.scanAdvance_inner | apply State.ejectCheck_inner | apply State.lineRead_inner | apply State.patternCount_inner | split)

theorem State.jamTest_inner (h : Inner s x) : Inner s x.jamTest := by
  unfold State.jamTest
  try dsimp only
  repeat' (with_reducible first | exact h | apply State.capture_inner | apply State.scanAbortStop_inner | split)

theorem State.scanWriteOver_inner {r : Request} (h : Inner s x) : Inner s (x.scanWriteOver r) := by
  unfold State.scanWriteOver
  try dsimp only
  repeat' (with_reducible first | exact h | apply State.withScan_inner | apply State.scanAdvance_inner | apply State.commit_inner | apply State.ejectCheck_inner | apply State.jamTest_inner | split)

theorem State.beginReading_inner (h : Inner s x) : Inner s x.beginReading := by
  unfold State.beginReading
  try dsimp only
  repeat' (with_reducible first | exact h | apply State.withScan_inner)

/-! ### Monitor -/

theorem State.bandChanged_inner {ch : Nat} {masked : Bool} (h : Inner s x) : Inner s (x.bandChanged ch masked) := by
  unfold State.bandChanged
  try dsimp only
  repeat' (with_reducible first | exact h | apply State.raise_inner | apply State.pausedTest_inner | split)

theorem State.takeSample_inner {ch raw : Nat} {masked : Bool} (h : Inner s x) : Inner s (x.takeSample ch raw masked) := by
  unfold State.takeSample
  try dsimp only
  repeat' (with_reducible first | exact h | apply State.raise_inner | apply State.withChannel_inner | apply State.bandChanged_inner | split)

theorem State.emptyChannel_inner {ch : Nat} (h : Inner s x) : Inner s (x.emptyChannel ch) := by
  unfold State.emptyChannel
  try dsimp only
  repeat' (with_reducible first | exact h | apply State.withChannel_inner | apply State.bandChanged_inner | split)

theorem State.visit_inner {n : Nat} (h : Inner s x) : Inner s (x.visit n) := by
  induction n generalizing x with
  | zero => exact h
  | succ n ih =>
    unfold State.visit
    try dsimp only
    repeat' (with_reducible first | exact h | apply ih | apply State.withMon_inner | apply State.emptyChannel_inner | split)

theorem State.goRound_inner {n : Nat} (h : Inner s x) : Inner s (x.goRound n) := by
  unfold State.goRound
  try dsimp only
  repeat' (with_reducible first | exact h | apply State.withMon_inner | apply State.visit_inner | split)

theorem State.startRound_inner (h : Inner s x) : Inner s x.startRound := by
  unfold State.startRound
  try dsimp only
  repeat' (with_reducible first | exact h | apply State.withMon_inner | apply State.goRound_inner | split)

theorem State.moveRound_inner (h : Inner s x) : Inner s x.moveRound := by
  unfold State.moveRound
  try dsimp only
  repeat' (with_reducible first | exact h | apply State.withMon_inner | apply State.startRound_inner | split)

theorem State.reportInput_inner {n : Nat} {v : Bool} (h : Inner s x) : Inner s (x.reportInput n v) := by
  unfold State.reportInput
  try dsimp only
  repeat' (with_reducible first | exact h | apply State.raise_inner | split)

theorem State.edgeStep_inner {v : Bool} (h : Inner s x) : Inner s (x.edgeStep v) := by
  unfold State.edgeStep
  try dsimp only
  repeat' (with_reducible first | exact h | apply State.withInput_inner | apply State.reportInput_inner | split)

/-! ### Steps -/

theorem State.tellRest_inner {m : Motor} (h : Inner s x) : Inner s (x.tellRest m) := by
  unfold State.tellRest
  try dsimp only
  repeat' (with_reducible first | exact h | apply State.raise_inner | apply State.printRest_inner | apply State.scanRest_inner | split)

theorem State.afterRest_inner {m : Motor} (h : Inner s x) : Inner s (x.afterRest m) := by
  unfold State.afterRest
  try dsimp only
  repeat' (with_reducible first | exact h | apply State.withMot_inner | apply State.tellRest_inner | split)

theorem State.tellStep_inner {m : Motor} {sample : Bool} (h : Inner s x) : Inner s (x.tellStep m sample) := by
  unfold State.tellStep
  try dsimp only
  repeat' (with_reducible first | exact h | apply State.printStep_inner | apply State.scanStep_inner | split)

theorem State.finishStep_inner {m : Motor} {wasPending : Bool} (h : Inner s x) : Inner s (x.finishStep m wasPending) := by
  unfold State.finishStep
  try dsimp only
  repeat' (with_reducible first | exact h | apply State.withMot_inner | apply State.afterRest_inner | split)

theorem State.stepNow_inner {m : Motor} {sample : Bool} (h : Inner s x) : Inner s (x.stepNow m sample) := by
  have h1 : Inner s (x.withMot m ((x.mot m).advance x.tables m x.now)) := State.withMot_inner h
  unfold State.stepNow
  cases m
  · exact State.finishStep_inner (State.tellStep_inner (State.edgeStep_inner h1))
  · exact State.finishStep_inner (State.tellStep_inner h1)

end Sys2Proof.Machine
end

