-- ==== Sys2Proof/Laws/PerInstr.lean ====
section
/-! SUPPORT. A family of statements about commands as syntax, one lemma for each constructor of Instr. -/

namespace Sys2Proof.Laws.Encodes

/-- R139, R140: the record that carries a well-formed command has a KIND of a known class and a payload within the limit. -/
def Statement (i : Instr) : Prop :=
  i.wellFormed = true → ∀ r ∈ commandRecord i, recordClass r.1 ≠ .unknown ∧ r.2.2.length ≤ Config.maxPayload

/-- A command that no record carries. -/
theorem of_none {i : Instr} (h : commandRecord i = none) : Statement i := by
  intro _ r hr
  rw [h] at hr
  cases hr

/-- A command whose record has a known KIND and a short payload. -/
theorem of_some {i : Instr} {r : Byte × Byte × List Byte} (h : commandRecord i = some r)
    (hk : recordClass r.1 ≠ .unknown) (hn : i.wellFormed = true → r.2.2.length ≤ Config.maxPayload) : Statement i := by
  intro hw q hq
  rw [h] at hq
  cases hq
  exact ⟨hk, hn hw⟩

theorem powerOnReset : Statement .powerOnReset :=
  of_none rfl

theorem porRelease (x : Bool) (y : Bool) : Statement (.porRelease x y) :=
  of_none rfl

theorem wrst (x : Bool) (y : Bool) : Statement (.wrst x y) :=
  of_none rfl

theorem initEnd : Statement .initEnd :=
  of_none rfl

theorem twoWireByteSent (x : Bool) : Statement (.twoWireByteSent x) :=
  of_none rfl

theorem bootRetryWaitEnd : Statement .bootRetryWaitEnd :=
  of_none rfl

theorem bootStreamByte (x : Byte) : Statement (.bootStreamByte x) :=
  of_none rfl

theorem endOfBoot : Statement .endOfBoot :=
  of_none rfl

theorem hostByteWrite (x : Byte) : Statement (.hostByteWrite x) :=
  of_none rfl

theorem parserByteTaken : Statement .parserByteTaken :=
  of_none rfl

theorem heldRecordHandedOn : Statement .heldRecordHandedOn :=
  of_none rfl

theorem upstreamRecordPlaced : Statement .upstreamRecordPlaced :=
  of_none rfl

theorem hostByteRead : Statement .hostByteRead :=
  of_none rfl

theorem openPage (tag p k m : Byte) (w : Half) (r f : Byte) (l : Half) : Statement (.openPage tag p k m w r f l) :=
  of_some rfl (by decide : recordClass 1#8 ≠ .unknown) fun _ => by
    simp [halfBytes, Config.maxPayload]

theorem closePage (tag p : Byte) : Statement (.closePage tag p) :=
  of_some rfl (by decide : recordClass 2#8 ≠ .unknown) fun _ => by
    simp [Config.maxPayload]

theorem releasePage (tag p : Byte) : Statement (.releasePage tag p) :=
  of_some rfl (by decide : recordClass 3#8 ≠ .unknown) fun _ => by
    simp [Config.maxPayload]

theorem queryPage (tag p : Byte) : Statement (.queryPage tag p) :=
  of_some rfl (by decide : recordClass 4#8 ≠ .unknown) fun _ => by
    simp [Config.maxPayload]

theorem queryPool (tag : Byte) : Statement (.queryPool tag) :=
  of_some rfl (by decide : recordClass 5#8 ≠ .unknown) fun _ => by
    simp [Config.maxPayload]

theorem scan (tag p r m f : Byte) (l : Half) (src pat : Byte) (c : Half) : Statement (.scan tag p r m f l src pat c) :=
  of_some rfl (by decide : recordClass 8#8 ≠ .unknown) fun _ => by
    simp [halfBytes, Config.maxPayload]

theorem cancelScan (tag : Byte) : Statement (.cancelScan tag) :=
  of_some rfl (by decide : recordClass 9#8 ≠ .unknown) fun _ => by
    simp [Config.maxPayload]

theorem shade (tag : Byte) : Statement (.shade tag) :=
  of_some rfl (by decide : recordClass 10#8 ≠ .unknown) fun _ => by
    simp [Config.maxPayload]

theorem print (tag p c : Byte) : Statement (.print tag p c) :=
  of_some rfl (by decide : recordClass 12#8 ≠ .unknown) fun _ => by
    simp [Config.maxPayload]

theorem cancelPrint (tag p : Byte) : Statement (.cancelPrint tag p) :=
  of_some rfl (by decide : recordClass 13#8 ≠ .unknown) fun _ => by
    simp [Config.maxPayload]

theorem resumePrint (tag : Byte) : Statement (.resumePrint tag) :=
  of_some rfl (by decide : recordClass 14#8 ≠ .unknown) fun _ => by
    simp [Config.maxPayload]

theorem readPage (tag p : Byte) (st c : Offset) : Statement (.readPage tag p st c) :=
  of_some rfl (by decide : recordClass 16#8 ≠ .unknown) fun _ => by
    simp [offsetBytes, Config.maxPayload]

theorem cancelRead (tag p : Byte) : Statement (.cancelRead tag p) :=
  of_some rfl (by decide : recordClass 17#8 ≠ .unknown) fun _ => by
    simp [Config.maxPayload]

theorem feed (tag c : Byte) (n : Half) : Statement (.feed tag c n) :=
  of_some rfl (by decide : recordClass 20#8 ≠ .unknown) fun _ => by
    simp [halfBytes, Config.maxPayload]

theorem loadTable (tag t : Byte) (st : Half) (es : List Byte) : Statement (.loadTable tag t st es) :=
  of_some rfl (by decide : recordClass 24#8 ≠ .unknown) fun h => by
    simp only [Instr.wellFormed, Bool.and_eq_true, decide_eq_true_eq] at h
    have := h.2
    simp [halfBytes]
    omega

theorem readTable (tag t : Byte) (st c : Half) : Statement (.readTable tag t st c) :=
  of_some rfl (by decide : recordClass 25#8 ≠ .unknown) fun _ => by
    simp [halfBytes, Config.maxPayload]

theorem standby (tag : Byte) : Statement (.standby tag) :=
  of_some rfl (by decide : recordClass 28#8 ≠ .unknown) fun _ => by
    simp [Config.maxPayload]

theorem sleep (tag : Byte) : Statement (.sleep tag) :=
  of_some rfl (by decide : recordClass 29#8 ≠ .unknown) fun _ => by
    simp [Config.maxPayload]

theorem queryStatus (tag : Byte) : Statement (.queryStatus tag) :=
  of_some rfl (by decide : recordClass 30#8 ≠ .unknown) fun _ => by
    simp [Config.maxPayload]

theorem restart (tag : Byte) : Statement (.restart tag) :=
  of_some rfl (by decide : recordClass 31#8 ≠ .unknown) fun _ => by
    simp [Config.maxPayload]

theorem queryMemory (tag : Byte) : Statement (.queryMemory tag) :=
  of_some rfl (by decide : recordClass 32#8 ≠ .unknown) fun _ => by
    simp [Config.maxPayload]

theorem line (p : Byte) (data : List Byte) : Statement (.line p data) :=
  of_some rfl (by decide : recordClass 64#8 ≠ .unknown) fun h => by
    simp only [Instr.wellFormed, decide_eq_true_eq] at h
    simpa [Nat.add_comm] using h

theorem block (p : Byte) (data : List Byte) : Statement (.block p data) :=
  of_some rfl (by decide : recordClass 65#8 ≠ .unknown) fun h => by
    simp only [Instr.wellFormed, decide_eq_true_eq] at h
    simpa [Nat.add_comm] using h

theorem poolWaitExpiry : Statement .poolWaitExpiry :=
  of_none rfl

theorem refreshTick : Statement .refreshTick :=
  of_none rfl

theorem refreshEnd : Statement .refreshEnd :=
  of_none rfl

theorem scanLineWriteEnd : Statement .scanLineWriteEnd :=
  of_none rfl

theorem printFetchEnd : Statement .printFetchEnd :=
  of_none rfl

theorem linkWriteEnd : Statement .linkWriteEnd :=
  of_none rfl

theorem linkReadEnd : Statement .linkReadEnd :=
  of_none rfl

theorem autoSrTimerExpiry : Statement .autoSrTimerExpiry :=
  of_none rfl

theorem srEntryEnd : Statement .srEntryEnd :=
  of_none rfl

theorem srExitEnd : Statement .srExitEnd :=
  of_none rfl

theorem scanStartingEnd : Statement .scanStartingEnd :=
  of_none rfl

theorem readoutEnd (x : List Byte) : Statement (.readoutEnd x) :=
  of_none rfl

theorem calibrationSettleEnd : Statement .calibrationSettleEnd :=
  of_none rfl

theorem calibrationReadoutEnd (x : List Byte) : Statement (.calibrationReadoutEnd x) :=
  of_none rfl

theorem printStartingEnd : Statement .printStartingEnd :=
  of_none rfl

theorem shiftComplete : Statement .shiftComplete :=
  of_none rfl

theorem strobePulseEnd : Statement .strobePulseEnd :=
  of_none rfl

theorem strobeRecoveryEnd : Statement .strobeRecoveryEnd :=
  of_none rfl

theorem cutTimeEnd : Statement .cutTimeEnd :=
  of_none rfl

theorem stepEvent (x : Motor) (y : Bool) : Statement (.stepEvent x y) :=
  of_none rfl

theorem settleEnd (x : Motor) : Statement (.settleEnd x) :=
  of_none rfl

theorem feedPowerSettleEnd (x : Motor) : Statement (.feedPowerSettleEnd x) :=
  of_none rfl

theorem nonoverlapGapEnd (x : Motor) : Statement (.nonoverlapGapEnd x) :=
  of_none rfl

theorem holdTimeout (x : Motor) : Statement (.holdTimeout x) :=
  of_none rfl

theorem roundStart : Statement .roundStart :=
  of_none rfl

theorem converterTransactionEnd (x : Byte) : Statement (.converterTransactionEnd x) :=
  of_none rfl

theorem inputSample (x : BitVec 6) : Statement (.inputSample x) :=
  of_none rfl

theorem standbyTimerExpiry : Statement .standbyTimerExpiry :=
  of_none rfl

theorem sleepTimerExpiry : Statement .sleepTimerExpiry :=
  of_none rfl

theorem sleepDeadlineExpiry : Statement .sleepDeadlineExpiry :=
  of_none rfl

theorem downstreamReadyDrop : Statement .downstreamReadyDrop :=
  of_none rfl

theorem drdyDropBoundExpiry : Statement .drdyDropBoundExpiry :=
  of_none rfl

theorem sleepOrder : Statement .sleepOrder :=
  of_none rfl

theorem wakeTimerExpiry : Statement .wakeTimerExpiry :=
  of_none rfl

end Sys2Proof.Laws.Encodes
end

