-- ==== Sys2Proof/Laws/PowerLaws.lean ====
section
/-! SUPPORT. What the operations of the units leave of the power record, as simplification lemmas, and that every operation keeps
that record consistent. -/

namespace Sys2Proof.Machine

variable {s x : State}

/-! ### The power record is not touched -/

@[simp] theorem State.submit_power (r : Request) : (x.submit r).power = x.power := (State.submit_inner (Inner.refl x)).power

@[simp] theorem State.withdraw_power (c : ReqClass) : (x.withdraw c).power = x.power := (State.withdraw_inner (Inner.refl x)).power

@[simp] theorem State.disown_power (p : Request → Bool) : (x.disown p).power = x.power := (State.disown_inner (Inner.refl x)).power

@[simp] theorem State.requestMove_power (m : Motor) (n : Nat) (r : MoveReq) : (x.requestMove m n r).power = x.power := (State.requestMove_inner (Inner.refl x)).power

@[simp] theorem State.haltBoth_power : x.haltBoth.power = x.power := (State.haltBoth_inner (Inner.refl x)).power

@[simp] theorem State.resetBoth_power : x.resetBoth.power = x.power := (State.resetBoth_inner (Inner.refl x)).power

@[simp] theorem State.offBoth_power : x.offBoth.power = x.power := (State.offBoth_inner (Inner.refl x)).power

@[simp] theorem State.outlived_power : x.outlived.power = x.power := (State.outlived_inner (Inner.refl x)).power

@[simp] theorem State.endTransfer_power : x.endTransfer.power = x.power := (State.endTransfer_inner (Inner.refl x)).power

@[simp] theorem State.grantBand_power (p : Nat) : (x.grantBand p).power = x.power := (State.grantBand_inner (Inner.refl x)).power

@[simp] theorem State.capture_power : x.capture.power = x.power := (State.capture_inner (Inner.refl x)).power

@[simp] theorem State.nextPatternReadout_power : x.nextPatternReadout.power = x.power := (State.nextPatternReadout_inner (Inner.refl x)).power

@[simp] theorem State.scanResume_power : x.scanResume.power = x.power := (State.scanResume_inner (Inner.refl x)).power

@[simp] theorem State.scanStall_power : x.scanStall.power = x.power := (State.scanStall_inner (Inner.refl x)).power

@[simp] theorem State.scanMemoryLow_power : x.scanMemoryLow.power = x.power := (State.scanMemoryLow_inner (Inner.refl x)).power

@[simp] theorem State.scanMemoryAvailable_power : x.scanMemoryAvailable.power = x.power := (State.scanMemoryAvailable_inner (Inner.refl x)).power

@[simp] theorem State.lowCheck_power : x.lowCheck.power = x.power := (State.lowCheck_inner (Inner.refl x)).power

@[simp] theorem State.requestScanWrite_power (w : ScanWrite) : (x.requestScanWrite w).power = x.power := (State.requestScanWrite_inner (Inner.refl x)).power

@[simp] theorem State.scanAdvance_power (n : Nat) : (x.scanAdvance n).power = x.power := (State.scanAdvance_inner (Inner.refl x)).power

@[simp] theorem State.grantScanWaiting_power : x.grantScanWaiting.power = x.power := (State.grantScanWaiting_inner (Inner.refl x)).power

@[simp] theorem State.linkRequest_power : x.linkRequest.power = x.power := (State.linkRequest_inner (Inner.refl x)).power

@[simp] theorem State.linkAdvance_power : x.linkAdvance.power = x.power := (State.linkAdvance_inner (Inner.refl x)).power

@[simp] theorem State.lookLink_power : x.lookLink.power = x.power := (State.lookLink_inner (Inner.refl x)).power

@[simp] theorem State.availableCheck_power : x.availableCheck.power = x.power := (State.availableCheck_inner (Inner.refl x)).power

@[simp] theorem State.lookWaiting_power : x.lookWaiting.power = x.power := (State.lookWaiting_inner (Inner.refl x)).power

@[simp] theorem State.disownWrites_power (p : Nat) : (x.disownWrites p).power = x.power := (State.disownWrites_inner (Inner.refl x)).power

@[simp] theorem State.releasePage_power (p : Nat) : (x.releasePage p).power = x.power := (State.releasePage_inner (Inner.refl x)).power

@[simp] theorem State.autoRelease_power (p : Nat) : (x.autoRelease p).power = x.power := (State.autoRelease_inner (Inner.refl x)).power

@[simp] theorem State.consume_power (p n : Nat) : (x.consume p n).power = x.power := (State.consume_inner (Inner.refl x)).power

@[simp] theorem State.consumeAll_power (p : Nat) : (x.consumeAll p).power = x.power := (State.consumeAll_inner (Inner.refl x)).power

@[simp] theorem State.raiseMark_power (p pos : Nat) : (x.raiseMark p pos).power = x.power := (State.raiseMark_inner (Inner.refl x)).power

@[simp] theorem State.dropHold_power (p : Nat) (k : Reader) : (x.dropHold p k).power = x.power := (State.dropHold_inner (Inner.refl x)).power

@[simp] theorem State.addHold_power (p : Nat) (k : Reader) (start : Nat) : (x.addHold p k start).power = x.power := (State.addHold_inner (Inner.refl x)).power

@[simp] theorem State.completeRead_power : x.completeRead.power = x.power := (State.completeRead_inner (Inner.refl x)).power

@[simp] theorem State.requestReadPiece_power : x.requestReadPiece.power = x.power := (State.requestReadPiece_inner (Inner.refl x)).power

@[simp] theorem State.readBegin_power (n : Nat) : (x.readBegin n).power = x.power := (State.readBegin_inner (Inner.refl x)).power

@[simp] theorem State.readOn_power : x.readOn.power = x.power := (State.readOn_inner (Inner.refl x)).power

@[simp] theorem State.readPieceEnded_power (bytes : List Byte) : (x.readPieceEnded bytes).power = x.power := (State.readPieceEnded_inner (Inner.refl x)).power

@[simp] theorem State.readPlaced_power : x.readPlaced.power = x.power := (State.readPlaced_inner (Inner.refl x)).power

@[simp] theorem State.dropRead_power (e : ReadEntry) : (x.dropRead e).power = x.power := (State.dropRead_inner (Inner.refl x)).power

@[simp] theorem State.dropReads_power (es : List ReadEntry) : (x.dropReads es).power = x.power := (State.dropReads_inner (Inner.refl x)).power

@[simp] theorem State.abandonRecord_power : x.abandonRecord.power = x.power := (State.abandonRecord_inner (Inner.refl x)).power

@[simp] theorem State.cancelReads_power (field : Nat) : (x.cancelReads field).power = x.power := (State.cancelReads_inner (Inner.refl x)).power

@[simp] theorem State.requestFetch_power : x.requestFetch.power = x.power := (State.requestFetch_inner (Inner.refl x)).power

@[simp] theorem State.fetchNow_power : x.fetchNow.power = x.power := (State.fetchNow_inner (Inner.refl x)).power

@[simp] theorem State.askFetch_power : x.askFetch.power = x.power := (State.askFetch_inner (Inner.refl x)).power

@[simp] theorem State.shiftTakes_power : x.shiftTakes.power = x.power := (State.shiftTakes_inner (Inner.refl x)).power

@[simp] theorem State.fetchArrived_power (r : Request) (bytes : List Byte) : (x.fetchArrived r bytes).power = x.power := (State.fetchArrived_inner (Inner.refl x)).power

@[simp] theorem State.dropFetch_power : x.dropFetch.power = x.power := (State.dropFetch_inner (Inner.refl x)).power

@[simp] theorem State.resetCursor_power : x.resetCursor.power = x.power := (State.resetCursor_inner (Inner.refl x)).power

@[simp] theorem State.printMove_power (ask : MoveAsk) : (x.printMove ask).power = x.power := (State.printMove_inner (Inner.refl x)).power

@[simp] theorem State.enterLead_power : x.enterLead.power = x.power := (State.enterLead_inner (Inner.refl x)).power

@[simp] theorem State.pauseReason_power : x.pauseReason.power = x.power := (State.pauseReason_inner (Inner.refl x)).power

@[simp] theorem State.suspend_power (why : SuspendReason) : (x.suspend why).power = x.power := (State.suspend_inner (Inner.refl x)).power

@[simp] theorem State.startCopy_power (checked : Bool) : (x.startCopy checked).power = x.power := (State.startCopy_inner (Inner.refl x)).power

@[simp] theorem State.beginCopy_power (fromStandby : Bool) : (x.beginCopy fromStandby).power = x.power := (State.beginCopy_inner (Inner.refl x)).power

@[simp] theorem State.nextEntry_power : x.nextEntry.power = x.power := (State.nextEntry_inner (Inner.refl x)).power

@[simp] theorem State.entryGone_power (cancelled : Bool) : (x.entryGone cancelled).power = x.power := (State.entryGone_inner (Inner.refl x)).power

@[simp] theorem State.leaveCut_power : x.leaveCut.power = x.power := (State.leaveCut_inner (Inner.refl x)).power

@[simp] theorem State.enterCut_power : x.enterCut.power = x.power := (State.enterCut_inner (Inner.refl x)).power

@[simp] theorem State.trailRested_power : x.trailRested.power = x.power := (State.trailRested_inner (Inner.refl x)).power

@[simp] theorem State.trailFromRest_power : x.trailFromRest.power = x.power := (State.trailFromRest_inner (Inner.refl x)).power

@[simp] theorem State.trailAtBoundary_power : x.trailAtBoundary.power = x.power := (State.trailAtBoundary_inner (Inner.refl x)).power

@[simp] theorem State.pausedTest_power : x.pausedTest.power = x.power := (State.pausedTest_inner (Inner.refl x)).power

@[simp] theorem State.pauseAtRest_power : x.pauseAtRest.power = x.power := (State.pauseAtRest_inner (Inner.refl x)).power

@[simp] theorem State.paperRested_power : x.paperRested.power = x.power := (State.paperRested_inner (Inner.refl x)).power

@[simp] theorem State.printRest_power : x.printRest.power = x.power := (State.printRest_inner (Inner.refl x)).power

@[simp] theorem State.strobeIdle_power : x.strobeIdle.power = x.power := (State.strobeIdle_inner (Inner.refl x)).power

@[simp] theorem State.latch_power : x.latch.power = x.power := (State.latch_inner (Inner.refl x)).power

@[simp] theorem State.boundaryTests_power : x.boundaryTests.power = x.power := (State.boundaryTests_inner (Inner.refl x)).power

@[simp] theorem State.printBoundary_power : x.printBoundary.power = x.power := (State.printBoundary_inner (Inner.refl x)).power

@[simp] theorem State.printStep_power : x.printStep.power = x.power := (State.printStep_inner (Inner.refl x)).power

@[simp] theorem State.stopAbandoned_power : x.stopAbandoned.power = x.power := (State.stopAbandoned_inner (Inner.refl x)).power

@[simp] theorem State.printPaper_power : x.printPaper.power = x.power := (State.printPaper_inner (Inner.refl x)).power

@[simp] theorem State.cutHead_power : x.cutHead.power = x.power := (State.cutHead_inner (Inner.refl x)).power

@[simp] theorem State.printCover_power : x.printCover.power = x.power := (State.printCover_inner (Inner.refl x)).power

@[simp] theorem State.cancelActive_power : x.cancelActive.power = x.power := (State.cancelActive_inner (Inner.refl x)).power

@[simp] theorem State.dropPrint_power (e : PrintEntry) : (x.dropPrint e).power = x.power := (State.dropPrint_inner (Inner.refl x)).power

@[simp] theorem State.dropPrints_power (es : List PrintEntry) : (x.dropPrints es).power = x.power := (State.dropPrints_inner (Inner.refl x)).power

@[simp] theorem State.cancelPrints_power (field : Nat) : (x.cancelPrints field).power = x.power := (State.cancelPrints_inner (Inner.refl x)).power

@[simp] theorem State.wakeFetch_power (p : Nat) : (x.wakeFetch p).power = x.power := (State.wakeFetch_inner (Inner.refl x)).power

@[simp] theorem State.endFetch_power (p : Nat) : (x.endFetch p).power = x.power := (State.endFetch_inner (Inner.refl x)).power

@[simp] theorem State.printPageTest_power (p : Nat) : (x.printPageTest p).power = x.power := (State.printPageTest_inner (Inner.refl x)).power

@[simp] theorem State.wakeReaders_power (p : Nat) : (x.wakeReaders p).power = x.power := (State.wakeReaders_inner (Inner.refl x)).power

@[simp] theorem State.commit_power (p n : Nat) : (x.commit p n).power = x.power := (State.commit_inner (Inner.refl x)).power

@[simp] theorem State.shutPage_power (p : Nat) (truncated : Bool) : (x.shutPage p truncated).power = x.power := (State.shutPage_inner (Inner.refl x)).power

@[simp] theorem State.tellReaders_power (p : Nat) : (x.tellReaders p).power = x.power := (State.tellReaders_inner (Inner.refl x)).power

@[simp] theorem State.closePage_power (p : Nat) (truncated : Bool) : (x.closePage p truncated).power = x.power := (State.closePage_inner (Inner.refl x)).power

@[simp] theorem State.scanIdle_power : x.scanIdle.power = x.power := (State.scanIdle_inner (Inner.refl x)).power

@[simp] theorem State.ejectCheck_power : x.ejectCheck.power = x.power := (State.ejectCheck_inner (Inner.refl x)).power

@[simp] theorem State.enterEject_power : x.enterEject.power = x.power := (State.enterEject_inner (Inner.refl x)).power

@[simp] theorem State.endCaptures_power (cut : Bool) : (x.endCaptures cut).power = x.power := (State.endCaptures_inner (Inner.refl x)).power

@[simp] theorem State.scanAbort_power (why : AbortReason) (cut : Bool) : (x.scanAbort why cut).power = x.power := (State.scanAbort_inner (Inner.refl x)).power

@[simp] theorem State.scanAbortStop_power (why : AbortReason) : (x.scanAbortStop why).power = x.power := (State.scanAbortStop_inner (Inner.refl x)).power

@[simp] theorem State.endCalibration_power : x.endCalibration.power = x.power := (State.endCalibration_inner (Inner.refl x)).power

@[simp] theorem State.scanCover_power : x.scanCover.power = x.power := (State.scanCover_inner (Inner.refl x)).power

@[simp] theorem State.enterFeedIn_power : x.enterFeedIn.power = x.power := (State.enterFeedIn_inner (Inner.refl x)).power

@[simp] theorem State.scanBegin_power : x.scanBegin.power = x.power := (State.scanBegin_inner (Inner.refl x)).power

@[simp] theorem State.firstBoundary_power : x.firstBoundary.power = x.power := (State.firstBoundary_inner (Inner.refl x)).power

@[simp] theorem State.lampTest_power : x.lampTest.power = x.power := (State.lampTest_inner (Inner.refl x)).power

@[simp] theorem State.leadEdge_power : x.leadEdge.power = x.power := (State.leadEdge_inner (Inner.refl x)).power

@[simp] theorem State.scanStep_power (sample : Bool) : (x.scanStep sample).power = x.power := (State.scanStep_inner (Inner.refl x)).power

@[simp] theorem State.scanRest_power : x.scanRest.power = x.power := (State.scanRest_inner (Inner.refl x)).power

@[simp] theorem State.lineRead_power (r : Readout) (samples : List Byte) : (x.lineRead r samples).power = x.power := (State.lineRead_inner (Inner.refl x)).power

@[simp] theorem State.patternCount_power : x.patternCount.power = x.power := (State.patternCount_inner (Inner.refl x)).power

@[simp] theorem State.readoutOver_power (samples : List Byte) : (x.readoutOver samples).power = x.power := (State.readoutOver_inner (Inner.refl x)).power

@[simp] theorem State.jamTest_power : x.jamTest.power = x.power := (State.jamTest_inner (Inner.refl x)).power

@[simp] theorem State.scanWriteOver_power (r : Request) : (x.scanWriteOver r).power = x.power := (State.scanWriteOver_inner (Inner.refl x)).power

@[simp] theorem State.beginReading_power : x.beginReading.power = x.power := (State.beginReading_inner (Inner.refl x)).power

@[simp] theorem State.bandChanged_power (ch : Nat) (masked : Bool) : (x.bandChanged ch masked).power = x.power :=
  (State.bandChanged_inner (Inner.refl x)).power

@[simp] theorem State.takeSample_power (ch raw : Nat) (masked : Bool) : (x.takeSample ch raw masked).power = x.power :=
  (State.takeSample_inner (Inner.refl x)).power

@[simp] theorem State.emptyChannel_power (ch : Nat) : (x.emptyChannel ch).power = x.power := (State.emptyChannel_inner (Inner.refl x)).power

@[simp] theorem State.visit_power (n : Nat) : (x.visit n).power = x.power := (State.visit_inner (Inner.refl x)).power

@[simp] theorem State.goRound_power (n : Nat) : (x.goRound n).power = x.power := (State.goRound_inner (Inner.refl x)).power

@[simp] theorem State.startRound_power : x.startRound.power = x.power := (State.startRound_inner (Inner.refl x)).power

@[simp] theorem State.moveRound_power : x.moveRound.power = x.power := (State.moveRound_inner (Inner.refl x)).power

@[simp] theorem State.reportInput_power (n : Nat) (v : Bool) : (x.reportInput n v).power = x.power := (State.reportInput_inner (Inner.refl x)).power

@[simp] theorem State.edgeStep_power (v : Bool) : (x.edgeStep v).power = x.power := (State.edgeStep_inner (Inner.refl x)).power

@[simp] theorem State.tellRest_power (m : Motor) : (x.tellRest m).power = x.power := (State.tellRest_inner (Inner.refl x)).power

@[simp] theorem State.afterRest_power (m : Motor) : (x.afterRest m).power = x.power := (State.afterRest_inner (Inner.refl x)).power

@[simp] theorem State.tellStep_power (m : Motor) (sample : Bool) : (x.tellStep m sample).power = x.power := (State.tellStep_inner (Inner.refl x)).power

@[simp] theorem State.finishStep_power (m : Motor) (wasPending : Bool) : (x.finishStep m wasPending).power = x.power := (State.finishStep_inner (Inner.refl x)).power

@[simp] theorem State.stepNow_power (m : Motor) (sample : Bool) : (x.stepNow m sample).power = x.power := (State.stepNow_inner (Inner.refl x)).power

@[simp] theorem State.requestStop_power (m : Motor) (o : Owner) : (x.requestStop m o).1.power = x.power :=
  (State.requestStop_inner (Inner.refl x)).power

/-! ### Units that change it not at all -/

@[simp] theorem State.gateOutputs_power : x.gateOutputs.power = x.power := rfl

@[simp] theorem State.startAuto_power : x.startAuto.power = x.power := rfl

@[simp] theorem State.answer_power (tag kind : Byte) (c : ResultCode) (d : List Byte) :
    (x.answer tag kind c d).power = x.power := rfl

@[simp] theorem State.refuse_power (tag kind : Byte) (c : ResultCode) : (x.refuse tag kind c).power = x.power := rfl

@[simp] theorem State.accept_power (tag kind : Byte) : (x.accept tag kind).power = x.power := rfl

@[simp] theorem State.raiseAll_power : ∀ (es : List Event) (x : State), (x.raiseAll es).power = x.power
  | [], _ => rfl
  | e :: es, x => (State.raiseAll_power es (x.raise e)).trans rfl

@[simp] theorem State.redriveHold_power (m : Motor) : (x.redriveHold m).power = x.power := by
  unfold State.redriveHold; dsimp only; split <;> simp

@[simp] theorem State.banksChanged_power : x.banksChanged.power = x.power := by
  unfold State.banksChanged; dsimp only; split <;> rfl

@[simp] theorem State.replaceTables_power (t : Tables) : (x.replaceTables t).power = x.power := by
  unfold State.replaceTables; dsimp only; repeat' split
  all_goals simp

@[simp] theorem State.applyLoad_power (i n : Nat) (es : List Byte) : (x.applyLoad i n es).power = x.power := by
  simp [State.applyLoad]

@[simp] theorem State.warmBlocks_power : x.warmBlocks.power = x.power := by simp [State.warmBlocks]

@[simp] theorem State.warmMonitor_power : x.warmMonitor.power = x.power := rfl

@[simp] theorem State.narrowInputs_power : x.narrowInputs.power = x.power := rfl

/-! ### The power record stays consistent -/

theorem State.enterStandby_pok (h : x.power.ok) (hs : x.power.state = .run) : x.enterStandby.power.ok := by
  simp [State.enterStandby] at *
  grind

theorem State.enterRun_pok (h : x.power.ok) (hs : x.power.state = .standby) : x.enterRun.power.ok := by
  simp [State.enterRun] at *
  grind

theorem State.jobAccepted_pok (h : x.power.ok) : x.jobAccepted.power.ok := by
  unfold State.jobAccepted
  dsimp only
  repeat' split
  · exact State.enterRun_pok (by simp at *; grind) (by assumption)
  · simp at *; grind
  · exact State.enterRun_pok (by simp at *; grind) (by assumption)
  · simp at *; grind

theorem State.enterSleeping_pok (h : x.power.ok) (hs : x.power.state = .run ∨ x.power.state = .standby) :
    x.enterSleeping.power.ok := by
  simp [State.enterSleeping] at *
  grind

theorem State.askSleep_pok (h : x.power.ok) (hs : x.power.state = .run ∨ x.power.state = .standby) :
    x.askSleep.power.ok := by
  unfold State.askSleep
  split
  · exact State.enterSleeping_pok h hs
  · simp at *; grind

theorem State.abandonSleep_pok (h : x.power.ok) : x.abandonSleep.power.ok := by
  unfold State.abandonSleep
  dsimp only
  split
  · simp at *; grind
  · simp at *; grind

theorem State.syncStandby_pok (h : x.power.ok) : x.syncStandby.power.ok := by
  unfold State.syncStandby
  repeat' split
  · exact h
  · rename_i hc _
    simp [State.standbyConditions] at *
    grind
  · simp at *; grind

theorem State.settled_pok (h : x.power.ok) : x.settled.power.ok := by
  unfold State.settled
  refine State.syncStandby_pok ?_
  split
  · exact State.enterSleeping_pok h (by grind)
  · exact h

theorem State.startWaking_pok {w : WakeSource} (h : x.power.ok) (hs : x.power.state = .sleep) :
    (x.startWaking w).power.ok := by
  simp [State.startWaking] at *
  grind

theorem State.wakeSeen_pok {w : WakeSource} (h : x.power.ok) : (x.wakeSeen w).power.ok := by
  unfold State.wakeSeen
  repeat' split
  · simp at *; grind
  · exact h
  · exact State.startWaking_pok h (by assumption)
  all_goals exact h

theorem State.reachSleep_pok (h : x.power.ok) (hs : x.power.state = .enteringSleep) : x.reachSleep.power.ok := by
  unfold State.reachSleep
  dsimp only
  split
  · simp [State.startWaking] at *; grind
  · simp at *; grind

theorem State.reportAsleep_pok (h : x.power.ok) : x.reportAsleep.power.ok := by
  unfold State.reportAsleep
  split
  · exact State.reachSleep_pok h (by simp_all)
  · exact h

theorem State.dropDrdy_pok (h : x.power.ok) (hs : x.power.state = .enteringSleep) : x.dropDrdy.power.ok := by
  simp [State.dropDrdy] at *
  grind

theorem State.giveSleepOrder_pok (h : x.power.ok) (hs : x.power.state = .enteringSleep) (hd : x.power.drdyDropped = true) :
    x.giveSleepOrder.power.ok := by
  refine State.reportAsleep_pok ?_
  simp at *
  grind

theorem State.wakeUp_pok {w : WakeSource} (h : x.power.ok) (hs : x.power.state = .waking) : (x.wakeUp w).power.ok := by
  simp [State.wakeUp] at *
  grind

theorem State.dataInStandby_pok (h : x.power.ok) : x.dataInStandby.power.ok := by
  unfold State.dataInStandby
  split
  · simp at *; grind
  · exact h

theorem State.beginBoot_pok {c : BootCause} (hb : x.power.hstby = false) : (x.beginBoot c).power.ok := by
  simp [State.beginBoot] at *
  grind

theorem State.withBoot_pok {b : BootRec} (h : x.power.ok) : (x.withBoot b).power.ok := h

theorem State.bootEnds_pok {o : BootOutcome} (h : x.power.ok) : (x.bootEnds o).power.ok := h

theorem State.byteSent_pok {n : Nat} {a : Bool} (h : x.power.ok) : (x.byteSent n a).power.ok := by
  unfold State.byteSent
  dsimp only
  repeat' split
  all_goals exact h

theorem State.applyBootRecord_pok {p : List Byte} (h : x.power.ok) : (x.applyBootRecord p).power.ok := by
  unfold State.applyBootRecord
  repeat' split
  · simpa using h
  all_goals exact h

theorem State.bootHeaderByte_pok {b : Byte} (h : x.power.ok) : (x.bootHeaderByte b).power.ok := by
  unfold State.bootHeaderByte
  dsimp only
  repeat' split
  all_goals exact h

theorem State.bootPayloadByte_pok {b : Byte} (h : x.power.ok) : (x.bootPayloadByte b).power.ok := by
  unfold State.bootPayloadByte
  dsimp only
  repeat' split
  all_goals first | exact h | exact State.applyBootRecord_pok h

theorem State.withWire_pok {w : List WireSign} (h : x.power.ok) : (x.withWire w).power.ok := h

theorem State.streamByte_pok {b : Byte} (h : x.power.ok) : (x.streamByte b).power.ok := by
  unfold State.streamByte
  dsimp only
  refine State.withWire_pok ?_
  repeat' split
  all_goals first | exact State.bootHeaderByte_pok h | exact State.bootPayloadByte_pok h

theorem State.finishBoot_pok {o : BootOutcome} (h : x.power.ok) (hs : x.power.state = .boot) (hp : x.power.por = false) :
    (x.finishBoot o).power.ok := by
  unfold State.finishBoot
  dsimp only
  repeat' split
  all_goals simp at *; grind

theorem State.wrstBlocks_pok (h : x.power.ok) : x.wrstBlocks.power.ok := by
  simp [State.wrstBlocks] at *
  grind

theorem State.wrstBlocks_state : x.wrstBlocks.power.state = x.power.state := by simp [State.wrstBlocks]

theorem State.wrstBlocks_hstby : x.wrstBlocks.power.hstby = x.power.hstby := by simp [State.wrstBlocks]

theorem State.wrstWoke_pok {c : BootCause} : (x.wrstWoke c).power.ok := by
  simp [State.wrstWoke, State.beginBoot] at *
  grind

theorem State.warmRestart_pok {a b : Bool} (h : x.power.ok) : (x.warmRestart a b).power.ok := by
  unfold State.warmRestart
  dsimp only
  have k := State.wrstBlocks_pok (x := x.withPower { x.power with bootsel1 := a, bootsel0 := b }) h
  have e := State.wrstBlocks_state (x := x.withPower { x.power with bootsel1 := a, bootsel0 := b })
  have f := State.wrstBlocks_hstby (x := x.withPower { x.power with bootsel1 := a, bootsel0 := b })
  generalize (x.withPower { x.power with bootsel1 := a, bootsel0 := b }).wrstBlocks = y at *
  simp only [State.withPower_power] at e f
  have hb : x.power.hstby = false → y.power.hstby = false := fun q => by rw [f, q]
  repeat' split
  · exact State.beginBoot_pok (hb (by grind))
  · exact State.beginBoot_pok (hb (by grind))
  · exact State.beginBoot_pok (hb (by grind))
  · exact State.beginBoot_pok (hb (by grind))
  · simp at *; grind
  · exact State.wrstWoke_pok
  · exact State.startWaking_pok k (by simp_all)
  · simp at *; grind

theorem State.exitEnded_pok (h : x.power.ok) : x.exitEnded.power.ok := by
  unfold State.exitEnded
  dsimp only
  repeat' split
  · exact State.wrstWoke_pok
  · exact State.wakeUp_pok (by simpa using h) (by simp_all)
  · simpa using h
  · simpa using h

theorem State.restartPower_pok (h : x.power.ok) : x.restartPower.power.ok := by
  unfold State.restartPower
  dsimp only
  repeat' split
  all_goals simp at *; grind

theorem State.releasePor_pok {a b : Bool} (h : x.power.ok) (hp : x.power.por = true) : (x.releasePor a b).power.ok := by
  unfold State.releasePor
  dsimp only
  refine State.beginBoot_pok ?_
  simp at *
  grind

/-! ### Inputs -/

theorem State.handInput_pok {n : Nat} {v : Bool} (h : x.power.ok) : (x.handInput n v).power.ok := by
  unfold State.handInput State.coverOpened
  repeat' split
  all_goals first | exact h | exact State.wakeSeen_pok h | simpa using h

theorem State.sampleInput_pok {n : Nat} {v : Bool} (h : x.power.ok) : (x.sampleInput n v).power.ok := by
  unfold State.sampleInput
  dsimp only
  split
  · rw [State.reportInput_power]
    exact State.handInput_pok h
  · exact h

theorem State.sampleInputs_pok {pins : BitVec 6} {n : Nat} : ∀ {x : State}, x.power.ok →
    (x.sampleInputs pins n).power.ok := by
  induction n with
  | zero => exact id
  | succ n ih =>
    intro x h
    unfold State.sampleInputs
    dsimp only
    split
    · exact ih (State.sampleInput_pok h)
    · exact ih h

/-! ### Commands -/

theorem Power.taking {p : Power} (h : p.downstreamWorks = true) :
    p.state = .run ∨ p.state = .standby ∨ p.state = .enteringSleep := by
  unfold Power.downstreamWorks at h
  split at h <;> simp_all

theorem State.startScan_pok {f : ScanFields} (h : x.power.ok) : (x.startScan f).power.ok := by
  unfold State.startScan
  dsimp only
  split
  · exact State.jobAccepted_pok h
  · rw [State.scanBegin_power]; exact State.jobAccepted_pok h

theorem State.doScan_pok {tag page resolution mode retain : Byte} {label : Half} {source pattern : Byte}
    {lineCount : Half} (h : x.power.ok) :
    (x.doScan tag page resolution mode retain label source pattern lineCount).power.ok := by
  unfold State.doScan
  repeat' split
  all_goals first | exact h | exact State.startScan_pok h

theorem State.doShade_pok {tag : Byte} (h : x.power.ok) : (x.doShade tag).power.ok := by
  unfold State.doShade State.startShade
  dsimp only
  repeat' split
  all_goals first | exact h | (rw [State.beginReading_power]; exact State.jobAccepted_pok h) | exact State.jobAccepted_pok h

theorem State.startPrint_pok {p n : Nat} (h : x.power.ok) : (x.startPrint p n).power.ok := by
  unfold State.startPrint
  dsimp only
  split
  · rw [State.beginCopy_power]; exact State.jobAccepted_pok (by simpa using h)
  · exact State.jobAccepted_pok (by simpa using h)

theorem State.doPrint_pok {tag page copies : Byte} (h : x.power.ok) : (x.doPrint tag page copies).power.ok := by
  unfold State.doPrint
  dsimp only
  repeat' split
  all_goals first | exact h | exact State.startPrint_pok h

theorem State.doResumePrint_pok {tag : Byte} (h : x.power.ok) : (x.doResumePrint tag).power.ok := by
  unfold State.doResumePrint
  repeat' split
  all_goals first | exact h | (rw [State.startCopy_power, State.resetCursor_power]; exact State.jobAccepted_pok h)

theorem State.startRead_pok {p n m : Nat} (h : x.power.ok) : (x.startRead p n m).power.ok := by
  have k := State.jobAccepted_pok (x := (x.withReads (x.link.reads ++
    [{ page := p, start := n, count := m, cursor := n, placed := 0 }])).addHold p .link n) (by simpa using h)
  unfold State.startRead
  dsimp only
  repeat' split
  all_goals simpa using k

theorem State.doReadPage_pok {tag page : Byte} {start count : Offset} (h : x.power.ok) :
    (x.doReadPage tag page start count).power.ok := by
  unfold State.doReadPage
  dsimp only
  repeat' split
  all_goals first | exact h | exact State.startRead_pok h

theorem State.doFeed_pok {tag channel : Byte} {n : Half} (h : x.power.ok) : (x.doFeed tag channel n).power.ok := by
  unfold State.doFeed State.startFeed
  dsimp only
  repeat' split
  all_goals first | exact h | (rw [State.requestMove_power]; exact State.jobAccepted_pok h)

theorem State.doStandby_pok {tag : Byte} (h : x.power.ok) : (x.doStandby tag).power.ok := by
  unfold State.doStandby
  repeat' split
  all_goals first | exact h | exact State.enterStandby_pok h (by assumption)

theorem State.doSleep_pok {tag : Byte} (h : x.power.ok) (hs : x.power.downstreamWorks = true) : (x.doSleep tag).power.ok := by
  unfold State.doSleep
  split
  · exact h
  · rename_i hn
    refine State.askSleep_pok h ?_
    have := Power.taking hs
    simp only [State.answer_power]
    simp [State.entering] at hn
    grind

theorem State.doRestart_pok {tag : Byte} (h : x.power.ok) : (x.doRestart tag).power.ok := by
  unfold State.doRestart
  rw [State.raiseAll_power, State.answer_power]
  unfold State.restartBlocks
  exact State.restartPower_pok (by simpa using h)

theorem State.takeLine_pok {page : Byte} {data : List Byte} (h : x.power.ok) : (x.takeLine page data).power.ok := by
  have k := State.dataInStandby_pok h
  unfold State.takeLine
  dsimp only
  split
  · exact k
  · rw [State.linkAdvance_power]; exact k

theorem State.takeBlock_pok {page : Byte} {data : List Byte} (h : x.power.ok) : (x.takeBlock page data).power.ok := by
  have k := State.dataInStandby_pok h
  unfold State.takeBlock
  dsimp only
  repeat' split
  all_goals first | exact k | (rw [State.linkAdvance_power]; exact k)

theorem State.takes_works {i : Instr} (h : x.takes i = true) : x.power.downstreamWorks = true := by
  unfold State.takes at h
  split at h <;> simp_all [State.takesData, State.takesQuery, State.takesCommand]

theorem State.deliver_pok {i : Instr} (h : x.power.ok) (ht : x.takes i = true) : (x.deliver i).power.ok := by
  have hw := State.takes_works ht
  unfold State.deliver
  split
  case h_1 => unfold State.doOpenPage; repeat' split
              all_goals exact h
  case h_2 => unfold State.doClosePage; dsimp only; repeat' split
              all_goals first | exact h | simpa using h
  case h_3 => unfold State.doReleasePage; dsimp only; repeat' split
              all_goals first | exact h | simpa using h
  case h_4 => unfold State.doQueryPage; split <;> exact h
  case h_5 => exact h
  case h_6 => exact State.doScan_pok h
  case h_7 => unfold State.doCancelScan; split
              · exact h
              · simpa using h
  case h_8 => exact State.doShade_pok h
  case h_9 => exact State.doPrint_pok h
  case h_10 => unfold State.doCancelPrint; repeat' split
               all_goals first | exact h | simpa using h
  case h_11 => exact State.doResumePrint_pok h
  case h_12 => exact State.doReadPage_pok h
  case h_13 => unfold State.doCancelRead; repeat' split
               all_goals first | exact h | simpa using h
  case h_14 => exact State.doFeed_pok h
  case h_15 => unfold State.doLoadTable; split
               all_goals first | exact h | simpa using h
  case h_16 => unfold State.doReadTable; repeat' split
               all_goals exact h
  case h_17 => exact State.doStandby_pok h
  case h_18 => exact State.doSleep_pok h hw
  case h_19 => exact h
  case h_20 => exact State.doRestart_pok h
  case h_21 => exact h
  case h_22 => exact State.takeLine_pok h
  case h_23 => exact State.takeBlock_pok h
  case h_24 => exact h

/-! ### The link -/

theorem State.hand_pok {o : Handed} (h : x.power.ok) (hm : x.mayHand o = true) : (x.hand o).power.ok := by
  unfold State.hand
  dsimp only
  split
  · exact State.deliver_pok h hm
  · exact h

theorem State.recordComplete_pok {p : Parser} (h : x.power.ok) : (x.recordComplete p).power.ok := by
  unfold State.recordComplete
  repeat' split
  · exact h
  · exact State.hand_pok h (by assumption)
  · exact h

theorem State.takeByte_pok (h : x.power.ok) : x.takeByte.power.ok := by
  unfold State.takeByte State.headerByte State.payloadByte State.frameLost
  dsimp only
  repeat' split
  all_goals first | exact h | exact State.recordComplete_pok h

theorem State.place_pok {c : UpClass} (h : x.power.ok) : (x.place c).power.ok := by
  unfold State.place
  dsimp only
  split
  · exact h
  · exact h
  · simpa using h

theorem State.hostWrites_pok {b : Byte} (h : x.power.ok) : (x.hostWrites b).power.ok := by
  unfold State.hostWrites
  repeat' split
  all_goals first | exact h | exact State.wakeSeen_pok h

end Sys2Proof.Machine
end

