-- ==== Sys2Proof/Laws/Reports.lean ====
section
/-! SUPPORT. What an event, a reply, the assembler's choice and the settling of the standby timer change, each said once as an
equation on the whole state. -/

namespace Sys2Proof.Machine

variable {s : State}

theorem State.choose_eq : s.choose = { s with link := { s.link with chosen := s.choose.link.chosen } } := by
  unfold State.choose Link.choose
  split <;> rfl

/-- An event for which there is room joins the tail of the event queue, and nothing else changes but the choice. -/
theorem State.raise_room {e : Event} (h : s.link.room 1) :
    s.raise e = { s with link := s.link.reported [e] (s.raise e).link.chosen } := by
  have hp : s.link.push e = { s.link with events := s.link.events ++ [e] } := by
    unfold Link.push
    simp only [h.1]
    rw [if_pos (show s.link.events.length < Config.ordinaryEvents from h.2)]
  unfold State.raise
  rw [State.choose_eq, hp]
  rfl

/-- A reply joins the tail of the reply queue, and nothing else changes but the choice. -/
theorem State.answer_eq {tag kind : Byte} {code : ResultCode} {data : List Byte} :
    s.answer tag kind code data =
      { s with link := s.link.replied tag kind code data (s.answer tag kind code data).link.chosen } := by
  unfold State.answer State.reply
  rw [State.choose_eq]
  rfl

theorem State.syncStandby_eq : s.syncStandby = { s with power := s.power.timed s.syncStandby.power } := by
  unfold State.syncStandby
  repeat' split
  all_goals rfl

/-- With no sleep pending the end of a step moves the standby timer alone. -/
theorem State.settled_eq (h : s.power.sleepPending = none) :
    s.settled = { s with power := s.power.timed s.settled.power } := by
  unfold State.settled
  rw [h]
  exact State.syncStandby_eq

end Sys2Proof.Machine
end

