-- ==== Sys2Proof/Tests/Slice0.lean ====
section
/-! SUPPORT. Tests of the model: ill-formed terms, records written out by hand, one step of each kind, and for each statement with
hypotheses a state that meets them. -/

namespace Sys2Proof.Tests

set_option Elab.async false

open Sys2Proof Sys2Proof.Machine

/-! ### Ill-formed terms -/

theorem test_wf_load_without_entries : (Instr.loadTable 0#8 0#8 0#16 []).wellFormed = false := by decide
theorem test_wf_load_odd_bytes : (Instr.loadTable 0#8 0#8 0#16 [1#8, 2#8, 3#8]).wellFormed = false := by decide
theorem test_wf_load_too_long : (Instr.loadTable 0#8 1#8 0#16 (List.replicate 2046 64#8)).wellFormed = false := by
  decide +kernel
theorem test_wf_line_too_long : (Instr.line 0#8 (List.replicate 2048 0#8)).wellFormed = false := by decide +kernel
theorem test_wf_block_too_long : (Instr.block 0#8 (List.replicate 2048 0#8)).wellFormed = false := by decide +kernel
theorem test_wf_readout_too_long : (Instr.readoutEnd (List.replicate 4096 0#8)).wellFormed = false := by decide +kernel
theorem test_wf_calibration_too_long : (Instr.calibrationReadoutEnd (List.replicate 4096 0#8)).wellFormed = false := by
  decide +kernel
theorem test_wf_longest_line : (Instr.line 0#8 (List.replicate 2047 0#8)).wellFormed = true := by decide +kernel

/-! ### Records written out from 13.3 -/

theorem test_decode_close_page : decodeRecord [0x5A#8, 0x02#8, 0x07#8, 0#8, 1#8, 0x1F#8] = some (.closePage 7#8 31#8) := by decide
theorem test_decode_shade : decodeRecord [0x5A#8, 0x0A#8, 0x08#8, 0#8, 0#8] = some (.shade 8#8) := by decide
theorem test_decode_cancel_print : decodeRecord [0x5A#8, 0x0D#8, 0x09#8, 0#8, 1#8, 0xFF#8] = some (.cancelPrint 9#8 255#8) := by
  decide
theorem test_decode_cancel_read : decodeRecord [0x5A#8, 0x11#8, 0x0A#8, 0#8, 1#8, 2#8] = some (.cancelRead 10#8 2#8) := by decide
theorem test_decode_read_table :
    decodeRecord [0x5A#8, 0x19#8, 0x0B#8, 0#8, 5#8, 1#8, 0x07#8, 0xFF#8, 0#8, 1#8] = some (.readTable 11#8 1#8 2047#16 1#16) := by
  decide
theorem test_decode_sleep : decodeRecord [0x5A#8, 0x1D#8, 0x0C#8, 0#8, 0#8] = some (.sleep 12#8) := by decide
theorem test_decode_query_memory : decodeRecord [0x5A#8, 0x20#8, 0x0D#8, 0#8, 0#8] = some (.queryMemory 13#8) := by decide
theorem test_decode_block : decodeRecord [0x5A#8, 0x41#8, 0#8, 0#8, 3#8, 4#8, 0xAB#8, 0xCD#8] = some (.block 4#8 [0xAB#8, 0xCD#8]) := by
  decide
theorem test_decode_wrong_length : decodeRecord [0x5A#8, 0x1D#8, 0x0C#8, 0#8, 1#8, 0#8] = none := by decide
theorem test_decode_table_word : decodeTableWord 8 0 = none := rfl

/-! ### Small states -/

/-- A settled input at a level. -/
def input (active : Bool) : InputRec := { level := some active, count := 0, sample := none }

/-- Inputs of which those listed are active. -/
def inputs (on : List Nat) : Vector InputRec 6 :=
  #v[input (on.contains 0), input (on.contains 1), input (on.contains 2), input (on.contains 3), input (on.contains 4),
     input (on.contains 5)]

/-- A part that has booted without a source and does nothing. -/
def running : State :=
  { State.reset with
    now := 1000
    store := PageStore.reset.build 1
    dram := { Dram.reset with state := .active, nextTick := some 1300 }
    mon := { Monitor.reset with inputs := inputs [], lastRound := some { start := 900, period := 10 }, nextRound := some 200900, nextSample := some 20000 }
    power := { Power.reset with state := .run, por := false, hrsto := false, lastBoot := some (.noSource, 0) } }

/-- A page of the link, 1728 dots wide. -/
def linkPage : PageRec := PageRec.opened .image .keep .link 1728 .fine true 0xBEEF#16

/-- The part with some of its units replaced. -/
def running.inState (p : PowerState) : State := { running with power := { running.power with state := p } }

/-- A transfer of a request, ending at 1200. -/
def running.moving (r : Request) : State := { running with dram := { running.dram with current := some (.transfer r 1200) } }

/-- A refresh in progress, ending at 1200. -/
def running.refreshing : State := { running with dram := { running.dram with current := some (.refresh 1200) } }

/-- The next state of a command. -/
def after (c : Instr) (s : State) : State :=
  match exec c s with
  | .next t => t
  | .fault _ | .refused _ => s

/-- The part with a page record. -/
def withPage (p : Nat) (r : PageRec) (s : State) : State := s.withPage p r

/-- The part with bytes in the downstream FIFO and a parser. -/
def downstream (bytes : List Byte) (p : Parser) : State := { running with link := { running.link with down := bytes, parser := p } }

/-- The part busy with a refresh, so that a request waits. -/
def busy (s : State) : State := { s with dram := { s.dram with current := some (.refresh 1200), autoTimer := some 9 } }

/-- A line of a scan in transfer to page 4. -/
def scanLine : Request := lineRequest .scanWrite 4 32 1728 7 (List.replicate 216 0xA5#8) (some .b)

/-- A line of the link in transfer to page 4. -/
def linkLine : Request := lineRequest .linkWrite 4 5 1728 7 (List.replicate 216 0xA5#8) none

/-- A scan's last line of a band being written. -/
def scanWriting : State :=
  let s := withPage 4 { linkPage with writer := some .scan, committed := 32, chain := [3, 7], filling := true }
    (running.moving scanLine)
  { s with scan := { s.scan with
      slotB := { use := .held, dots := [] }
      job := { ScanJob.idle with state := .capture, source := some .sensor, page := some 4, nextLine := 33 }
      writes := [{ index := 32, slot := .b, banded := true, requested := true }] } }

/-- A link line being written. -/
def linkWriting : State :=
  let s := withPage 4 { linkPage with committed := 5, chain := [7] } (running.moving linkLine)
  { s with link := { s.link with writer := some { isLine := true, page := 4, next := 5, data := linkLine.data } } }

/-- A print fetch in transfer while SHIFT holds a line. -/
def fetching : State :=
  let s := running.moving (lineRequest .printFetch 4 5 1728 7 [] none)
  { s with print := { s.print with
      copy := { CopyRec.idle with shift := { ShiftBuf.none with status := .complete }, fetch := { FetchBuf.none with status := .requested } } } }

/-- A link read in transfer. -/
def reading : State :=
  let s := running.moving (lineRequest .linkRead 4 5 1728 7 [] none)
  { s with link := { s.link with readBuf := ReadBuf.begin true 4 5 6 } }

/-- A closed page with readers. -/
def keptPage : PageRec :=
  { linkPage with state := .closed, writer := none, committed := 40, chain := [7, 9], printHold := 1, linkHold := 2 }

/-- The part with a print queue, its copy suspended. -/
def printing (q : List PrintEntry) : State :=
  let s := withPage 3 keptPage running
  { s with print := { s.print with queue := q, copy := { CopyRec.idle with state := .suspended, suspend := some .paper } } }

/-- The part with a link read queue. -/
def readingOut (q : List ReadEntry) : State :=
  let s := withPage 3 keptPage running
  { s with link := { s.link with reads := q, readBuf := ReadBuf.begin true 5 0 1 } }

/-- A print entry of page 3. -/
def entry : PrintEntry := { page := 3, copies := 2, done := 1, cursor := 0 }

/-- A read entry of page 5. -/
def readEntry : ReadEntry := { page := 5, start := 0, count := 1, cursor := 0, placed := 0 }

/-- The document stands at the scanner: DOC_IN and DOC_EDGE are active. -/
def withDocument (s : State) : State := { s with mon := { s.mon with inputs := inputs [0, 1] } }

/-- The fields of the SCAN of the witnesses. -/
def fields : ScanFields :=
  { page := 4, res := .fine, mode := .keep, retain := true, label := 0x1234#16, source := .sensor, pattern := none, lineCount := 0 }

/-- The SCAN of the witnesses. -/
def scanCommand : Instr := .scan 9#8 4#8 1#8 0#8 1#8 0x1234#16 0#8 9#8 0#16

/-- A scan job of that SCAN. -/
def scanJob (st : ScanState) : ScanJob :=
  { ScanJob.idle with state := st, page := some 4, source := some .sensor, resolution := some .fine, steps := 2, floor := 900 }

/-- The page of that SCAN. -/
def scanPage : PageRec := PageRec.opened .image .keep .scan 1728 .fine true 0x1234#16

/-- A scan that feeds its document in. -/
def feedingIn : State :=
  let s := withPage 4 scanPage running
  { s with
    scan := { s.scan with lamp := true, job := scanJob .feedIn }
    motS := { Channel.reset with state := .run, owner := .scan, interval := some { length := 1400, endsAt := 1200 } } }

/-- A scan that captures, one step before a line boundary. -/
def capturing : State :=
  let s := withDocument (withPage 4 { scanPage with chain := [7], committed := 30 } running)
  { s with
    scan := { s.scan with lamp := true, job := { scanJob .capture with edgeLevel := true, nextLine := 31 } }
    motS := { Channel.reset with
      state := .run, owner := .scan, steps := 2, move := some .open_, position := 1, cruise := 7, index := 7
      interval := some { length := 1400, endsAt := 1200 } } }

/-- The same scan with the readout of line 30 in progress. -/
def readingOutLine : State :=
  let s := busy capturing
  { s with scan := { s.scan with
      readouts := [{ slot := some .a, index := 30, live := true, endsAt := 1100 }], slotA := { use := .filling, dots := [] } } }

/-- A calibration after a number of readouts. -/
def calibrating (n : Nat) : State :=
  { running with scan := { running.scan with
      lamp := true
      calibration := some { settleEnds := none, readoutEnds := some 1200, readouts := n, sums := List.replicate 1728 1400 } } }

/-- A channel in the middle of a FEED of which some steps are left. -/
def feeding (m : Motor) (left index : Nat) : State :=
  running.withMot m
    { Channel.reset with
      state := .run, owner := .feed, move := some .counted, cruise := 4, index := index, remaining := some left
      halfStep := true, phase := 7, coils := 9#4, interval := some { length := 1800, endsAt := 1200 } }

/-- A channel in HOLD. -/
def holding (m : Motor) : State := running.withMot m { Channel.reset with state := .hold, coils := 1#4, holdTimer := some 1200 }

/-- A channel that settles, in the POWER_SETTLE part or after it. -/
def settling (m : Motor) (powerPart : Bool) : State :=
  running.withMot m
    { Channel.reset with
      state := .settle, owner := .feed, settleMs := 10
      powerEnds := if powerPart then some 1200 else none
      settleEnds := if powerPart then none else some 1200 }

/-- A channel with a coil waiting for its gap. -/
def gapping (m : Motor) : State :=
  running.withMot m { Channel.reset with state := .run, coils := 1#4, gaps := [{ coils := 2#4, endsAt := 1200 }] }

/-- A strobe of four phases in a state of the sequencer. -/
def strobing (q : SeqState) (phase : Nat) : State :=
  let r := strobeRecord Tables.defaults AnalogRec.empty AnalogRec.empty 2 0 1 [200, 200, 200, 200, 200, 200, 200, 0]
  { running with print := { running.print with seq := q, seqPhase := phase, seqEnds := some 1200, strobe := some r } }

/-- A part whose read waits in the controller, and whose timers run. -/
def attentive (p : PowerState) : State :=
  { running with
    power := { running.power with
      state := p
      standbyTimer := if p = .run then some 2000 else none
      sleepTimer := if p = .standby then some 2000 else none } }

/-- A sleep entry, before DRDY is dropped or after. -/
def falling (dropped : Bool) : State :=
  { running with
    link := { running.link with parser := Parser.ready }
    power := { running.power with
      state := .enteringSleep, origin := some .run, drdyDropped := dropped
      drdyBound := if dropped then none else some 1200 } }

/-- SR_ENTRY for a sleep. -/
def enteringSelfRefresh : State :=
  let s := falling true
  { s with
    dram := { s.dram with state := .srEntry, stateEnds := some 1004, cause := some .sleep, nextTick := none }
    power := { s.power with ordered := true } }

/-- The part asleep. -/
def asleep : State :=
  { running with
    dram := { running.dram with state := .selfRefresh, cause := some .sleep, nextTick := none }
    power := { running.power with state := .sleep, hstby := true, drdyDropped := true, wakeTimer := some 1200 } }

/-- The part waking for a source. -/
def waking (w : WakeSource) : State :=
  { asleep with
    dram := { asleep.dram with state := .srExit, stateEnds := some 1200, wakeExit := true }
    power := { asleep.power with state := .waking, wakeSource := some w, wakeTimer := none } }

/-- A boot that reads its stream. -/
def bootReading (header payload : List Byte) : State :=
  { running with power := { running.power with
      state := .boot, hrsto := true, twoWire := .reading, bootHeader := header, bootPayload := payload
      boot := { BootRec.start .por with source := some .oneByte, attempts := 1, bytes := 5, sum := 0x72 } } }

/-- A boot that sends a byte of an attempt. -/
def bootSending (n attempts : Nat) (src : BootSource) : State :=
  { running with power := { running.power with
      state := .boot, hrsto := true, twoWire := .sending n
      boot := { BootRec.start .por with source := some src, attempts := attempts } } }

/-- A boot whose outcome is known. -/
def bootKnown (o : BootOutcome) : State :=
  { running with
    store := PageStore.reset
    power := { running.power with
      state := .boot, hrsto := true, lastBoot := none
      boot := { BootRec.start .por with source := some .oneByte, outcome := some o } } }

/-- A scan of page 4 at a step of channel S, with the document's edge at a level. -/
def scanning (j : ScanJob) (c : Channel) (edge : Bool) : State :=
  let s := withPage 4 { scanPage with chain := [7], committed := 30 } running
  { s with
    mon := { s.mon with inputs := inputs (if edge then [0, 1] else [0]) }
    scan := { s.scan with lamp := true, job := j }
    motS := c }

/-- Channel S in an open move of a scan, and channel P in one of a copy, one step before a line boundary. -/
def motion (o : Owner) : Channel :=
  { Channel.reset with
    state := .run, owner := o, steps := 2, move := some .open_, position := 1, cruise := 7, index := 7, floor := 900
    interval := some { length := 1400, endsAt := 1200 } }

/-- The job of that scan. -/
def scanAt (st : ScanState) (edge : Bool) : ScanJob :=
  { scanJob st with edgeLevel := edge, edgeSamples := 1, stepCount := 40, stepsLeft := 9, nextLine := 31 }

/-- The entry of a copy that has fetched seven lines. -/
def copyEntry : PrintEntry := { entry with cursor := 7 }

/-- A copy of page 3 in motion. -/
def copying (c : CopyRec) (p : PageRec) : State :=
  let s := withPage 3 p running
  { s with print := { s.print with queue := [copyEntry], hpwr := true, copy := c }, motP := motion .print }

/-- That copy with a line shifted in and the next one fetched. -/
def copyAt : CopyRec :=
  { CopyRec.idle with
    state := .printing, leadRun := true, steps := 2, repeats := 2, printed := 11
    shift := { status := .complete, line := 5, printing := 1, counts := [200, 0, 0, 10, 0, 0, 0, 216], dots := [1#8], doneAt := none }
    fetch := { status := .full, line := 6, counts := [1], dots := [2#8] } }

/-- An input one sample before its change, the inputs listed active. -/
def changing (n : Nat) (on : List Nat) (s : State) : State :=
  { s with mon := { s.mon with
    inputs := (inputs on).setIfInBounds n { level := some (on.contains n), count := s.tables.p Param.debounce - 1, sample := none } } }


/-! ### One step of each kind, with values read off the spec -/

theorem test_power_on_reset : (after .powerOnReset running).power.state = .boot ∧ (after .powerOnReset running).now = 1000 := by
  decide +kernel
/-- R26: 200 µs and eight cycles of 0.20 µs are 201.60 µs. -/
theorem test_por_release : (after (.porRelease false false) State.reset).dram.stateEnds = some 4032 ∧
    (after (.porRelease false false) State.reset).power.boot.outcome = some .noSource := by decide +kernel
theorem test_wrst : (after (.wrst false true) running).power.state = .boot ∧
    (after (.wrst false true) running).power.twoWire = .sending 0 := by decide +kernel
theorem test_wrst_asleep : (after (.wrst false true) asleep).power.state = .waking := by decide +kernel
theorem test_init_end :
    (after .initEnd { State.reset with dram := { Dram.reset with stateEnds := some 4032 } }).dram.nextTick = some 4332 := by
  decide +kernel
theorem test_two_wire_nak : (after (.twoWireByteSent false) (bootSending 0 3 .oneByte)).power.boot.outcome = some .noDevice := by
  decide +kernel
theorem test_two_wire_ack : (after (.twoWireByteSent true) (bootSending 2 0 .oneByte)).power.twoWire = .reading := by decide +kernel
theorem test_boot_retry :
    (after .bootRetryWaitEnd { running with power := { running.power with twoWire := .waiting 201000 } }).power.twoWire =
      .sending 0 := by decide +kernel
/-- R203: the END record after five bytes of which the sum is 0x72. -/
theorem test_boot_end : (after (.bootStreamByte 0x72#8) (bootReading [0x5A#8, 0x3F#8, 0#8, 0#8, 2#8] [0#8])).power.boot.outcome =
    some .ok := by decide +kernel
theorem test_boot_format : (after (.bootStreamByte 0x5B#8) (bootReading [] [])).power.boot.outcome = some .format := by
  decide +kernel
theorem test_end_of_boot : (after .endOfBoot (bootKnown .ok)).power.state = .run ∧
    (after .endOfBoot (bootKnown .ok)).store.freeList.length = 128 := by decide +kernel
theorem test_host_byte_write : (after (.hostByteWrite 0x5A#8) running).link.down = [0x5A#8] := by decide +kernel
theorem test_host_byte_wakes : (after (.hostByteWrite 0x5A#8) asleep).power.wakeSource = some .host := by decide +kernel
theorem test_host_byte_read : (after .hostByteRead running).link.dataOut = 0#8 := by decide +kernel
theorem test_parser_hunts : (after .parserByteTaken (downstream [1#8] Parser.reset)).link.parser.state = .hunt := by decide +kernel
theorem test_parser_loses_frame : (after .parserByteTaken (downstream [1#8] Parser.ready)).link.events = [.framing] := by
  decide +kernel
theorem test_held_record :
    ((after .heldRecordHandedOn (downstream [] { Parser.ready with state := .held, header := [0x5A#8, 7#8, 1#8, 0#8, 0#8] })).link.replies.map
      (·.code)) = [.badRecord] := by decide +kernel
/-- 13.3, 13.4: the REPLY record of an accepted command without result data. -/
theorem test_upstream_reply :
    (after .upstreamRecordPlaced (after (.openPage 0x11#8 3#8 0#8 0#8 1728#16 1#8 1#8 0xBEEF#16) running)).link.up =
      [0x5A#8, 0x80#8, 0x11#8, 0#8, 2#8, 1#8, 0#8] := by decide +kernel
theorem test_open_page_width :
    (after (.openPage 0x11#8 3#8 0#8 0#8 1700#16 1#8 1#8 0xBEEF#16) running).link.replies.map (·.code) = [.badParameter] := by
  decide +kernel
theorem test_close_page : (after (.closePage 1#8 3#8) (withPage 3 linkPage running)).link.events =
    [.pageClosed 3 0 false 0xBEEF#16] := by decide +kernel
theorem test_release_page_free : (after (.releasePage 1#8 3#8) running).link.replies.map (·.code) = [.noPage] := by decide +kernel
theorem test_release_page_held : (after (.releasePage 1#8 3#8) (printing [])).link.replies.map (·.code) = [.pageHeld] := by
  decide +kernel
/-- 13.4: a FREE page is reported as 27 bytes of 0. -/
theorem test_query_page : (after (.queryPage 1#8 31#8) running).link.replies.map (·.data) = [List.replicate 27 0#8] := by
  decide +kernel
/-- R171, 13.4: one bank is a pool of 128 bands. -/
theorem test_query_pool : (after (.queryPool 1#8) running).link.replies.map (·.data) = [[0#8, 128#8, 0#8, 128#8, 0#8, 0#8]] := by
  decide +kernel
theorem test_scan : (after scanCommand (withDocument running)).scan.lamp = true ∧
    (after scanCommand (withDocument running)).motS.state = .settle := by decide +kernel
theorem test_scan_no_document : (after scanCommand running).link.replies.map (·.code) = [.noMedia] := by decide +kernel
theorem test_cancel_scan : (after (.cancelScan 1#8) feedingIn).motS.stop = .pending ∧
    (after (.cancelScan 1#8) feedingIn).scan.lamp = false := by decide +kernel
theorem test_shade_document : (after (.shade 1#8) (withDocument running)).link.replies.map (·.code) = [.wrongState] := by
  decide +kernel
theorem test_print_copies : (after (.print 1#8 3#8 100#8) (printing [])).link.replies.map (·.code) = [.badParameter] := by
  decide +kernel
theorem test_print_leads : (after (.print 1#8 3#8 1#8) (printing [])).print.copy.state = .lead := by decide +kernel
theorem test_cancel_print_all : (after (.cancelPrint 1#8 0xFF#8) (printing [entry])).link.replies.map (·.data) = [[1#8]] := by
  decide +kernel
theorem test_resume_print : (after (.resumePrint 1#8) (printing [entry])).print.copy.state = .lead := by decide +kernel
theorem test_resume_print_idle : (after (.resumePrint 1#8) running).link.replies.map (·.code) = [.wrongState] := by decide +kernel
theorem test_read_page_full :
    (after (.readPage 1#8 3#8 0#24 0#24) (readingOut [readEntry, readEntry, readEntry, readEntry])).link.replies.map (·.code) =
      [.queueFull] := by decide +kernel
/-- R147, R150: a READ PAGE of a KEEP page of 40 lines fetches from the line it names, and one that starts at the page's end
completes at once with nothing placed. -/
theorem test_read_page_requests :
    (after (.readPage 1#8 3#8 33#24 1#24) (withPage 3 keptPage (busy running))).dram.waiting.map
      (fun r => (r.bank, r.row, r.col)) = [(0, 72, 256)] ∧
    (after (.readPage 1#8 3#8 40#24 0#24) (withPage 3 keptPage running)).link.events = [.readDone 3 0 false] := by
  decide +kernel
theorem test_cancel_read_none : (after (.cancelRead 1#8 0xFF#8) running).link.replies.map (·.data) = [[0#8]] := by decide +kernel
theorem test_feed_zero : (after (.feed 1#8 0#8 0#16) running).link.replies.map (·.code) = [.badParameter] := by decide +kernel
/-- R188: pattern 0 of the half-step sequence is 0001. -/
theorem test_feed_energises : (after (.feed 1#8 1#8 600#16) running).motP.coils = 1#4 := by decide +kernel
/-- R184: SCAN_WIDTH 1000 is lowered to 960, one entry clamped. -/
theorem test_load_table : (after (.loadTable 1#8 0#8 1#16 [0x03#8, 0xE8#8]) running).link.replies.map (·.data) =
    [[0#8, 1#8, 0#8, 1#8]] := by decide +kernel
theorem test_load_table_busy : (after (.loadTable 1#8 0#8 0#16 [0#8, 2#8]) (withPage 3 linkPage running)).link.replies.map (·.code) =
    [.tableBusy] := by decide +kernel
/-- R188: DITHER begins 2, 130, 34. -/
theorem test_read_table : (after (.readTable 1#8 2#8 0#16 3#16) running).link.replies.map (·.data) =
    [[2#8, 0#8, 0#8, 0#8, 3#8, 2#8, 130#8, 34#8]] := by decide +kernel
theorem test_standby : (after (.standby 1#8) running).power.state = .standby := by decide +kernel
theorem test_sleep : (after (.sleep 1#8) running).power.drdyBound = some 41000 := by decide +kernel
theorem test_query_status : ((after (.queryStatus 1#8) running).link.replies.map fun r => r.data.take 11) =
    [[1#8, 0#8, 0#8, 0#8, 1#8, 0#8, 0#8, 0#8, 0#8, 128#8, 1#8]] := by decide +kernel
theorem test_restart : (after (.restart 9#8) (printing [entry])).link.events = [.printCancelled 3] := by decide +kernel
theorem test_query_memory :
    (after (.queryMemory 1#8) { running with dram := { running.dram with hits := 258 } }).link.replies.map (·.data) =
      [[1#8, 2#8, 0#8, 0#8, 0#8, 0#8, 0#8, 0#8]] := by decide +kernel
/-- R1: line 5 of band 7 lies in row 57 at column 256. -/
theorem test_line_requests : (after (.line 4#8 [1#8]) (busy (withPage 4 { linkPage with committed := 5, chain := [7] } running))).dram.waiting.map
    (fun r => (r.bank, r.row, r.col, r.count)) = [(0, 57, 256, 216)] := by decide +kernel
theorem test_block_kind : (after (.block 3#8 [1#8]) (withPage 3 linkPage running)).link.events = [.writeRefused 3 .kind] := by
  decide +kernel
theorem test_pool_wait_expiry :
    (after .poolWaitExpiry (withPage 4 linkPage { running with store := { running.store with poolWait := some { page := 4, deadline := 5 } } })).link.events =
      [.pageClosed 4 0 true 0xBEEF#16, .poolWaitTimeout 4 0xBEEF#16] := by decide +kernel
theorem test_refresh_tick : (after .refreshTick running).dram.current = some (.refresh 1304) := by decide +kernel
theorem test_refresh_overrun : (after .refreshTick { running.refreshing with dram := { running.refreshing.dram with debt := 4 } }).link.events =
    [.refreshOverrun] := by decide +kernel
theorem test_refresh_end : (after .refreshEnd running.refreshing).dram.current = none ∧ (after .refreshEnd running.refreshing).now = 1200 := by
  decide +kernel
theorem test_scan_line_write_end : ((after .scanLineWriteEnd scanWriting).page 4).committed = 33 ∧
    (after .scanLineWriteEnd scanWriting).mem.read scanLine.address = 0xA5#8 := by decide +kernel
theorem test_link_write_end : ((after .linkWriteEnd linkWriting).page 4).committed = 6 ∧
    (after .linkWriteEnd linkWriting).link.writer = none := by decide +kernel
theorem test_print_fetch_end : (after .printFetchEnd fetching).print.copy.fetch.status = .full := by decide +kernel
theorem test_link_read_end : (after .linkReadEnd reading).link.readBuf.status = .waiting := by decide +kernel
theorem test_auto_sr_timer_expiry : (after .autoSrTimerExpiry { running with dram := { running.dram with autoTimer := some 1200 } }).dram.stateEnds =
    some 1204 := by decide +kernel
theorem test_sr_entry_end : (after .srEntryEnd enteringSelfRefresh).power.state = .sleep := by decide +kernel
theorem test_sr_exit_end : (after .srExitEnd (waking .key)).power.state = .standby ∧
    (after .srExitEnd (waking .key)).link.events = [.woke .key] := by decide +kernel
theorem test_scan_starting_end :
    (after .scanStartingEnd { running with scan := { running.scan with job := { scanJob .starting with startEnds := some 1200 } } }).scan.lamp =
      true := by decide +kernel
theorem test_readout_end : (after (.readoutEnd []) readingOutLine).dram.waiting.map (fun r => (r.row, r.col)) = [(63, 512)] := by
  decide +kernel
theorem test_calibration_settle_end :
    (after .calibrationSettleEnd { running with scan := { running.scan with
      calibration := some { settleEnds := some 1200, readoutEnds := none, readouts := 0, sums := [] } } }).scan.lamp = true := by
  decide +kernel
/-- R65: an average of 175 gives floor((240 × 64 + 87) / 175) = 88. -/
theorem test_shade_gain : shadeGain 240 1400 = 88 ∧ shadeGain 240 7 = 255 := by decide
theorem test_calibration_readout_end : ((after (.calibrationReadoutEnd []) (calibrating 0)).scan.calibration.map (·.readouts)) = some 1 := by
  decide +kernel
theorem test_print_starting_end :
    (after .printStartingEnd { printing [entry] with print := { (printing [entry]).print with
      copy := { CopyRec.idle with state := .starting, startEnds := some 1200 } } }).print.copy.state = .lead := by decide +kernel
theorem test_shift_complete :
    (after .shiftComplete { running with print := { running.print with
      copy := { CopyRec.idle with shift := { ShiftBuf.none with status := .shifting, doneAt := some 1200 } } } }).print.copy.shift.status =
      .complete := by decide +kernel
/-- R187: RECOVERY is 40 µs by default. -/
theorem test_strobe_pulse_end : (after .strobePulseEnd (strobing .pulse 0)).print.seqEnds = some 2000 := by decide +kernel
theorem test_strobe_recovery_end : (after .strobeRecoveryEnd (strobing .recover 0)).print.seqPhase = 1 := by decide +kernel
theorem test_cut_time_end :
    (after .cutTimeEnd { printing [entry] with print := { (printing [entry]).print with
      copy := { CopyRec.idle with state := .cut, cutEnds := some 1200 } } }).link.events = [.copyDone 3 2, .printDone 3] := by
  decide +kernel
/-- R118, R119: the last step ends in HOLD, for 500 ms by default. -/
theorem test_step_event_rests : (after (.stepEvent .p true) (feeding .p 1 0)).motP.state = .hold ∧
    (after (.stepEvent .p true) (feeding .p 1 0)).motP.holdTimer = some 10001200 := by decide +kernel
/-- R112, R188: from index 1 to 2 the interval is 2400 µs. -/
theorem test_step_event_accelerates : (after (.stepEvent .s true) (feeding .s 60 1)).motS.interval =
    some { length := 2400, endsAt := 49200 } := by decide +kernel
theorem test_settle_end : (after (.settleEnd .p) (settling .p false)).motP.interval = some { length := 4000, endsAt := 81200 } := by
  decide +kernel
theorem test_feed_power_settle_end : (after (.feedPowerSettleEnd .s) (settling .s true)).motS.settleEnds = some 201200 := by
  decide +kernel
theorem test_nonoverlap_gap_end : (after (.nonoverlapGapEnd .s) (gapping .s)).motS.coils = 3#4 := by decide +kernel
theorem test_hold_timeout : (after (.holdTimeout .s) (holding .s)).motS.state = .off := by decide +kernel
/-- R126: 10 µs for a transaction and 100 units of 10 ms to the next round. -/
theorem test_round_start : (after .roundStart running).mon.transaction = some { channel := 0, endsAt := 201100, masked := false } := by decide +kernel
theorem test_converter_transaction_end :
    (after (.converterTransactionEnd 201#8) (after .roundStart running)).mon.transaction = some { channel := 1, endsAt := 201300, masked := false } := by
  decide +kernel
theorem test_input_sample : ((after (.inputSample 0#6) running).mon.input 5).count = 1 := by decide +kernel
theorem test_standby_timer_expiry : (after .standbyTimerExpiry (attentive .run)).power.state = .standby := by decide +kernel
theorem test_sleep_timer_expiry : (after .sleepTimerExpiry (attentive .standby)).power.state = .enteringSleep := by decide +kernel
theorem test_sleep_deadline_expiry :
    (after .sleepDeadlineExpiry { running with power := { running.power with sleepPending := some 1200 } }).link.events =
      [.sleepAbandoned] := by decide +kernel
theorem test_downstream_ready_drop : (after .downstreamReadyDrop (falling false)).power.drdyDropped = true := by decide +kernel
theorem test_drdy_drop_bound_expiry : (after .drdyDropBoundExpiry (falling false)).power.drdyBound = none := by decide +kernel
theorem test_sleep_order : (after .sleepOrder (falling true)).dram.state = .srEntry := by decide +kernel
theorem test_wake_timer_expiry : (after .wakeTimerExpiry asleep).power.wakeSource = some .timer ∧
    (after .wakeTimerExpiry asleep).dram.stateEnds = some 5200 := by decide +kernel

/-! ### States that meet the hypotheses of the statements, clause by clause -/

theorem test_meets_StepTakesFrontCommand : State.reset.pending = [] := rfl

/-- A linked line's transfer ends: memory is in canonical form before and the step stores bytes. -/
theorem test_meets_MemoryStaysCanonical :
    let s : State := { linkWriting with mem := [(3, 7#8)], pending := [.linkWriteEnd] }
    s.mem.wf = true ∧ ∃ t, step s = .next t ∧ t.mem ≠ s.mem :=
  ⟨by decide +kernel, _, rfl, by decide +kernel⟩

/-- A page that holds band 0 is released. -/
theorem test_meets_BandsStayAccounted :
    let s : State := withPage 3 { linkPage with state := .closed, writer := none, chain := [0] }
      { running with store := { running.store with freeList := running.store.freeList.drop 1 }, pending := [.releasePage 1#8 3#8] }
    s.store.ok ∧ ∃ t, step s = .next t ∧ t.store.freeList ≠ s.store.freeList := by
  have perm : ∀ s : State, s.store.freeList ++ s.store.held = (poolOf 128).drop 1 ++ [0] → (poolOf 128).take 1 = [0] →
      s.store.poolSize = 128 → (∀ r ∈ s.store.pages.toList, r.state = .free → r.chain = []) → s.store.ok := by
    intro s h1 h2 h3 h4
    refine ⟨?_, h4⟩
    rw [h1, h3, ← h2]
    exact List.perm_append_comm.trans (List.Perm.of_eq (List.take_append_drop 1 _))
  exact ⟨perm _ (by decide +kernel) (by decide +kernel) (by decide +kernel) (by decide +kernel), _, rfl, by decide +kernel⟩

/-- The default tables are in range, and a LOAD TABLE that has to be clamped is carried out. -/
theorem test_meets_TablesStayInRange :
    let s : State := { running with pending := [.loadTable 1#8 0#8 1#16 [0xFF#8, 0xFF#8]] }
    s.tables.ok ∧ ∃ t, step s = .next t ∧ t.tables.p Param.scanWidth = 2048 :=
  ⟨Tables.defaults_ok, _, rfl, by decide +kernel⟩

theorem test_meets_QueuesAndCountsStayBounded :
    let s : State := { running with pending := [.hostByteWrite 1#8] }
    (∃ t, step s = .next t ∧ t.link.down = [1#8]) ∧ s.link.ok ∧ s.print.ok ∧ s.dram.ok ∧ s.motS.ok ∧ s.motP.ok :=
  ⟨⟨_, rfl, by decide +kernel⟩, by decide +kernel⟩

theorem test_meets_PowerRecordStaysConsistent :
    let s : State := { asleep with pending := [.wakeTimerExpiry] }
    s.power.ok ∧ ∃ t, step s = .next t ∧ t.power.state = .waking :=
  ⟨by decide +kernel, _, rfl, by decide +kernel⟩

theorem test_meets_RecordsRoundTrip :
    (Instr.loadTable 1#8 0#8 51#16 [0x3F#8, 0x3F#8]).wellFormed = true ∧
      encodeRecord (.loadTable 1#8 0#8 51#16 [0x3F#8, 0x3F#8]) =
        some [0x5A#8, 0x18#8, 1#8, 0#8, 5#8, 0#8, 0#8, 51#8, 0x3F#8, 0x3F#8] := by decide

theorem test_meets_ParserDeliversWholeRecord :
    let s := downstream [0x5A#8, 0x14#8, 1#8, 0#8, 3#8, 1#8, 2#8, 0x58#8, 0x5A#8] Parser.ready
    (Instr.feed 1#8 1#8 600#16).wellFormed = true ∧
      encodeRecord (.feed 1#8 1#8 600#16) = some [0x5A#8, 0x14#8, 1#8, 0#8, 3#8, 1#8, 2#8, 0x58#8] ∧
      s.link.down = [0x5A#8, 0x14#8, 1#8, 0#8, 3#8, 1#8, 2#8, 0x58#8] ++ [0x5A#8] ∧
      s.link.parser = Parser.ready ∧ s.takes (.feed 1#8 1#8 600#16) = true := by decide +kernel

theorem test_meets_PowerOnResetAndRelease : State.reset.power.por = true := rfl

theorem test_meets_WarmReset :
    running.power.por = false ∧ running.power.state = .run ∧ (bootKnown .ok).power.por = false ∧ (bootKnown .ok).power.state = .boot ∧
      asleep.power.por = false ∧ asleep.power.state = .sleep ∧ (attentive .standby).power.por = false ∧
      (attentive .standby).power.state = .standby ∧ ((withPage 31 linkPage running).page 31).state = .opened ∧
      ((withPage 31 linkPage running).page 0).state ≠ .opened := by decide +kernel

theorem test_meets_RestartResets :
    let s := printing [entry]
    s.takesCommand = true ∧ s.power.state = .run ∧ s.link.ok ∧ s.print.ok ∧ (s.page 3).state ≠ .opened ∧
      ((withPage 3 linkPage running).page 3).state = .opened ∧ (withPage 3 linkPage running).takesCommand = true := by
  decide +kernel

theorem test_meets_TwoWireAttempts :
    (bootSending 2 0 .oneByte).power.twoWire = .sending 2 ∧ (bootSending 2 0 .oneByte).power.boot.source = some .oneByte ∧
      (bootSending 3 3 .twoByte).power.twoWire = .sending 3 ∧ (bootSending 3 3 .twoByte).power.boot.source = some .twoByte ∧
      ({ running with power := { running.power with twoWire := .waiting 1200 } } : State).power.twoWire = .waiting 1200 := by
  decide +kernel

/-- The clauses in order: a record that begins wrong or right, the END's last byte, and the last byte of a LOAD TABLE that is
applied or, with an index beyond the table, passed over. -/
theorem test_meets_BootStreamBytes :
    let s1 := bootReading [] []
    let s2 := bootReading [0x5A#8, 0x3F#8, 0#8, 0#8, 2#8] [0#8]
    let s3 := bootReading [0x5A#8, 0x18#8, 1#8, 0#8, 5#8] ([0#8, 0#8, 51#8] ++ [0x3F#8])
    let s4 := bootReading [0x5A#8, 0x18#8, 1#8, 0#8, 5#8] ([0#8, 0#8, 52#8] ++ [0x3F#8])
    (s1.power.twoWire = .reading ∧ s1.power.boot.outcome = none ∧ s1.power.boot.bytes + 1 < 8192 ∧ s1.power.bootHeader = [] ∧
      0x5B#8 ≠ 0x5A#8) ∧
    (s2.power.twoWire = .reading ∧ s2.power.bootHeader = [0x5A#8, 0x3F#8, 0#8, 0#8, 2#8] ∧ s2.power.bootPayload = [0#8]) ∧
    (s3.power.bootPayload = [0#8, 0#8, 51#8] ++ [0x3F#8] ∧ (half 0#8 5#8).toNat = [0x3F#8].length + 4 ∧
      s3.loadOutcome 0 51 ([0x3F#8] ++ [0x3F#8]) = .accepted 1 0) ∧
    s4.power.bootPayload = [0#8, 0#8, 52#8] ++ [0x3F#8] ∧ s4.loadOutcome 0 52 ([0x3F#8] ++ [0x3F#8]) = .badParameter := by
  decide +kernel

theorem test_meets_EndOfBoot :
    ∀ o ∈ [BootOutcome.ok, .noSource, .noDevice, .sum, .format],
      let s := bootKnown o
      s.power.state = .boot ∧ s.power.por = false ∧ s.power.boot.outcome = some o ∧ s.mon.settled = true ∧ s.dram.state ≠ .init ∧
        s.power.sleepPending = none ∧ s.mon.transaction = none ∧ (∀ n < 8, (s.mon.channel n).band = none) ∧ s.link.room 1 ∧
        s.store.poolSize = 0 := by decide +kernel

theorem test_meets_ControllerStates :
    let init : Dram := { Dram.reset with stateEnds := some 1200 }
    let timed : Dram := { running.dram with autoTimer := some 1200 }
    let refresh : Dram := { timed with current := some (.refresh 1202) }
    let entry : Dram := { Dram.reset with state := .srEntry, stateEnds := some 1200, cause := some .auto }
    let exit : Dram := { entry with state := .srExit }
    (∀ d ∈ [init, timed, refresh, entry, exit], d.sleepOrder = false ∧ d.heldBanks = none ∧ d.waiting = [] ∧ d.autoDue = false) ∧
      (init.state = .init ∧ init.stateEnds = some 1200 ∧ init.current = none) ∧
      (timed.state = .active ∧ timed.autoTimer = some 1200 ∧ timed.current = none) ∧
      (refresh.state = .active ∧ refresh.autoTimer = some 1200 ∧ refresh.current = some (.refresh 1202)) ∧
      (entry.state = .srEntry ∧ entry.stateEnds = some 1200 ∧ entry.cause = some .auto) ∧
      exit.state = .srExit ∧ exit.stateEnds = some 1200 ∧ exit.wakeExit = false ∧ exit.current = none ∧
      running.power.state ≠ .standby := by decide +kernel

theorem test_meets_RefreshTicks :
    let d := running.refreshing.dram
    (d.state = .active ∧ d.nextTick = some 1300 ∧ d.current = some (.refresh 1200) ∧ d.debt < 4 ∧ d.waiting = [] ∧ d.debt = 0 ∧
      d.sleepOrder = false ∧ d.autoDue = false ∧ d.heldBanks = none) ∧
    ({ d with debt := 4 } : Dram).debt = 4 ∧ running.link.room 1 ∧ running.dram.current = none ∧ running.dram.waiting = [] ∧
      running.dram.state = .active ∧ running.dram.nextTick = some 1300 := by decide +kernel

/-- A full debt, a debt with two classes waiting, and no work. -/
theorem test_meets_ArbiterOrder :
    let full : Dram := { running.dram with debt := 4, waiting := [scanLine] }
    let some_ : Dram := { running.dram with debt := 3, waiting := [linkLine, scanLine] }
    (∀ d ∈ [full, some_, running.dram], d.state = .active ∧ d.current = none ∧ d.heldBanks = none ∧ d.sleepOrder = false ∧
      d.autoDue = false ∧ d.debt ≤ 4) ∧
    (full.arbitrate 5).current = some (.refresh 9) ∧ ((some_.arbitrate 5).current.isSome) ∧
    (running.dram.arbitrate 5).current = none := by decide +kernel

/-- The four cases of a row access: a held row, another row of a held bank, a free entry, and a full table. -/
theorem test_meets_RowAccess :
    let two : Dram := { running.dram with rowHold := [(0, 5), (1, 1023)] }
    let full : Dram := { running.dram with rowHold := [(0, 5), (1, 1023), (3, 0)] }
    two.ok ∧ full.ok ∧ (1, 1023) ∈ two.rowHold ∧ (1, 0) ∉ two.rowHold ∧ 2 ∉ two.rowHold.map (·.1) ∧
      (full.rowHold.length = 3 ∧ 2 ∉ full.rowHold.map (·.1)) ∧ 0 < 1 ∧
      linkLine.bank = 0 ∧ linkLine.row = 57 := by decide +kernel

theorem test_meets_PageMemoryLayout : 8191 < 8192 ∧ 31 < 32 ∧ 255 < 256 ∧ (0 : Band) ≠ 511 := by decide

theorem test_meets_StoredBytesReadBack : Memory.wf [(3, 7#8), (9, 1#8)] = true ∧ (2 < 3 ∨ 3 + [0#8, 5#8].length ≤ 2) := by decide

theorem test_meets_WritesCommit :
    let r := scanLine
    let s := scanWriting
    (s.dram.current = some (.transfer r 1200) ∧ r.live = true ∧ r.page < 32 ∧ (s.page r.page).state = .opened ∧
      (s.page r.page).mode = some .keep ∧ s.print.queue = [] ∧ s.link.reads = [] ∧ s.power.sleepPending = none ∧
      r.cls = .scanWrite ∧ r.slot = some .b ∧
      s.scan.writes = [{ index := 32, slot := .b, banded := true, requested := true }] ∧ r.index = 32 ∧
      (s.page r.page).writer = some .scan ∧ s.scan.job.state = .capture ∧ s.scan.job.page = some r.page ∧
      (s.page r.page).committed + 1 ≠ s.tables.p Param.maxDocLines) ∧
    linkWriting.dram.current = some (.transfer linkLine 1200) ∧ linkLine.live = true ∧ linkLine.page < 32 ∧
      (linkWriting.page 4).state = .opened ∧ (linkWriting.page 4).mode = some .keep ∧ linkWriting.print.queue = [] ∧
      linkWriting.link.reads = [] ∧ linkWriting.power.sleepPending = none ∧ linkLine.cls = .linkWrite ∧
      linkWriting.link.writer = some { isLine := true, page := 4, next := 5, data := linkLine.data } ∧
      (linkWriting.page linkLine.page).writer = some .link := by decide +kernel

theorem test_meets_ReadsDeliver :
    (fetching.dram.current = some (.transfer (lineRequest .printFetch 4 5 1728 7 [] none) 1200) ∧
      (lineRequest .printFetch 4 5 1728 7 [] none).live = true ∧ fetching.print.copy.shift.status ≠ .empty) ∧
    reading.dram.current = some (.transfer (lineRequest .linkRead 4 5 1728 7 [] none) 1200) ∧
      reading.link.readBuf.isLine = true := by decide +kernel

/-- DRDY stands with 1023 bytes in the FIFO and not with 1024. -/
theorem test_meets_HostBytes :
    (downstream (List.replicate 1023 0#8) Parser.ready).drdy = true ∧
      (downstream (List.replicate 1024 0#8) Parser.ready).drdy = false ∧
      (downstream (List.replicate 1024 0#8) Parser.ready).power.state = .run ∧ asleep.power.state = .sleep ∧
      ((falling true).power.state = .enteringSleep ∧ (falling true).power.drdyDropped = true ∧ (falling true).power.heldWake = none) ∧
      ({ running with link := { running.link with up := [7#8] } } : State).uready = true ∧ running.uready = false := by
  decide +kernel

/-- The clauses in order; LENGTH 2049 is the least that is too long. -/
theorem test_meets_ParserBytes :
    let s1 := downstream [0x5B#8] Parser.reset
    let s2 := downstream [0x5A#8] Parser.reset
    let s3 := downstream [0x5B#8] Parser.ready
    let s4 := downstream [0x01#8] { Parser.ready with header := [0x5A#8, 0x40#8, 1#8, 8#8] }
    let s5 := downstream [0x01#8] { Parser.ready with state := .held }
    (∀ s ∈ [s1, s2, s3, s4, s5], s.power.downstreamWorks = true ∧ s.power.sleepPending = none ∧ s.link.room 1) ∧
      (s1.link.parser.state = .hunt ∧ s1.link.down = [0x5B#8]) ∧ (s2.link.parser.state = .hunt ∧ s2.link.down = [0x5A#8]) ∧
      s3.link.parser = Parser.ready ∧
      (s4.link.parser.state = .header ∧ s4.link.parser.header = [0x5A#8, 0x40#8, 1#8, 8#8] ∧
        2048 < 256 * (8#8).toNat + (1#8).toNat) ∧
      s5.link.parser.state = .held := by decide +kernel

theorem test_meets_HeldRecordHandedOn :
    let s1 := downstream [] { Parser.ready with state := .held, header := [0x5A#8, 0x1C#8, 1#8, 0#8, 0#8] }
    let s2 := downstream [] { Parser.ready with state := .held, header := [0x5A#8, 0x07#8, 1#8, 0#8, 0#8] }
    let s3 : State := { s1 with link := { s1.link with writer := some { isLine := true, page := 4, next := 5, data := [] } } }
    (∀ s ∈ [s1, s2, s3], s.power.downstreamWorks = true ∧ s.link.parser.state = .held) ∧
      (s1.link.parser.handed = .command (.standby 1#8) ∧ s1.takes (.standby 1#8) = true) ∧
      (s2.link.parser.handed = .badRecord 1#8 7#8 ∧ s2.takesCommand = true ∧ s2.power.sleepPending = none) ∧
      s3.mayHand s3.link.parser.handed = false := by decide +kernel

/-- The clauses in order; the event's record just fits. -/
theorem test_meets_UpstreamRecordPlaced :
    let r : Reply := { tag := 1#8, kind := 5#8, code := .accepted, data := [1#8] }
    let l := running.link
    let s1 : State := { running with link := { l with replies := [r], chosen := some .reply } }
    let s2 : State := { running with link := { l with events := [.framing], chosen := some .event, up := List.replicate 2041 0#8 } }
    let s3 : State := { running with link := { l with overflow := some 255, chosen := some .event } }
    let s4 : State := withPage 3 keptPage { running with link := { l with
      chosen := some .data
      reads := [{ page := 3, start := 0, count := 2, cursor := 2, placed := 1 }]
      readBuf := { status := .waiting, isLine := true, page := 3, first := 1, stop := 2, data := [1#8] } } }
    (∀ s ∈ [s1, s2, s3, s4], s.power.upstreamWorks = true ∧ s.power.sleepPending = none) ∧
      s1.link.up.length + (7 + r.data.length) ≤ 2048 ∧ s2.link.up.length + (5 + Event.framing.payload.length) ≤ 2048 ∧
      s3.link.up.length + 8 ≤ 2048 ∧
      (s4.page 3).mode = some .keep ∧ (s4.page 3).retain = some true ∧
      2 = 1 + (s4.link.readBuf.stop - s4.link.readBuf.first) ∧ s4.link.up.length + s4.link.readBuf.record.length ≤ 2048 ∧
      s4.link.room 1 := by decide +kernel

/-- The clauses in order; 16382 is the greatest line that can follow. -/
theorem test_meets_LineTaken :
    let s2 := busy (withPage 31 { linkPage with base := 16352, committed := 16382, chain := [7] } running)
    let s3 := busy (withPage 31 { linkPage with committed := 32, chain := [7] } running)
    let s4 : State := { s3 with store := { s3.store with freeList := [] } }
    (∀ s ∈ [running, s2, s3, s4], s.takesData = true ∧ s.power.state = .run) ∧ (running.page 31).state ≠ .opened ∧
      running.link.room 1 ∧
      (∀ s ∈ [s2, s3, s4], (s.page 31).state = .opened ∧ (s.page 31).writer = some .link ∧ (s.page 31).kind = some .image ∧
        (s.page 31).width = some 1728 ∧ (s.page 31).committed < 16383 ∧ s.dram.state = .active ∧ s.dram.current.isSome ∧
        s.dram.lingering .linkWrite = false) ∧
      ((s2.page 31).committed % 32 ≠ 0 ∧ (s2.page 31).bandOfLine 16382 = some 7) ∧
      ((s3.page 31).committed % 32 = 0 ∧ s3.store.freeList = 0 :: s3.store.freeList.tail ∧
        s3.reserve ≤ s3.store.freeList.tail.length ∧ (s3.page 31).base ≤ (s3.page 31).committed ∧
        (s3.page 31).chain.length = (s3.page 31).committed / 32 - (s3.page 31).base / 32) ∧
      (s4.page 31).committed % 32 = 0 ∧ s4.store.freeList.length ≤ s4.reserve := by decide +kernel

theorem test_meets_BlockTaken :
    let blockPage := PageRec.opened .block .keep .link 0 .std true 0#16
    let s2 := withPage 31 { blockPage with committed := 4194303 } running
    let s3 := busy (withPage 31 { blockPage with committed := 255, chain := [7] } running)
    let s1 := withPage 31 linkPage running
    (∀ s ∈ [s1, s2, s3], s.takesData = true ∧ s.power.state = .run ∧ (s.page 31).state = .opened ∧ (s.page 31).writer = some .link) ∧
      ((s1.page 31).kind = some .image ∧ s1.link.room 1) ∧ ((s2.page 31).kind = some .block ∧ (s2.page 31).committed < 4194304) ∧
      (s3.page 31).kind = some .block ∧ (s3.page 31).committed + [1#8, 2#8].length ≤ 4194304 ∧ (s3.page 31).committed % 8192 ≠ 0 ∧
      (s3.page 31).bandOfByte 255 = some 7 ∧ s3.dram.state = .active ∧ s3.dram.current.isSome ∧
      s3.dram.lingering .linkWrite = false := by decide +kernel

theorem test_meets_PoolWaitExpires :
    let w : PoolWait := { page := 31, deadline := 1200 }
    let s := withPage 31 linkPage { running with store := { running.store with poolWait := some w } }
    s.store.poolWait = some w ∧ w.page < 32 ∧ (s.page 31).mode = some .keep ∧ (s.page 31).retain = some true ∧
      (s.page 31).filling = false ∧ s.store.scanWaits = false ∧ s.store.memoryLow = false ∧ s.print.queue = [] ∧
      s.link.reads = [] ∧ s.power.sleepPending = none ∧ s.link.room 2 := by decide +kernel

theorem test_meets_OneReplyPerCommand :
    commandRecord (.shade 1#8) = some (0x0A#8, 1#8, []) ∧ recordClass 0x0A#8 = .command ∧ running.takes (.shade 1#8) = true ∧
      commandRecord (.queryPool 1#8) = some (0x05#8, 1#8, []) ∧ recordClass 0x05#8 = .command ∧
      linkWriting.takes (.queryPool 1#8) = true := by decide +kernel

theorem test_meets_OpenPage :
    running.takesCommand = true ∧ (31#8).toNat < 32 ∧ (running.page 31).state = .free ∧ 512 ≤ (2048#16).toNat ∧
      (2048#16).toNat ≤ 2048 ∧ (2048#16).toNat % 64 = 0 ∧ resolutionOf 2#8 = some .sfine ∧
      ((withPage 31 linkPage running).page 31).state ≠ .free ∧ (withPage 31 linkPage running).takesCommand = true ∧
      (2049#16).toNat % 64 ≠ 0 := by decide +kernel

theorem test_meets_CloseAndReleasePage :
    let s1 := withPage 31 { linkPage with filling := true, chain := [5] } running
    let s2 := withPage 31 { linkPage with state := .closed, writer := none, chain := [5] } running
    let s3 := withPage 31 keptPage running
    (∀ s ∈ [s1, s2, s3], s.takesCommand = true ∧ s.power.sleepPending = none ∧ s.unattended ∧ s.link.room 1) ∧
      ((s1.page 31).state = .opened ∧ (s1.page 31).writer = some .link ∧ (s1.page 31).mode = some .keep ∧
        (s1.page 31).retain = some true) ∧
      ((s2.page 31).state = .closed ∧ (s2.page 31).printHold = 0 ∧ (s2.page 31).linkHold = 0) ∧
      (s3.page 31).state = .closed ∧ 0 < (s3.page 31).printHold := by decide +kernel

theorem test_meets_QueriesReport :
    running.takesCommand = true ∧ (31#8).toNat < 32 ∧ 32 ≤ (32#8).toNat ∧ linkWriting.takesQuery = true := by decide +kernel

theorem test_meets_QueryMemory :
    running.takesCommand = true ∧ (after (.queryMemory 1#8) running).takesCommand = true ∧ running.dram.ok := by decide +kernel

/-- The last entry of PARAM loaded, an entry loaded while its user is busy, an entry beyond the table, and the greatest READ TABLE. -/
theorem test_meets_LoadAndReadTable :
    running.takesCommand = true ∧ tableEntries 0 = some 52 ∧ loadValues 0 [0#8, 5#8] = [5] ∧ 51 + 1 ≤ 52 ∧
      running.loadable 0 51 1 = true ∧ (running.tables.load 0 51 [5]).p Param.banks = running.tables.p Param.banks ∧
      (feedingIn.takesCommand = true ∧ feedingIn.loadable 0 1 1 = false) ∧ 52 < 52 + 1 ∧ tableEntries 1 = some 2048 ∧
      tableWidth 1 = some 1 ∧ (1032#16).toNat + (1016#16).toNat ≤ 2048 ∧ 1 * (1016#16).toNat ≤ 1016 := by decide +kernel

theorem test_meets_LoadWritesClampedEntries : tableEntries 1 = some 2048 ∧ 2047 + [9].length ≤ 2048 := by decide

theorem test_meets_ScanStarts :
    let s2 : State := { withDocument (attentive .standby) with
      mon := { (withDocument running).mon with transaction := some { channel := 1, endsAt := 1200, masked := false } } }
    let s3 : State := { running with scan := { running.scan with job := { scanJob .starting with startEnds := some 1200 } } }
    scanFields (running.tables.p Param.maxDocLines) 4#8 1#8 0#8 1#8 0x1234#16 0#8 9#8 0#16 = some fields ∧
      (∀ s ∈ [withDocument running, s2, s3, running], s.power.sleepPending = none ∧ s.motS.atRest = true ∧
        s.tables.p Param.maxDocLines = running.tables.p Param.maxDocLines) ∧
      (∀ s ∈ [withDocument running, s2], s.takesCommand = true ∧ s.scan.isIdle = true ∧ fields.page < 32 ∧
        (s.page fields.page).state = .free ∧ s.active Input.docIn = true ∧ s.active Input.coverOpen = false) ∧
      (withDocument running).power.state = .run ∧ s2.power.state = .standby ∧ s2.mon.transaction.isSome = true ∧
      s2.dram.state = .active ∧ s2.link.room 1 ∧
      s3.scan.job =
        { ScanJob.idle with
          page := some fields.page
          source := some .sensor
          resolution := some fields.res
          steps := fields.res.scanSteps
          floor := s3.tables.scanFloor fields.res.scanSteps
          state := .starting
          startEnds := some 1200 } ∧
      running.takesCommand = true ∧ running.active Input.docIn = false := by decide +kernel

theorem test_meets_CancelScan :
    let s := feedingIn
    (s.takesCommand = true ∧ s.power.sleepPending = none ∧ s.scan.job.state = .feedIn ∧ s.scan.job.page = some 4 ∧
      s.scan.job.pageClosed = false ∧ s.scan.writes = [] ∧ s.scan.readouts = [] ∧ s.scan.slotA.use = .free ∧
      s.scan.slotB.use = .free ∧ s.dram.ending .scanWrite = none ∧ (∀ r ∈ s.dram.waiting, r.cls ≠ .scanWrite) ∧
      s.motS.state = .run ∧ s.motS.owner = .scan ∧ s.motS.held = none ∧ s.motS.stop = .nostop ∧ s.unattended ∧ s.link.room 2 ∧
      (s.page 4).mode = some .keep ∧ (s.page 4).retain = some true ∧ (s.page 4).filling = false) ∧
    running.takesCommand = true ∧ running.scan.job.state = .idle := by decide +kernel

theorem test_meets_CalibrationRuns :
    (running.takesCommand = true ∧ running.power.state = .run ∧ running.power.sleepPending = none ∧ running.scan.isIdle = true ∧
      running.active Input.docIn = false ∧ running.active Input.coverOpen = false) ∧
    ((calibrating 6).scan.calibration.map fun c => (c.readoutEnds, c.readouts)) = some (some 1200, 6) ∧
    ((calibrating 7).scan.calibration.map fun c => (c.readoutEnds, c.readouts)) = some (some 1200, 7) ∧
    (calibrating 7).link.room 1 ∧ (calibrating 7).power.sleepPending = none ∧
    (({ settleEnds := some 1200, readoutEnds := none, readouts := 0, sums := [] } : Calibration).settleEnds = some 1200) := by
  decide +kernel

theorem test_meets_LinesAreCaptured :
    (∀ s ∈ [capturing, readingOutLine], s.scan.job.state = .capture ∧ s.scan.job.source = some .sensor ∧
      s.power.sleepPending = none) ∧
    (let s := capturing
     s.motS.state = .run ∧ s.motS.owner = .scan ∧ s.motS.move = some .open_ ∧ s.motS.stop = .nostop ∧ s.motS.remaining = none ∧
      s.motS.interval = some { length := 1400, endsAt := 1200 } ∧ s.scan.job.edgeLevel = !false ∧
      (s.mon.input Input.docEdge).level = some (!false) ∧ s.scan.slotA.use = .free ∧
      s.scan.job.nextLine < s.tables.p Param.maxDocLines ∧ (s.motS.position + 1) % s.motS.steps = 0) ∧
    (let s := readingOutLine
     s.scan.readouts = [{ slot := some .a, index := 30, live := true, endsAt := 1100 }] ∧ s.scan.writes = [] ∧
      s.scan.job.page = some 4 ∧ (s.page 4).width = some 1728 ∧ 30 % 32 ≠ 0 ∧ (s.page 4).bandOfLine 30 = some 7 ∧
      s.store.scanWaits = false ∧ s.dram.state = .active ∧ s.dram.current.isSome) := by decide +kernel

theorem test_meets_LineDots :
    2047 < 2048 ∧ Tables.defaults.ok ∧ Tables.defaults.p Param.ditherMode = 0 ∧ Tables.defaults.p Param.fixedThreshold = 128 ∧
      1727 / 8 < Tables.defaults.p Param.scanWidth / 8 :=
  ⟨by decide, Tables.defaults_ok, by decide +kernel⟩

theorem test_meets_PrintQueue :
    let s1 := printing [entry]
    let s2 : State := { printing [] with mon := { running.mon with inputs := inputs [3] } }
    let s3 := printing [{ entry with page := 5 }, entry]
    (∀ s ∈ [s1, s2, s3], s.takesCommand = true ∧ s.power.state = .run ∧ s.power.sleepPending = none ∧
      (s.page 3).kind = some .image ∧ (s.page 3).mode = some .keep ∧ (s.page 3).state ≠ .free ∧ (s.page 3).retain = some true ∧
      s.link.room 1) ∧
    (99#8).toNat ≤ 99 ∧ s1.print.queue.length < 8 ∧ s2.active Input.coverOpen = true ∧
      s3.print.queue = [{ entry with page := 5 }, entry] ∧ s2.print.queue = [] := by decide +kernel

theorem test_meets_CopyStarts :
    let s := busy (printing [entry])
    (s.print.queue = [entry] ∧ (s.page 3).state = .closed ∧ (s.page 3).mode = some .keep ∧ 0 < (s.page 3).committed ∧
      (s.page 3).bandOfLine 0 = some 7 ∧ entry.cursor = 0 ∧ s.active Input.coverOpen = false ∧
      s.active Input.paperOut = false ∧ s.print.seq = .idle ∧ s.motP.atRest = true ∧ s.dram.state = .active ∧
      s.dram.current.isSome ∧ s.dram.lingering .printFetch = false ∧ (∀ r ∈ s.dram.waiting, r.cls ≠ .printFetch) ∧
      s.dram.ending .printFetch = none) ∧
    s.takesCommand = true ∧ s.power.state = .run ∧ s.power.sleepPending = none ∧ s.print.copy.state = .suspended ∧
    (({ CopyRec.idle with state := .starting, startEnds := some 1200 } : CopyRec).startEnds = some 1200) := by decide +kernel

theorem test_meets_DotBudget :
    Tables.defaults.ok ∧ (Tables.defaults.put 0 Param.dotBudget 64).p Param.dotBudget ≤ 1728 / 8 ∧
      8 * (1728 / 8) ≤ (Tables.defaults.put 0 Param.dotBudget 2048).p Param.dotBudget ∧
      ∃ t, exec (.loadTable 1#8 0#8 19#16 [8#8, 0#8]) (strobing .pulse 0) = .next t :=
  ⟨Tables.defaults_ok, by decide +kernel, by decide +kernel, _, rfl⟩

theorem test_meets_StrobePhases :
    Tables.defaults.ok ∧ ([216, 217, 216, 217, 216, 217, 216, 217].map (min 216)).length = 8 ∧
      (∀ c ∈ [216, 216, 216, 216, 216, 216, 216, 216], c ≤ Tables.defaults.p Param.headWidth / 8 ∧ c ≠ 0) ∧
      (effectiveBudget 1728 64 < 216 + 216) :=
  ⟨Tables.defaults_ok, by decide +kernel⟩

theorem test_meets_PulseWidthAndFloor :
    Tables.defaults.ok ∧ 0 < 1 ∧ ((Tables.defaults.put 0 Param.wmin 4000).put 0 Param.wmax 50).p Param.wmax <
      ((Tables.defaults.put 0 Param.wmin 4000).put 0 Param.wmax 50).p Param.wmin :=
  ⟨Tables.defaults_ok, by decide +kernel⟩

theorem test_meets_LinePlacement :
    (1728 % 64 = 0 ∧ 2048 % 64 = 0 ∧ (List.replicate 216 0xFF#8).length = 1728 / 8 ∧ 1728 < 2048) ∧
      (List.replicate 256 0xFF#8).length = 2048 / 8 := by decide +kernel

theorem test_meets_StrobeAndCut :
    (running.power.sleepPending = none ∧ (strobing .pulse 0).print.seqEnds = some 1200 ∧
      ((strobing .pulse 0).print.strobe.map fun r => (r.recovery, r.phases.length)) = some (40, 4)) ∧
    (2 + 1 < 4 ∧ 4 ≤ 3 + 1 ∧ (strobing .recover 3).print.copy.heldMove = none ∧ (strobing .recover 3).print.copy.rested = false) ∧
    (let s : State := { printing [entry] with print := { (printing [entry]).print with
        copy := { CopyRec.idle with state := .cut, cutEnds := some 1200, shift := { ShiftBuf.none with status := .shifting, doneAt := some 1200 } } } }
     s.print.copy.shift.status = .shifting ∧ s.print.copy.shift.doneAt = some 1200 ∧ s.print.copy.state = .cut ∧
      s.print.copy.cutEnds = some 1200 ∧ s.print.queue = [entry] ∧ s.print.copy.cancelPending = false ∧
      entry.copies = entry.done + 1 ∧ (s.page 3).mode = some .keep ∧ (s.page 3).retain = some true ∧ s.link.room 2) := by
  decide +kernel

theorem test_meets_ReadQueue :
    let s1 := readingOut [readEntry]
    let s3 := readingOut [readEntry, { readEntry with page := 3 }]
    (∀ s ∈ [s1, s3], s.takesCommand = true ∧ s.power.state = .run ∧ s.power.sleepPending = none ∧
      (s.page 3).kind = some .image ∧ (s.page 3).mode = some .keep ∧ (s.page 3).state ≠ .free ∧ (s.page 3).retain = some true) ∧
    (16383#24).toNat ≤ 16383 ∧ (16384#24).toNat ≤ 16384 ∧ s1.link.reads.length < 4 ∧ 16383 < (16384#24).toNat ∧
      s3.link.reads = [readEntry, { readEntry with page := 3 }] ∧ readEntry.page ≠ 3 ∧ s3.link.readBuf.status ≠ .empty ∧
      s3.link.room 1 := by decide +kernel

theorem test_meets_FeedMoves :
    let cover : State := { running with mon := { running.mon with inputs := inputs [3] } }
    (motorOf 0#8 = some .s ∧ motorOf 1#8 = some .p ∧ 1#16 ≠ 0#16) ∧
    (running.takesCommand = true ∧ running.power.state = .run ∧ running.power.sleepPending = none ∧
      running.active Input.coverOpen = false) ∧
    (∀ m ∈ [Motor.s, .p], running.unitIdle m = true ∧ (running.mot m).state = .off ∧ running.tables.settleMs m ≠ 0 ∧
      (holding m).takesCommand = true ∧ ((holding m).mot m).state = .hold ∧ ((holding m).mot m).holdTimer = some 1200 ∧
      ((settling m false).mot m).settleEnds = some 1200 ∧ ((settling m false).mot m).floor = 0 ∧
      ((settling m true).mot m).powerEnds = some 1200 ∧ ((settling m true).mot m).settleMs ≠ 0 ∧
      ((settling m true).mot m).state = .settle ∧ ((gapping m).mot m).gaps = { coils := 2#4, endsAt := 1200 } :: []) ∧
    cover.active Input.coverOpen = true ∧ cover.takesCommand = true := by decide +kernel

theorem test_meets_StepEvents :
    ∀ m ∈ [Motor.s, .p], ∀ n ∈ [0, 1, 65534],
      let s := feeding m (n + 1) 1
      (s.mot m).moving = true ∧ (s.mot m).owner = .feed ∧ (s.mot m).stop = .nostop ∧ (s.mot m).held = none ∧
        (s.mot m).interval = some { length := 1800, endsAt := 1200 } ∧ (s.mot m).remaining = some (n + 1) ∧
        s.power.sleepPending = none ∧ (s.mon.input Input.docEdge).level = some (!true) ∧ s.tables.holdTime m ≠ 0 ∧
        s.link.room 1 := by decide +kernel

theorem test_meets_StopCount : 0 < ({ Channel.reset with steps := 4, position := 3, index := 2 } : Channel).steps := by decide

theorem test_meets_SensorRounds :
    let held : AnalogRec := { value := 3, valid := true, band := some .normal, pending := some .high, saturated := false }
    let s2 : State := { running with mon := { running.mon with
      transaction := some { channel := 7, endsAt := 1200, masked := false }, analog := running.mon.analog.setIfInBounds 7 held } }
    (running.mon.nextRound = some 200900 ∧ running.mon.transaction = none ∧ running.tables.sensorEnabled 0 = true ∧
      running.power.state = .run ∧ (attentive .standby).power.state = .standby ∧
      (attentive .standby).mon.nextRound = some 200900) ∧
    (s2.mon.roundQueued = false ∧ (s2.mon.channel 7).band = some .normal ∧ s2.tables.sensorHigh 7 = 255 ∧
      s2.tables.sensorLow 7 = 0 ∧ s2.tables.sensorOffset 7 = 0 ∧ s2.power.sleepPending = none) ∧
    running.mon.nextSample = some 20000 ∧ running.motS.moving = false ∧
      ∀ n < 6, (running.mon.input n).level = some (!(0b111111#6).getLsbD n) := by decide +kernel

theorem test_meets_SensorFilters :
    (AnalogRec.empty.band ≠ some .low ∧ AnalogRec.empty.pending ≠ some .low) ∧ 0 < 1 ∧ 0 < 4 ∧ 3 < 4 := by decide

/-- The last start of a round lies eight periods back or not; a round runs or not. -/
theorem test_meets_StandbyEntered :
    let late : State := { attentive .run with now := 9000000, mon := { running.mon with transaction := some { channel := 3, endsAt := 9000100, masked := false } } }
    let busy : State := { attentive .run with print := { running.print with queue := [entry] } }
    let pending : State := { attentive .run with power := { (attentive .run).power with sleepPending := some 7 } }
    (∀ s ∈ [attentive .run, late], s.power.state = .run ∧ s.power.sleepPending = none ∧ s.motS.moving = false ∧ s.mon.lastRound = some { start := 900, period := 10 } ∧
      s.dram.waiting = [] ∧ s.dram.state = .active ∧ s.dram.autoDue = false ∧ s.tables.p Param.autoSrDelay ≠ 0) ∧
    (∀ s ∈ [attentive .run, late], s.tables.sensorEnabled 0 = true ∧ s.link.room 1 ∧ s.takesCommand = true ∧ s.noJob = true ∧
      s.power.standbyTimer = some 2000) ∧
    (running.now < 900 + 20000 * (8 * 10) ∧ 900 + 20000 * (8 * 10) ≤ late.now) ∧
    ((attentive .standby).takesCommand = true ∧ (attentive .standby).power.state = .standby ∧
      (attentive .standby).power.sleepPending = none ∧ (attentive .standby).noJob = true) ∧
    (busy.takesCommand = true ∧ busy.noJob = false) ∧ (pending.takesCommand = true ∧ pending.power.sleepPending ≠ none) ∧
    (falling false).takesCommand = true ∧ (falling false).power.state ≠ .run ∧ (falling false).power.state ≠ .standby := by
  repeat' apply And.intro
  all_goals decide +kernel

theorem test_meets_SleepAsked :
    let busy : State := { running with print := { running.print with queue := [entry] } }
    let pending : State := { running with power := { running.power with sleepPending := some 1200 } }
    (∀ p ∈ [PowerState.run, .standby], (attentive p).power.state = p ∧ (attentive p).motS.moving = false ∧
      (attentive p).takesCommand = true ∧ (attentive p).power.sleepPending = none ∧ (attentive p).quiescent = true) ∧
    (busy.takesCommand = true ∧ busy.quiescent = false ∧ busy.power.state = .run) ∧
    (attentive .standby).power.sleepTimer = some 2000 ∧ pending.power.sleepPending = some 1200 ∧ pending.link.room 1 ∧
    (falling false).power.state = .enteringSleep ∧ (falling false).power.drdyDropped = false ∧
      (falling false).link.parser = Parser.ready ∧ (falling false).link.down = [] ∧
      (falling false).power.drdyBound = some 1200 := by decide +kernel

theorem test_meets_SleepAndWake :
    (let s := falling true
     s.power.state = .enteringSleep ∧ s.power.drdyDropped = true ∧ s.power.ordered = false ∧ s.link.writer = none ∧
      s.dram.state = .active ∧ s.dram.current = none ∧ s.dram.waiting = [] ∧ s.dram.heldBanks = none) ∧
    (let s := enteringSelfRefresh
     s.power.state = .enteringSleep ∧ s.power.heldWake = none ∧ s.dram.state = .srEntry ∧ s.dram.stateEnds = some 1004 ∧
      s.dram.cause = some .sleep) ∧
    (asleep.power.state = .sleep ∧ asleep.power.wakeTimer = some 1200 ∧ asleep.dram.state = .selfRefresh ∧
      asleep.dram.cause = some .sleep) ∧
    (let s := waking .key
     s.power.state = .waking ∧ s.power.wakeSource = some .key ∧ s.dram.state = .srExit ∧ s.dram.stateEnds = some 1200 ∧
      s.dram.wakeExit = true ∧ s.dram.current = none ∧ s.dram.waiting = [] ∧ s.dram.sleepOrder = false ∧
      s.dram.autoDue = false ∧ s.dram.heldBanks = none ∧ s.mon.transaction = none ∧ s.tables.sensorEnabled 0 = true ∧
      s.link.room 1) := by decide +kernel

/-! ### The further clauses of the statements that have several subjects -/

/-- R2: line 32 is granted while line 31 is in transfer, and the commit of line 31 leaves the mark of the empty band. -/
theorem test_filling_mark_stays :
    let r := lineRequest .scanWrite 4 31 1728 7 [] (some .a)
    let s := withPage 4 { scanPage with committed := 31, chain := [7, 9], filling := true } (running.moving r)
    ((after .scanLineWriteEnd s).page 4).filling = true ∧ ((after .scanLineWriteEnd s).page 4).committed = 32 ∧
      ((after .scanLineWriteEnd scanWriting).page 4).filling = false := by decide +kernel

theorem test_meets_WarmReset_sleep :
    let ordered : State := { falling true with power := { (falling true).power with ordered := true } }
    (waking .key).power.state = .waking ∧ ((falling true).power.state = .enteringSleep ∧ (falling true).power.ordered = false) ∧
      (enteringSelfRefresh.power.ordered = true ∧ enteringSelfRefresh.power.state = .enteringSleep ∧
        enteringSelfRefresh.dram.cause = some .sleep) ∧
      (ordered.power.state = .enteringSleep ∧ ordered.power.ordered = true ∧ ordered.dram.cause ≠ some .sleep) ∧
      ∀ s ∈ [waking .key, falling true, enteringSelfRefresh, ordered], s.power.por = false := by decide +kernel

/-- The header's bytes in order, a payload byte behind the first, and the two bytes of END. -/
theorem test_meets_BootStreamBytes_bytes :
    let heads : List (List Byte) := [[0x5A#8], [0x5A#8, 0x18#8], [0x5A#8, 0x18#8, 1#8], [0x5A#8, 0x18#8, 1#8, 8#8]]
    (∀ h ∈ heads, (bootReading h []).power.bootHeader = h ∧ (bootReading h []).power.twoWire = .reading ∧
      (bootReading h []).power.boot.outcome = none ∧ (bootReading h []).power.boot.bytes + 1 < 8192) ∧
    (bootReading [0x5A#8, 0x3F#8, 0#8, 0#8, 2#8] []).power.bootPayload = [] ∧ 4 ≤ 256 * (0#8).toNat + (4#8).toNat ∧
      (bootReading [0x5A#8, 0x18#8, 1#8, 0#8, 4#8] []).power.bootPayload = [] ∧
      (let p := (bootReading [0x5A#8, 0x18#8, 1#8, 0#8, 4#8] [1#8, 0#8]).power.bootPayload
       p ≠ [] ∧ p.length + 1 < 256 * (0#8).toNat + (4#8).toNat) := by decide +kernel

/-- The write that completes band 7, which stands behind the consume mark, with a reader that waits beyond it and with none. -/
theorem test_meets_WritesCommit_consumed :
    let page : PageRec := { PageRec.opened .image .stream .link 1728 .fine false 0#16 with chain := [7], committed := 31, mark := 40 }
    let x : ReadEntry := { page := 4, start := 40, count := 0, cursor := 40, placed := 0 }
    let free := withPage 4 page linkWriting
    let read := withPage 4 { page with consumer := some .link, linkHold := 1 }
      { linkWriting with link := { linkWriting.link with reads := [x] } }
    (linkLine.live = true ∧ linkLine.cls = .linkWrite ∧ linkLine.page = 4) ∧
    (∀ s ∈ [free, read], s.dram.current = some (.transfer linkLine 1200) ∧
      s.link.writer = some { isLine := true, page := 4, next := 5, data := linkLine.data } ∧ s.store.scanWaits = false ∧
      s.store.memoryLow = false ∧ s.store.poolWait = none ∧ s.print.queue = [] ∧ s.power.sleepPending = none) ∧
    (∀ s ∈ [free, read], (s.page 4).state = .opened ∧ (s.page 4).mode = some .stream ∧ (s.page 4).kind = some .image ∧
      (s.page 4).writer = some .link ∧ (s.page 4).chain = 7 :: [] ∧ (s.page 4).filling = false ∧
      (s.page 4).base + 32 ≤ (s.page 4).mark ∧ (s.page 4).committed + 1 = (s.page 4).base + 32) ∧
    (read.page 4).consumer = some .link ∧ read.link.reads = [x] ∧ x.page = linkLine.page ∧
      read.link.readBuf.status = .empty ∧ (read.page 4).committed + 1 ≤ x.cursor ∧ (free.page 4).consumer = none ∧
      free.link.reads = [] := by decide +kernel

/-- R18: page 4's chain without a consumer stays, and a READ PAGE beyond the band consumes it. -/
theorem test_stream_without_consumer :
    let page : PageRec := { PageRec.opened .image .stream .link 1728 .fine false 0#16 with chain := [7], committed := 31, mark := 40 }
    let t := after .linkWriteEnd (withPage 4 page linkWriting)
    (t.page 4).chain = [7] ∧ (t.page 4).committed = 32 ∧
      ((after (.readPage 1#8 4#8 40#24 0#24) t).page 4).chain = [] := by decide +kernel

/-- The last record of the one read of page 3. -/
def lastRecord (r : PageRec) (first : Nat) : State :=
  withPage 3 r { running with link := { running.link with
    chosen := some .data
    reads := [{ page := 3, start := 0, count := 2, cursor := 2, placed := 1 }]
    readBuf := { status := .waiting, isLine := true, page := 3, first := first, stop := first + 1, data := [1#8] } } }

/-- A KEEP page and a STREAM page to be released, a STREAM page still OPEN, and a LINE that waits for a band. -/
theorem test_meets_UpstreamRecordPlaced_last :
    let keep : PageRec := { keptPage with printHold := 0, linkHold := 1, retain := some false }
    let stream : PageRec := { keep with mode := some .stream, retain := none, consumer := some .link, base := 32, chain := [9] }
    let s1 := lastRecord keep 4
    let s2 := lastRecord stream 39
    let s3 := lastRecord { stream with state := .opened, base := 0, chain := [9, 5] } 31
    let w : PoolWait := { page := 9, deadline := 77777 }
    let s4 := withPage 9 { linkPage with chain := [3, 4], committed := 64 } { busy s1 with
      store := { s1.store with freeList := [], poolWait := some w }
      link := { s1.link with writer := some { isLine := true, page := 9, next := 64, data := [1#8] } } }
    (∀ s ∈ [s1, s2, s3, s4], s.power.upstreamWorks = true ∧ s.power.sleepPending = none ∧ s.link.chosen = some .data ∧
      s.link.reads = [{ page := 3, start := 0, count := 2, cursor := 2, placed := 1 }] ∧
      s.link.readBuf.first < s.link.readBuf.stop ∧ 2 = 1 + (s.link.readBuf.stop - s.link.readBuf.first) ∧
      s.link.up.length + s.link.readBuf.record.length ≤ 2048 ∧ s.link.room 2 ∧ s.print.queue = [] ∧ s.store.scanWaits = false ∧
      s.store.memoryLow = false) ∧
    (∀ s ∈ [s1, s2, s4], (s.page 3).state = .closed ∧ (s.page 3).printHold = 0 ∧ (s.page 3).linkHold = 1) ∧
    (∀ s ∈ [s1, s4], (s.page 3).mode = some .keep ∧ (s.page 3).retain = some false) ∧
    (∀ s ∈ [s1, s2, s3], s.store.poolWait = none) ∧
    ((s2.page 3).mode = some .stream ∧ (s2.page 3).kind = some .image ∧ (s2.page 3).committed ≤ s2.link.readBuf.stop ∧
      (s2.page 3).committed < (s2.page 3).base + 32) ∧
    ((s3.page 3).state = .opened ∧ (s3.page 3).consumer = some .link ∧ (s3.page 3).mode = some .stream ∧ (s3.page 3).kind = some .image ∧
      (s3.page 3).chain = 9 :: [5] ∧ (s3.page 3).mark ≤ s3.link.readBuf.stop ∧ s3.link.readBuf.stop = (s3.page 3).base + 32 ∧
      (s3.page 3).base + 32 ≤ (s3.page 3).committed) ∧
    (s4.page 3).chain = 7 :: [9] ∧ s4.store.freeList = [] ∧ s4.store.poolWait = some w ∧
      s4.link.writer = some { isLine := true, page := 9, next := 64, data := [1#8] } ∧ (s4.page 9).state = .opened ∧
      (s4.page 9).base ≤ 64 ∧ (s4.page 9).chain.length = 64 / 32 - (s4.page 9).base / 32 ∧ s4.reserve ≤ [9].length ∧
      s4.dram.state = .active ∧ s4.dram.current = some (.refresh 1200) := by decide +kernel

/-- A KEEP and a STREAM page closed and released at once, and a scan that waits for the band of a page released. -/
theorem test_meets_CloseAndReleasePage_auto :
    let keep : PageRec := { linkPage with retain := some false, chain := [7, 9], committed := 40 }
    let s1 := withPage 31 keep running
    let s2 := withPage 31 { keep with mode := some .stream, retain := none, filling := true, committed := 64, mark := 64 } running
    let w : ScanWrite := { index := 64, slot := .b, banded := false, requested := false }
    let s3 := withPage 9 { scanPage with chain := [3, 4], committed := 63 }
      (withPage 31 { keep with state := .closed, writer := none } { busy running with
        store := { running.store with freeList := [], scanWaits := true, memoryLow := true }
        scan := { running.scan with
          slotB := { use := .held, dots := [5#8] }
          writes := [w]
          job := { scanJob .capture with page := some 9, nextLine := 65 } } })
    (∀ s ∈ [s1, s2, s3], s.takesCommand = true ∧ s.power.sleepPending = none ∧ s.link.room 2 ∧ (s.page 31).printHold = 0 ∧
      (s.page 31).linkHold = 0) ∧
    (∀ s ∈ [s1, s2], s.unattended ∧ (s.page 31).state = .opened ∧ (s.page 31).writer = some .link) ∧
    ((s1.page 31).mode = some .keep ∧ (s1.page 31).retain = some false) ∧
    ((s2.page 31).mode = some .stream ∧ (s2.page 31).committed ≤ (s2.page 31).mark) ∧
    ((s3.page 31).state = .closed ∧ (s3.page 31).chain = 7 :: [9] ∧ [9].length < 4 ∧ s3.store.freeList = [] ∧
      s3.store.scanWaits = true ∧ s3.store.memoryLow = true ∧ s3.store.poolWait = none ∧ s3.scan.job.page = some 9) ∧
    (s3.page 9).state = .opened ∧ s3.scan.writes = [w] ∧ (s3.scan.slot .b).use = .held ∧ (s3.page 9).base ≤ 64 ∧
      (s3.page 9).chain.length = 64 / 32 - (s3.page 9).base / 32 ∧ s3.dram.state = .active ∧
      s3.dram.current = some (.refresh 1200) := by decide +kernel

/-- A refusal with no sleep pending. -/
theorem test_meets_OneReplyPerCommand_refusal :
    ((after (.shade 1#8) (withDocument running)).link.replies.map (·.code)) = [.wrongState] ∧
      (withDocument running).takes (.shade 1#8) = true ∧ (withDocument running).power.sleepPending = none := by decide +kernel

/-- BANKS changed, and a phase table of a channel in HOLD and of one that is OFF. -/
theorem test_meets_LoadAndReadTable_effects :
    (running.takesCommand = true ∧ loadValues 0 [0#8, 4#8] = [4] ∧ 0 + 1 ≤ 52 ∧ running.loadable 0 0 1 = true ∧
      (running.tables.load 0 0 [4]).p Param.banks ≠ running.tables.p Param.banks) ∧
    ∀ m ∈ [Motor.s, .p], (holding m).takesCommand = true ∧ ((holding m).mot m).atRest = true ∧
      ((holding m).mot m).state = .hold ∧ loadValues (if m = .s then 6 else 7) [15#8] = [15] ∧ 7 + 1 ≤ 8 ∧
      ((holding m).tables.load (if m = .s then 6 else 7) 7 [15]).get (if m = .s then 6 else 7) 7 ≠
        (holding m).tables.get (if m = .s then 6 else 7) 7 ∧
      (running.mot m).state = .off := by decide +kernel

theorem test_meets_LinesAreCaptured_steps :
    let freed := scanning (scanAt .feedIn false) (motion .scan) true
    let fed := scanning (scanAt .feedIn false) (motion .scan) false
    let failed := scanning { scanAt .feedIn false with stepCount := 599 } (motion .scan) false
    let offset := scanning (scanAt .offset true) (motion .scan) true
    let aligned := scanning { scanAt .offset true with stepsLeft := 1 } { motion .scan with position := 0 } true
    let crowded : State := { scanning (scanAt .capture true) (motion .scan) true with
      scan := { lamp := true, slotA := { use := .held, dots := [] }, slotB := { use := .filling, dots := [] }, lastSlot := some .a
                readouts := [], writes := [], calibration := none, syncEnds := none, job := scanAt .capture true } }
    let trail := scanning (scanAt .capture true) { motion .scan with position := 0 } false
    let tail := scanning (scanAt .tail false) { motion .scan with position := 0 } false
    let eject := scanning { scanAt .tail false with stepsLeft := 1 } { motion .scan with position := 0 } false
    let writing : State := { eject with scan := { eject.scan with
      writes := [{ index := 30, slot := .b, banded := true, requested := true }] } }
    let done := scanning { scanAt .eject false with pageClosed := true }
      { motion .scan with index := 0, move := some .counted, remaining := some 1 } false
    (∀ s ∈ [freed, fed, failed, offset, aligned, crowded, trail, tail, eject, writing, done],
      s.power.sleepPending = none ∧ s.motS.moving = true ∧ s.motS.owner = .scan ∧
      s.motS.interval = some { length := 1400, endsAt := 1200 } ∧ s.motS.held = none ∧ s.motS.stop = .nostop ∧
      s.scan.job.page = some 4 ∧ s.scan.job.source = some .sensor ∧ s.unattended ∧ s.link.room 2 ∧
      (s.page 4).mode = some .keep ∧ (s.page 4).retain = some true ∧ (s.page 4).filling = false) ∧
    (∀ s ∈ [freed, fed, failed, offset, aligned, crowded, trail, tail, eject, writing],
      s.motS.move = some .open_ ∧ s.motS.remaining = none) ∧
    (∀ s ∈ [freed, offset, aligned, crowded], (s.mon.input Input.docEdge).level = some true) ∧
    (∀ s ∈ [fed, failed, trail, tail, eject, writing, done], (s.mon.input Input.docEdge).level = some false) ∧
    (freed.scan.job.state = .feedIn ∧ freed.scan.job.edgeLevel = false ∧ freed.scan.job.edgeSamples = 1 ∧
      0 < freed.tables.p Param.edgeOffset) ∧
    (fed.scan.job.edgeLevel = false ∧ 40 + 1 < fed.tables.p Param.feedLimit ∧ failed.tables.p Param.feedLimit ≤ 599 + 1 ∧
      failed.scan.writes = [] ∧ failed.scan.readouts = [] ∧ failed.scan.slotA.use = .free ∧ failed.scan.slotB.use = .free ∧
      failed.dram.ending .scanWrite = none ∧ failed.dram.waiting = [] ∧ failed.scan.job.pageClosed = false) ∧
    (offset.scan.job.state = .offset ∧ offset.scan.job.edgeLevel = true ∧ 1 < offset.scan.job.stepsLeft ∧
      aligned.scan.job.stepsLeft = 1 ∧ aligned.scan.slotA.use = .free ∧ 31 < aligned.tables.p Param.maxDocLines) ∧
    (crowded.scan.job.state = .capture ∧ (crowded.motS.position + 1) % crowded.motS.steps = 0 ∧
      crowded.scan.slotA.use ≠ .free ∧ crowded.scan.slotB.use ≠ .free ∧ crowded.scan.writes = [] ∧ (crowded.page 4).repeats < 255) ∧
    (trail.scan.job.edgeLevel = true ∧ (trail.motS.position + 1) % trail.motS.steps ≠ 0 ∧ trail.scan.job.stopping = false ∧
      0 < trail.tables.p Param.trailOffset) ∧
    (tail.scan.job.state = .tail ∧ 1 < tail.scan.job.stepsLeft ∧ eject.scan.job.stepsLeft = 1 ∧ writing.scan.writes ≠ [] ∧
      eject.scan.writes = [] ∧ eject.scan.readouts = [] ∧ eject.scan.job.coverEnd = false ∧
      0 < (max (eject.tables.p Param.ejectSteps) (1 + 7) + 2 - 1) / 2 * 2 - 1) ∧
    done.scan.job.state = .eject ∧ done.scan.job.pageClosed = true ∧ done.scan.job.coverEnd = false ∧
      done.motS.remaining = some 1 ∧ done.scan.readouts = [] ∧ done.store.poolWait = none ∧ done.tables.holdTime .s ≠ 0 := by
  repeat' apply And.intro
  all_goals decide +kernel

/-- A STREAM page without a consumer, and one that the Print Unit consumes. -/
theorem test_meets_PrintQueue_stream :
    let page : PageRec := { linkPage with mode := some .stream, retain := none, base := 32, committed := 40, chain := [9] }
    let free := withPage 3 page (printing [{ entry with page := 7 }])
    let taken := withPage 3 { page with consumer := some .print } (printing [{ entry with page := 7 }])
    (∀ s ∈ [free, taken], s.takesCommand = true ∧ s.power.state = .run ∧ s.power.sleepPending = none ∧
      (s.page 3).kind = some .image ∧ (s.page 3).mode = some .stream ∧ (s.page 3).state ≠ .free) ∧
    (free.page 3).consumer = none ∧ (taken.page 3).consumer ≠ none ∧ free.print.queue ≠ [] ∧ free.print.queue.length < 8 ∧
      (2#8).toNat ≠ 1 := by decide +kernel

theorem test_meets_StrobeAndCut_steps :
    let lead := copying { copyAt with state := .lead, leadLeft := 2 } keptPage
    let again := copying copyAt keptPage
    let first := copying { copyAt with state := .lead, leadLeft := 1 } keptPage
    let next := copying { copyAt with shift := { copyAt.shift with printing := 2 }, exhausted := true } keptPage
    let under := copying { copyAt with shift := { copyAt.shift with status := .shifting, doneAt := some 9000 } } keptPage
    let last := copying { copyAt with
      shift := { copyAt.shift with printing := 2, line := 39 }, fetch := FetchBuf.none, exhausted := true } keptPage
    let hot : State := { copying { copyAt with stopping := true } keptPage with
      mon := { running.mon with
        analog := running.mon.analog.setIfInBounds 0
          { value := 250, valid := true, band := some .high, pending := none, saturated := false } }
      motP := { motion .print with stop := .taken, remaining := some 1, move := some .counted, index := 0 } }
    (∀ s ∈ [lead, again, first, next, under, last, hot], s.print.queue = [copyEntry] ∧ s.power.sleepPending = none ∧
      s.motP.moving = true ∧ s.motP.owner = .print ∧ s.motP.interval = some { length := 1400, endsAt := 1200 } ∧
      s.motP.held = none ∧ s.print.copy.abandon = .kept ∧ s.link.room 1 ∧ (s.page 3).mode = some .keep ∧
      (s.page 3).committed = 40) ∧
    (∀ s ∈ [lead, again, first, next, under, last], s.motP.move = some .open_ ∧ s.motP.remaining = none ∧
      s.motP.stop = .nostop ∧ s.print.copy.stopping = false) ∧
    (∀ s ∈ [again, next, under, last, hot], s.print.copy.state = .printing ∧ (s.motP.position + 1) % s.motP.steps = 0) ∧
    (∀ s ∈ [again, first, next, last, hot], s.print.copy.shift.status = .complete) ∧
    (lead.print.copy.state = .lead ∧ 1 < lead.print.copy.leadLeft ∧ first.print.copy.state = .lead ∧
      first.print.copy.leadLeft ≤ 1) ∧
    (∀ s ∈ [again, first, hot], s.print.copy.shift.printing < s.print.copy.repeats) ∧
    (∀ s ∈ [next, last], s.print.copy.shift.printing = s.print.copy.repeats ∧ s.print.copy.exhausted = true) ∧
    (next.print.copy.fetch.status = .full ∧ next.print.copy.shift.line + 1 ≠ 40) ∧
    (under.print.copy.shift.status ≠ .complete ∧ under.print.copy.exhausted = false) ∧
    (last.print.copy.fetch.status = .empty ∧ (last.page 3).state = .closed ∧ last.print.copy.shift.line + 1 = 40 ∧
      0 < last.tables.p Param.printTrail ∧ 0 < last.print.copy.steps) ∧
    hot.motP.stop = .taken ∧ hot.motP.remaining = some 1 ∧ hot.print.copy.stopping = true ∧
      (hot.mon.channel 0).band = some .high ∧ hot.active Input.coverOpen = false ∧ hot.tables.holdTime .p ≠ 0 := by
  repeat' apply And.intro
  all_goals decide +kernel

/-- A STREAM page without a consumer, and one that the link consumes. -/
theorem test_meets_ReadQueue_stream :
    let page : PageRec := { linkPage with mode := some .stream, retain := none, base := 32, committed := 40, chain := [9] }
    let free := withPage 3 page (readingOut [readEntry])
    let taken := withPage 3 { page with consumer := some .link, linkHold := 1 } (readingOut [readEntry, { readEntry with page := 3 }])
    (∀ s ∈ [free, taken], s.takesCommand = true ∧ s.power.state = .run ∧ s.power.sleepPending = none ∧
      (s.page 3).kind = some .image ∧ (s.page 3).mode = some .stream ∧ (s.page 3).state ≠ .free) ∧
    ((16383#24).toNat ≤ 16383 ∧ (16384#24).toNat ≤ 16384) ∧
    ((free.page 3).consumer = none ∧ (free.page 3).base ≤ (32#24).toNat ∧ free.link.reads ≠ [] ∧ free.link.reads.length < 4 ∧
      (32#24).toNat < (free.page 3).base + 32 ∧ (31#24).toNat < (free.page 3).base) ∧
    (taken.page 3).consumer = some .link ∧ taken.link.reads = [readEntry, { readEntry with page := 3 }] ∧
      (taken.page 3).state = .opened ∧ taken.link.readBuf.status ≠ .empty ∧ taken.link.room 1 := by decide +kernel

/-- A level that becomes inactive, the cover and the paper during a copy, the cover during a scan, and KEY on the way to sleep
and in it. -/
theorem test_meets_SensorFilters_levels :
    let closed := changing 3 [3] running
    let paper := changing 2 [] (copying copyAt keptPage)
    let cover := changing 3 [] (copying copyAt keptPage)
    let key := changing 5 [] (falling true)
    let wakes := changing 5 [] asleep
    let scan := changing 3 [0, 1] capturing
    (∀ x ∈ [(closed, 3), (paper, 2), (cover, 3), (key, 5), (wakes, 5)],
      x.1.mon.nextSample = some 20000 ∧ x.1.motS.moving = false ∧ x.1.power.sleepPending = none ∧ x.1.link.room 3 ∧
      x.1.tables.p Param.debounce ≤ (x.1.mon.input x.2).count + 1) ∧
    (∀ k < 6, (closed.mon.input k).level = some (if k = 3 then (0b111111#6).getLsbD k else !(0b111111#6).getLsbD k)) ∧
    (∀ k < 6, (paper.mon.input k).level = some (if k = 2 then (0b111011#6).getLsbD k else !(0b111011#6).getLsbD k)) ∧
    (∀ k < 6, (cover.mon.input k).level = some (if k = 3 then (0b110111#6).getLsbD k else !(0b110111#6).getLsbD k)) ∧
    (∀ s ∈ [key, wakes], ∀ k < 6,
      (s.mon.input k).level = some (if k = 5 then (0b011111#6).getLsbD k else !(0b011111#6).getLsbD k)) ∧
    (∀ s ∈ [closed, paper, cover, scan], s.power.state = .run) ∧
    (∀ s ∈ [paper, cover], s.print.queue = [copyEntry] ∧ (s.page 3).mode = some .keep ∧ s.print.copy.state = .printing ∧
      s.print.copy.abandon = .kept ∧ s.print.copy.cancelPending = false ∧ s.print.copy.heldMove = none ∧
      s.print.copy.rested = false ∧ s.motP.moving = true ∧ s.motP.owner = .print ∧ s.motP.held = none ∧
      s.dram.waiting = [] ∧ s.scan.job.state = .idle ∧ s.scan.calibration = none ∧ s.scan.readouts = []) ∧
    (key.power.state = .enteringSleep ∧ key.power.heldWake = none ∧ (key.tables.p Param.masks / 256).testBit 5 = true) ∧
    (wakes.power.state = .sleep ∧ wakes.dram.state = .selfRefresh ∧ wakes.dram.cause = some .sleep) ∧
    scan.mon.nextSample = some 20000 ∧ scan.tables.p Param.debounce ≤ (scan.mon.input 3).count + 1 ∧
      (∀ k < 6, (scan.mon.input k).level = some (if k = 3 then (0b110100#6).getLsbD k else !(0b110100#6).getLsbD k)) ∧
      scan.power.sleepPending = none ∧ scan.link.room 3 ∧ scan.scan.job.state = .capture ∧ scan.scan.job.page = some 4 ∧
      scan.scan.job.pageClosed = false ∧ scan.dram.ending .scanWrite = none ∧ scan.dram.waiting = [] ∧ scan.unattended ∧
      scan.print.copy.state = .idle ∧ (scan.page 4).mode = some .keep ∧ (scan.page 4).retain = some true ∧
      (scan.page 4).filling = false := by
  repeat' apply And.intro
  all_goals decide +kernel

/-- R26: under power-on reset no RAS line is asserted, nor 200 µs less 50 ns after its release; from 200 µs all four are, whatever
BANKS is. -/
theorem test_ras_in_init :
    let d := (after (.porRelease false false) State.reset).dram
    (∀ k, State.reset.ras k = false) ∧ d.banks = 1 ∧ (∀ k, d.ras 3999 k = false) ∧ ∀ k, d.ras 4000 k = true := by decide +kernel

/-- R33, R34, R37: a refresh with two banks asserts RAS0 and RAS1; a held row keeps its own line active. -/
theorem test_ras_in_active :
    let d : Dram := { running.dram with banks := 2, rowHold := [(1, 7)] }
    let lines (d : Dram) : List Bool := (List.finRange 4).map (d.ras 1000)
    lines { d with current := some (.refresh 1200) } = [true, true, false, false] ∧
      lines d = [false, true, false, false] := by decide +kernel

/-- R26: the first two clauses meet where the eight cycles begin, 32 units before INIT's end. -/
theorem test_meets_ControllerStates_ras :
    let init : Dram := { Dram.reset with stateEnds := some 4032 }
    let refresh : Dram := { running.dram with banks := 2, current := some (.refresh 1200) }
    let held : Dram := { running.dram with banks := 2, rowHold := [(1, 7)] }
    (Dram.reset.state = .init ∧ Dram.reset.stateEnds = none) ∧
      (init.state = .init ∧ init.stateEnds = some 4032 ∧ 4032 ≤ 4000 + 8 * 4 ∧ ¬ 4032 ≤ 3999 + 8 * 4) ∧
      (refresh.state ≠ .init ∧ refresh.banks ≤ (2 : Fin 4).val ∧ (1 : Fin 4).val < refresh.banks) ∧
      (refresh.state = .active ∧ refresh.current = some (.refresh 1200)) ∧
      held.state = .active ∧ (held.current = none ∧ held.rowHold = [((1 : Fin 4).val, 7)]) := by decide +kernel

/-- R55: SYNC_WIDTH 2 at PIXEL_PERIOD 1, 1 µs: the start pulse lasts 2 µs, and the readout's later clocks have none. -/
theorem test_start_pulse :
    let t := after .calibrationSettleEnd { running with scan := { running.scan with
      calibration := some { settleEnds := some 1200, readoutEnds := none, readouts := 0, sums := [] } } }
    (running.tables.p Param.syncWidth = 2 ∧ running.tables.p Param.pixelPeriod = 1 ∧ t.now = 1200) ∧ t.startPulse = true ∧
      ({ t with now := 1239 } : State).startPulse = true ∧ ({ t with now := 1240 } : State).startPulse = false ∧
      t.scan.clocking = true ∧ running.startPulse = false := by decide +kernel

/-- R107, R185: a coil waiting for a gap and wanted by the new pattern keeps the gap's end; one newly wanted waits its own gap. -/
theorem test_phase_load_keeps_gap :
    let c : Channel := { Channel.reset with state := .hold, coils := 1#4, gaps := [{ coils := 2#4, endsAt := 1010 }] }
    let d := c.redrive running.tables .s 1000 6#4
    running.tables.nonoverlap .s = 20 ∧ d.coils = 0#4 ∧
      d.gaps = [{ coils := 2#4, endsAt := 1010 }, { coils := 4#4, endsAt := 1400 }] := by decide +kernel

/-- R126, R185: SENSOR_PERIOD loaded since the last round's start does not move the round at STANDBY entry. -/
theorem test_standby_round_period :
    ((running.withTables (running.tables.put 0 Param.sensorPeriod 20)).moveRound).mon.nextRound = some 1600900 := by decide +kernel

/-- R129, R185: the mask is the one taken at the channel's turn, a load meanwhile or not. -/
theorem test_mask_of_the_turn :
    let held : AnalogRec := { value := 3, valid := true, band := some .normal, pending := some .high, saturated := false }
    let s (k : Bool) : State := { running with mon := { running.mon with
      transaction := some { channel := 1, endsAt := 1200, masked := k }, analog := running.mon.analog.setIfInBounds 1 held } }
    let raised (k : Bool) : List Event := (after (.converterTransactionEnd 255#8) (s k)).link.events
    running.tables.sensorMasked 1 = false ∧ (raised true).length + 1 = (raised false).length := by decide +kernel

theorem test_meets_SensorRounds_change :
    let held : AnalogRec := { value := 3, valid := true, band := some .low, pending := some .normal, saturated := false }
    let s : State := { running with mon := { running.mon with
      transaction := some { channel := 7, endsAt := 1200, masked := false }, analog := running.mon.analog.setIfInBounds 7 held } }
    s.mon.roundQueued = false ∧ s.power.sleepPending = none ∧ s.tables.sensorOffset 7 = 0 ∧
      (¬ s.tables.sensorHigh 7 < 9 ∧ ¬ 9 < s.tables.sensorLow 7) ∧ (s.mon.channel 7).band ≠ some .normal ∧
      (s.mon.channel 7).pending = some .normal ∧ s.link.room 1 := by decide +kernel

/-- R55: a readout in progress, within its start pulse and at its end. -/
theorem test_meets_LinesAreCaptured_pulse :
    let s : State := { capturing with scan := { capturing.scan with syncEnds := some 1000 } }
    readingOutLine.scan.readouts ≠ [] ∧ s.scan.syncEnds = some 1000 ∧ capturing.scan.syncEnds = none ∧
      running.scan.readouts = [] ∧ running.scan.calibration = none := by decide +kernel

/-- SHADE taken in STANDBY, with the unit busy, with a document present, and with the cover open. -/
theorem test_meets_CalibrationRuns_forms :
    let standby : State := { running with
      power := { running.power with state := .standby }
      mon := { running.mon with transaction := some { channel := 1, endsAt := 1200, masked := false } } }
    let covered : State := { running with mon := { running.mon with inputs := inputs [3] } }
    (∀ s ∈ [standby, calibrating 6, withDocument running, covered], s.takesCommand = true ∧ s.power.sleepPending = none) ∧
      (standby.power.state = .standby ∧ standby.scan.isIdle = true ∧ standby.active Input.docIn = false ∧
        standby.active Input.coverOpen = false ∧ standby.mon.transaction.isSome = true ∧ standby.dram.state = .active ∧
        standby.link.room 1) ∧
      (∀ s ∈ [calibrating 6, withDocument running, covered], s.power.state = .run) ∧
      (calibrating 6).scan.isIdle = false ∧ (withDocument running).active Input.docIn = true ∧
      (covered.scan.isIdle = true ∧ covered.active Input.docIn = false ∧ covered.active Input.coverOpen = true) := by decide +kernel

end Sys2Proof.Tests
end

/-! The dots of a stored line (R57, R58): when a corrected sample is black, and where its dot stands in the line. -/

namespace Sys2Proof.Machine

/-! ### The threshold and the comparison -/

theorem Tables.threshold_fixed {t : Tables} (h : t.p Param.ditherMode = 0) (j k : Nat) :
    t.threshold j k = t.p Param.fixedThreshold := by
  unfold Tables.threshold
  rw [if_neg (by omega)]

/-- R182, R187: both sources of a threshold hold one byte: an entry of DITHER by its width, FIXED_THRESHOLD by its clamp. -/
theorem Tables.threshold_le {t : Tables} (h : t.ok) (j k : Nat) : t.threshold j k ≤ 255 := by
  unfold Tables.threshold
  split
  case isTrue matrix =>
    have entry := (h.1 2 (by decide) (k % 8 * 8 + j % 8) (by show _ < 64; omega)).2
    exact Nat.le_of_lt_succ entry
  case isFalse fixed =>
    have clamped : clampTo 0 255 (t.p Param.fixedThreshold) = t.p Param.fixedThreshold :=
      (h.1 0 (by decide) Param.fixedThreshold (by decide)).1
    unfold clampTo at clamped
    omega

theorem Tables.black_iff {t : Tables} {k j sample : Nat} :
    t.black k j sample = true ↔ corrected sample (t.shadeGain[j]?.getD 0) < t.threshold j k := decide_eq_true_iff

theorem Tables.black_eq_false_iff {t : Tables} {k j sample : Nat} :
    t.black k j sample = false ↔ t.threshold j k ≤ corrected sample (t.shadeGain[j]?.getD 0) :=
  decide_eq_false_iff_not.trans Nat.not_lt

/-! ### The byte of eight dots -/

/-- One step of `dotByte`: dot i goes to bit 7 − i. -/
def setDot (f : Nat → Bool) (b : Byte) (i : Nat) : Byte := if f i then b ||| (1#8 <<< (7 - i)) else b

theorem dotByte_eq_foldl (f : Nat → Bool) : dotByte f = (List.range 8).foldl (setDot f) 0#8 := rfl

theorem setDot_getLsbD (f : Nat → Bool) (b : Byte) {i j : Nat} (hi : i < 8) (hj : j < 8) :
    (setDot f b i).getLsbD (7 - j) = (b.getLsbD (7 - j) || (decide (j = i) && f i)) := by
  have place : (1#8 <<< (7 - i)).getLsbD (7 - j) = decide (j = i) := by
    rw [← BitVec.twoPow_eq, BitVec.getLsbD_twoPow, ← Bool.decide_and, decide_eq_decide]
    omega
  unfold setDot
  by_cases hf : f i = true
  · rw [if_pos hf, BitVec.getLsbD_or, place, hf, Bool.and_true]
  · simp [hf]

theorem foldl_setDot_getLsbD (f : Nat → Bool) {j : Nat} (hj : j < 8) : ∀ (dots : List Nat) (b : Byte), (∀ i ∈ dots, i < 8) →
    (dots.foldl (setDot f) b).getLsbD (7 - j) = (b.getLsbD (7 - j) || (decide (j ∈ dots) && f j))
  | [], b, _ => by simp
  | i :: dots, b, h => by
    rw [List.foldl_cons, foldl_setDot_getLsbD f hj dots _ (fun x hx => h x (List.mem_cons_of_mem i hx)),
      setDot_getLsbD f b (h i List.mem_cons_self) hj]
    by_cases hji : j = i
    · subst hji
      cases b.getLsbD (7 - j) <;> simp
    · simp [hji]

/-- R58: the first dot of a byte is its most significant bit, and black is 1. -/
theorem dotByte_getLsbD (f : Nat → Bool) {j : Nat} (hj : j < 8) : (dotByte f).getLsbD (7 - j) = f j := by
  rw [dotByte_eq_foldl, foldl_setDot_getLsbD f hj _ _ (fun i hi => List.mem_range.1 hi)]
  simp [hj]

/-! ### The stored line -/

@[simp] theorem Tables.line_length (t : Tables) (pattern : Option Pattern) (samples : List Byte) (k : Nat) :
    (t.line pattern samples k).length = t.p Param.scanWidth / 8 := by
  simp [Tables.line]

theorem Tables.line_getElem? (t : Tables) (pattern : Option Pattern) (samples : List Byte) (k : Nat) {i : Nat}
    (hi : i < t.p Param.scanWidth / 8) :
    (t.line pattern samples k)[i]? = some (dotByte fun b =>
      t.black k (8 * i + b) (pixelValue pattern samples (t.p Param.sensorLead) k (8 * i + b))) := by
  simp [Tables.line, hi]

/-- R58: pixel j stands in byte j / 8 of the line, the byte's first pixel in its most significant bit. -/
theorem Tables.line_dot (t : Tables) (pattern : Option Pattern) (samples : List Byte) (k : Nat) {j : Nat}
    (hj : j / 8 < t.p Param.scanWidth / 8) :
    ((t.line pattern samples k)[j / 8]?).map (fun byte => byte.getLsbD (7 - j % 8)) =
      some (t.black k j (pixelValue pattern samples (t.p Param.sensorLead) k j)) := by
  rw [Tables.line_getElem? t pattern samples k hj, Option.map_some, dotByte_getLsbD _ (Nat.mod_lt j (by decide)),
    Nat.div_add_mod j 8]

/-! ### The obligation -/

/-- Settles O44: the first part compares the corrected value with a threshold of at most 255, the second reads the line byte by
byte. -/
theorem lineDots : Obligations.LineDots := by
  unfold Obligations.LineDots
  refine ⟨fun t k j sample _ => ?_, fun t pattern samples k =>
    ⟨t.line_length pattern samples k, fun j hj => t.line_dot pattern samples k hj⟩⟩
  intro value threshold
  have white : t.black k j sample = false ↔ threshold ≤ value := Tables.black_eq_false_iff
  have fixed (mode : t.p Param.ditherMode = 0) : threshold = t.p Param.fixedThreshold := Tables.threshold_fixed mode j k
  refine ⟨Tables.black_iff, ?zero, ?full, ?below, ?atLimit⟩
  case zero => intro h; exact white.2 (h ▸ Nat.zero_le _)
  case full => intro ok full; exact white.2 (full ▸ Tables.threshold_le ok j k)
  case below =>
    intro mode h128 h127
    have dark : value < threshold := by rw [fixed mode]; omega
    exact Tables.black_iff.2 dark
  case atLimit => intro mode h128 h; exact white.2 (by rw [fixed mode]; omega)

end Sys2Proof.Machine

/-! The line on the head (R76, R77, R92): where a page line's dots come to stand, and which dots a group counts. -/

namespace Sys2Proof.Machine

/-! ### The dots of a list of bytes -/

/-- R77: dot h of a line of bytes, the first dot of a byte in its most significant bit; behind the last byte all is white. -/
def lineDot (bytes : List Byte) (h : Nat) : Bool := ((bytes[h / 8]?).getD 0#8).getLsbD (7 - h % 8)

theorem lineDot_white (n h : Nat) : lineDot (List.replicate n 0#8) h = false := by
  by_cases inside : h / 8 < n <;> simp [lineDot, inside]

theorem lineDot_append_left {front back : List Byte} {h : Nat} (inside : h < 8 * front.length) :
    lineDot (front ++ back) h = lineDot front h := by
  unfold lineDot
  rw [List.getElem?_append_left (by omega)]

theorem lineDot_append_right (front back : List Byte) (h : Nat) :
    lineDot (front ++ back) (8 * front.length + h) = lineDot back h := by
  unfold lineDot
  rw [List.getElem?_append_right (by omega), show (8 * front.length + h) / 8 - front.length = h / 8 by omega,
    Nat.mul_add_mod]

theorem lineDot_drop (bytes : List Byte) (o h : Nat) : lineDot (bytes.drop o) h = lineDot bytes (h + o * 8) := by
  unfold lineDot
  rw [List.getElem?_drop, Nat.add_mul_div_right h o (by decide), Nat.add_comm o, Nat.add_mul_mod_self_right]

theorem lineDot_take (bytes : List Byte) {n h : Nat} (inside : h < 8 * n) :
    lineDot (bytes.take n) h = lineDot bytes h := by
  unfold lineDot
  rw [List.getElem?_take_of_lt (by omega)]

/-! ### Placement (R77) -/

theorem placeLine_of_lt {H w : Nat} (narrow : w < H) (line : List Byte) :
    placeLine H w line =
      List.replicate ((H - w) / 16) 0#8 ++ line ++ List.replicate (H / 8 - (H - w) / 16 - w / 8) 0#8 := if_pos narrow

theorem placeLine_of_le {H w : Nat} (wide : H ≤ w) (line : List Byte) :
    placeLine H w line = (line.drop ((w - H) / 16)).take (H / 8) := if_neg (Nat.not_lt.2 wide)

section
variable {H w : Nat} {line : List Byte}

/-- The two margins, or the two cuts, and the line make up the head's width. -/
theorem placeLine_length (hH : H % 64 = 0) (hw : w % 64 = 0) (hlen : line.length = w / 8) :
    (placeLine H w line).length = H / 8 := by
  rcases Nat.lt_or_ge w H with narrow | wide
  · rw [placeLine_of_lt narrow]
    simp only [List.length_append, List.length_replicate]
    omega
  · rw [placeLine_of_le wide, List.length_take, List.length_drop]
    omega

/-- R77: a narrower line stands behind the left margin, with white on either side. -/
theorem placeLine_dot_of_lt (hw : w % 64 = 0) (hlen : line.length = w / 8) (narrow : w < H) (h : Nat) :
    lineDot (placeLine H w line) h =
      if (H - w) / 16 * 8 ≤ h ∧ h < (H - w) / 16 * 8 + w then lineDot line (h - (H - w) / 16 * 8) else false := by
  rw [placeLine_of_lt narrow, List.append_assoc]
  generalize (H - w) / 16 = o
  generalize H / 8 - o - w / 8 = right
  rcases Nat.lt_or_ge h (o * 8) with inLeft | behindLeft
  · rw [if_neg (by omega), lineDot_append_left (by rw [List.length_replicate]; omega), lineDot_white]
  · obtain ⟨k, rfl⟩ : ∃ k, h = 8 * (List.replicate o 0#8).length + k := ⟨h - 8 * o, by rw [List.length_replicate]; omega⟩
    rw [lineDot_append_right, List.length_replicate, Nat.mul_comm 8 o, Nat.add_sub_cancel_left]
    rcases Nat.lt_or_ge k w with inLine | inRight
    · rw [if_pos (by omega), lineDot_append_left (by omega)]
    · obtain ⟨j, rfl⟩ : ∃ j, k = 8 * line.length + j := ⟨k - w, by omega⟩
      rw [if_neg (by omega), lineDot_append_right, lineDot_white]

/-- R77: a wider line is cropped on the left by whole bytes. -/
theorem placeLine_dot_of_le (hH : H % 64 = 0) (wide : H ≤ w) {h : Nat} (onHead : h < H) :
    lineDot (placeLine H w line) h = lineDot line (h + (w - H) / 16 * 8) := by
  rw [placeLine_of_le wide, lineDot_take _ (by omega), lineDot_drop]

theorem placeLine_self (hlen : line.length = H / 8) : placeLine H H line = line := by
  rw [placeLine_of_le (Nat.le_refl H), Nat.sub_self, Nat.zero_div, List.drop_zero, ← hlen, List.take_length]

end

/-! ### Dot counts (R76, R92) -/

/-- The count of a byte does not depend on which end it is read from. -/
theorem blackDots_eq_countP (b : Byte) : blackDots b = (List.range 8).countP fun i => b.getLsbD (7 - i) := by
  have mirrored : (List.range 8).map (7 - ·) = (List.range 8).reverse := by decide
  calc blackDots b
      = (List.range 8).reverse.countP (fun i => b.getLsbD i) := List.countP_reverse.symm
    _ = (List.range 8).countP (fun i => b.getLsbD (7 - i)) := by rw [← mirrored, List.countP_map]; rfl

theorem countP_range_add (p : Nat → Bool) (m n : Nat) :
    (List.range (m + n)).countP p = (List.range m).countP p + (List.range n).countP fun i => p (m + i) := by
  rw [List.range_add, List.countP_append, List.countP_map]
  rfl

theorem countP_range_congr {p q : Nat → Bool} {n : Nat} (same : ∀ i < n, p i = q i) :
    (List.range n).countP p = (List.range n).countP q :=
  List.countP_congr fun i hi => by rw [same i (List.mem_range.1 hi)]

theorem blackCount_eq_countP : ∀ bytes : List Byte, blackCount bytes = (List.range (8 * bytes.length)).countP (lineDot bytes)
  | [] => rfl
  | b :: bytes => by
    have first : (List.range 8).countP (lineDot (b :: bytes)) = blackDots b := by
      rw [blackDots_eq_countP]
      refine countP_range_congr fun i hi => ?_
      simp [lineDot, Nat.div_eq_of_lt hi, Nat.mod_eq_of_lt hi]
    have rest (i : Nat) : lineDot (b :: bytes) (8 + i) = lineDot bytes i := lineDot_append_right [b] bytes i
    rw [List.length_cons, Nat.mul_succ, Nat.add_comm, countP_range_add, first, blackCount, blackCount_eq_countP bytes]
    simp only [rest]

/-- R92: a stretch of n bytes from byte a on counts the 8 n dots from dot 8 a on. -/
theorem blackCount_take_drop {bytes : List Byte} {a n : Nat} (inside : a + n ≤ bytes.length) :
    blackCount ((bytes.drop a).take n) = (List.range (8 * n)).countP fun i => lineDot bytes (a * 8 + i) := by
  have length : ((bytes.drop a).take n).length = n := by rw [List.length_take, List.length_drop]; omega
  rw [blackCount_eq_countP, length]
  refine countP_range_congr fun i hi => ?_
  rw [lineDot_take _ hi, lineDot_drop, Nat.add_comm]

/-- R92: group g of a head's line counts the H / 8 dots from dot g × (H / 8) on. -/
theorem dotCounts_getElem? {H g : Nat} {head : List Byte} (hH : H % 64 = 0) (length : head.length = H / 8) (hg : g < 8) :
    (dotCounts H head)[g]? = some ((List.range (H / 8)).countP fun i => lineDot head (g * (H / 8) + i)) := by
  have eighth : H / 8 = H / 64 * 8 := by omega
  have inside : g * (H / 64) + H / 64 ≤ head.length := by
    rw [length, eighth, ← Nat.succ_mul, Nat.mul_comm]
    exact Nat.mul_le_mul_left _ hg
  have counted := blackCount_take_drop inside
  rw [Nat.mul_assoc, Nat.mul_comm 8, ← eighth] at counted
  simp [dotCounts, hg, counted]

/-! ### The obligation -/

/-- Settles O50: the margins and cuts are whole bytes, so the placement is read dot by dot through the appended, dropped and taken
bytes; the groups are stretches of H / 64 bytes of the placed line. -/
theorem linePlacement : Obligations.LinePlacement := by
  unfold Obligations.LinePlacement
  intro H w line hH hw hlen dot head
  have length : head.length = H / 8 := placeLine_length hH hw hlen
  refine ⟨length, ?narrow, ?wide, ?same, ?counts⟩
  case narrow => exact fun narrow h _ => placeLine_dot_of_lt hw hlen narrow h
  case wide => exact fun wide h onHead => placeLine_dot_of_le hH (Nat.le_of_lt wide) onHead
  case same => rintro rfl; exact placeLine_self hlen
  case counts => exact fun g hg => dotCounts_getElem? hH length hg

end Sys2Proof.Machine

/-! The laws of the tables that a latch reads (R187), and what a load of the tables leaves to the Print Unit (R93, R183). -/

namespace Sys2Proof.Machine

/-! ### Parameters in their ranges (R184, R187) -/

section
variable {t : Tables}

theorem Tables.clampParam_p (ok : t.ok) (i : Nat) (inTable : i < 52) : clampParam i (t.p i) = t.p i :=
  (ok.1 0 (by decide) i inTable).1

/-- R187: a parameter whose clamp is a plain range lies in that range. -/
theorem Tables.p_mem_range (ok : t.ok) (i : Nat) (inTable : i < 52) (h1 : i ≠ 1) (h2 : i ≠ 2) (h51 : i ≠ 51) :
    (paramRange i).1 ≤ t.p i ∧ t.p i ≤ (paramRange i).2 := by
  have clamped := Tables.clampParam_p ok i inTable
  have range := paramRange_le i
  rw [clampParam_plain h1 h2 h51, clampTo] at clamped
  omega

theorem Tables.wmin_range (ok : t.ok) : 50 ≤ t.p Param.wmin ∧ t.p Param.wmin ≤ 4000 :=
  Tables.p_mem_range ok Param.wmin (by decide) (by decide) (by decide) (by decide)

theorem Tables.wmax_range (ok : t.ok) : 50 ≤ t.p Param.wmax ∧ t.p Param.wmax ≤ 4000 :=
  Tables.p_mem_range ok Param.wmax (by decide) (by decide) (by decide) (by decide)

theorem Tables.headWidth_cases (ok : t.ok) : t.p Param.headWidth = 1728 ∨ t.p Param.headWidth = 2048 := by
  have clamped : (if t.p Param.headWidth ≤ 1888 then 1728 else 2048) = t.p Param.headWidth :=
    Tables.clampParam_p ok Param.headWidth (by decide)
  split at clamped <;> simp [← clamped]

/-- R93: eight groups make up the head. -/
theorem Tables.eight_groups (ok : t.ok) : 8 * (t.p Param.headWidth / 8) = t.p Param.headWidth := by
  rcases Tables.headWidth_cases ok with width | width <;> rw [width]

end

/-! ### The effective dot budget (R93) -/

theorem effectiveBudget_of_groups {H : Nat} (groups : 8 * (H / 8) = H) (budget : Nat) :
    effectiveBudget H budget = min (max budget (H / 8)) (8 * (H / 8)) := by
  rw [effectiveBudget, groups]

/-- R93: one group always fits. -/
theorem group_le_effectiveBudget (H budget : Nat) : H / 8 ≤ effectiveBudget H budget :=
  le_min (le_max_right budget (H / 8)) (Nat.div_le_self H 8)

/-! ### What a load leaves unchanged (R183) -/

section
variable (s : State)

@[simp] theorem State.answer_print (tag kind : Byte) (code : ResultCode) (data : List Byte) :
    (s.answer tag kind code data).print = s.print := State.reply_print s _

@[simp] theorem State.refuse_print (tag kind : Byte) (code : ResultCode) : (s.refuse tag kind code).print = s.print :=
  State.answer_print s tag kind code []

@[simp] theorem State.redriveHold_print (m : Motor) : (s.redriveHold m).print = s.print := by
  unfold State.redriveHold
  dsimp only
  split
  · exact State.withMot_print ..
  · rfl

@[simp] theorem State.banksChanged_print : s.banksChanged.print = s.print := by
  unfold State.banksChanged
  dsimp only
  split <;> simp

/-- R183: the effects of a load are on the coils held, the controller and the pool. -/
@[simp] theorem State.replaceTables_print (t : Tables) : (s.replaceTables t).print = s.print := by
  unfold State.replaceTables
  dsimp only
  repeat' split
  all_goals simp

@[simp] theorem State.applyLoad_print (id start : Nat) (bytes : List Byte) : (s.applyLoad id start bytes).print = s.print :=
  State.replaceTables_print s _

/-- R166: refused or accepted, a LOAD TABLE leaves the Print Unit as it was. -/
@[simp] theorem State.doLoadTable_print (tag table : Byte) (start : Half) (entries : List Byte) :
    (s.doLoadTable tag table start entries).print = s.print := by
  unfold State.doLoadTable
  split
  case h_1 => exact State.refuse_print ..
  case h_2 => exact State.refuse_print ..
  case h_3 => rw [State.applyLoad_print, State.answer_print]

end

theorem exec_loadTable_print {tag table : Byte} {start : Half} {entries : List Byte} {s t : State}
    (run : exec (.loadTable tag table start entries) s = .next t) : t.print = s.print := by
  have next : (if s.takesCommand then s.doLoadTable tag table start entries else s) = t := Host.Outcome.next.inj run
  rw [← next]
  split
  · exact State.doLoadTable_print ..
  · rfl

/-- R187: DOT_BUDGET has no loading condition. -/
theorem State.loadable_dotBudget (s : State) : s.loadable 0 Param.dotBudget 1 = true := rfl

/-! ### The obligation -/

/-- Settles O47: D_eff is the budget held between one group and the eight that make up the head; a load reaches no part of the Print
Unit. -/
theorem dotBudget : Obligations.DotBudget := by
  unfold Obligations.DotBudget
  refine ⟨fun t ch0 ch1 S line printing counts ok => ?_, by decide, ?_, State.loadable_dotBudget⟩
  · intro G latched
    have made : latched.dEff = effectiveBudget (t.p Param.headWidth) (t.p Param.dotBudget) := rfl
    have budget : latched.dEff = min (max (t.p Param.dotBudget) G) (8 * G) :=
      made.trans (effectiveBudget_of_groups (Tables.eight_groups ok) _)
    refine ⟨budget, rfl, fun low => ?_, fun high => ?_⟩ <;> omega
  · exact fun tag table start entries s t run => congrArg PrintUnit.strobe (exec_loadTable_print run)

end Sys2Proof.Machine

/-! The packing of a line's groups into strobe phases (R94). -/

namespace Sys2Proof.Machine

/-! ### One group joins (R94) -/

theorem joinPhase_nil (d g c : Nat) : joinPhase d [] g c = [{ groups := [g], dots := c }] := rfl

theorem joinPhase_of_le {d c : Nat} {p : StrobePhase} (fits : p.dots + c ≤ d) (front : List StrobePhase) (g : Nat) :
    joinPhase d (front ++ [p]) g c = front ++ [{ groups := p.groups ++ [g], dots := p.dots + c }] := by
  simp [joinPhase, fits]

theorem joinPhase_of_lt {d c : Nat} {p : StrobePhase} (spills : d < p.dots + c) (front : List StrobePhase) (g : Nat) :
    joinPhase d (front ++ [p]) g c = front ++ [p] ++ [{ groups := [g], dots := c }] := by
  simp [joinPhase, Nat.not_le.2 spills]

/-! ### The packing so far -/

/-- R94: a phase holds groups, and its dot sum is theirs and within the budget. -/
def StrobePhase.Filled (d : Nat) (count : Nat → Nat) (p : StrobePhase) : Prop :=
  p.groups ≠ [] ∧ p.dots ≤ d ∧ p.dots = (p.groups.map count).sum

/-- R94: the first group of phase q would not have fitted into phase p. -/
def StrobePhase.Overflows (d : Nat) (count : Nat → Nat) (p q : StrobePhase) : Prop :=
  ∀ g, q.groups.head? = some g → d < p.dots + count g

/-- R94: the groups below n are packed within the budget d, `count` being their dot counts. -/
structure Packed (d : Nat) (count : Nat → Nat) (n : Nat) (phases : List StrobePhase) : Prop where
  groups : phases.flatMap (·.groups) = (List.range n).filter (fun g => count g ≠ 0)
  filled : ∀ p ∈ phases, p.Filled d count
  overflows : phases.IsChain (StrobePhase.Overflows d count)

section
variable {d n : Nat} {count : Nat → Nat} {phases : List StrobePhase}

theorem StrobePhase.filled_single {g : Nat} (fits : count g ≤ d) : StrobePhase.Filled d count ⟨[g], count g⟩ :=
  ⟨by simp, fits, by simp⟩

theorem StrobePhase.Filled.join {p : StrobePhase} (filled : p.Filled d count) {g : Nat} (fits : p.dots + count g ≤ d) :
    StrobePhase.Filled d count ⟨p.groups ++ [g], p.dots + count g⟩ := by
  obtain ⟨_, _, sum⟩ := filled
  exact ⟨by simp, fits, by simp [sum]⟩

/-- A group joining a phase behind its first group does not change what the phase before could not take. -/
theorem StrobePhase.Overflows.join {p q : StrobePhase} (spills : StrobePhase.Overflows d count p q) (filled : q.groups ≠ [])
    (g dots : Nat) : StrobePhase.Overflows d count p ⟨q.groups ++ [g], dots⟩ := by
  intro first head
  rw [List.head?_append_of_ne_nil _ filled] at head
  exact spills first head

theorem packed_nil : Packed d count 0 [] := ⟨rfl, by simp, .nil⟩

/-- R94: a group without a black dot belongs to no phase. -/
theorem Packed.skip (packed : Packed d count n phases) (white : count n = 0) : Packed d count (n + 1) phases :=
  ⟨by simp [List.range_succ, packed.groups, white], packed.filled, packed.overflows⟩

/-- R94: a group with black dots joins the phase last opened or opens the next. -/
theorem Packed.join (packed : Packed d count n phases) (black : count n ≠ 0) (single : count n ≤ d) :
    Packed d count (n + 1) (joinPhase d phases n (count n)) := by
  obtain ⟨groups, filled, overflows⟩ := packed
  have next : (List.range (n + 1)).filter (fun g => count g ≠ 0) = phases.flatMap (·.groups) ++ [n] := by
    simp [List.range_succ, groups, black]
  rcases List.eq_nil_or_concat phases with rfl | ⟨front, p, rfl⟩
  case inl =>
    rw [joinPhase_nil]
    exact ⟨by simpa using next.symm, by simpa using StrobePhase.filled_single single, .singleton _⟩
  case inr =>
    rw [List.concat_eq_append] at *
    rw [List.forall_mem_append, List.forall_mem_singleton] at filled
    obtain ⟨filledFront, filledLast⟩ := filled
    rcases Nat.lt_or_ge d (p.dots + count n) with spills | fits
    · rw [joinPhase_of_lt spills]
      refine ⟨by rw [next]; simp, ?_, ?_⟩
      · simp only [List.forall_mem_append, List.forall_mem_singleton]
        exact ⟨⟨filledFront, filledLast⟩, StrobePhase.filled_single single⟩
      · refine overflows.append (.singleton _) ?_
        simpa [StrobePhase.Overflows] using spills
    · rw [joinPhase_of_le fits]
      refine ⟨by rw [next]; simp, ?_, ?_⟩
      · rw [List.forall_mem_append, List.forall_mem_singleton]
        exact ⟨filledFront, filledLast.join fits⟩
      · obtain ⟨chain, _, link⟩ := List.isChain_append.1 overflows
        refine chain.append (.singleton _) fun q hq r hr => ?_
        obtain rfl : _ = r := by simpa using hr
        exact (link q hq p rfl).join filledLast.1 _ _

/-- R94: packing the groups from n on, from a packing of those below n. -/
theorem packed_packFrom : ∀ (cs : List Nat) {n : Nat} {phases : List StrobePhase}, Packed d count n phases →
    (∀ i (inside : i < cs.length), cs[i] = count (n + i)) → (∀ c ∈ cs, c ≤ d) →
    Packed d count (n + cs.length) (packFrom d n phases cs)
  | [], _, _, packed, _, _ => packed
  | c :: cs, n, phases, packed, counted, small => by
    obtain rfl : c = count n := counted 0 (by simp)
    have step : Packed d count (n + 1) (if count n = 0 then phases else joinPhase d phases n (count n)) := by
      split
      case isTrue white => exact packed.skip white
      case isFalse black => exact packed.join black (small _ List.mem_cons_self)
    rw [List.length_cons, Nat.add_comm cs.length, ← Nat.add_assoc]
    refine packed_packFrom cs step (fun i inside => ?_) (fun c hc => small c (List.mem_cons_of_mem _ hc))
    rw [Nat.add_assoc, Nat.add_comm 1]
    exact counted (i + 1) (Nat.succ_lt_succ inside)

theorem packed_packPhases {counts : List Nat} (small : ∀ c ∈ counts, c ≤ d) :
    Packed d (fun g => counts[g]?.getD 0) counts.length (packPhases d counts) := by
  have packed := packed_packFrom counts (packed_nil (count := fun g => counts[g]?.getD 0)) (by simp +contextual) small
  rwa [Nat.zero_add] at packed

/-! ### How many phases -/

theorem Packed.overflows_at (packed : Packed d count n phases) {i g : Nat} {p q : StrobePhase} (hp : phases[i]? = some p)
    (hq : phases[i + 1]? = some q) (head : q.groups.head? = some g) : d < p.dots + count g := by
  obtain ⟨_, rfl⟩ := List.getElem?_eq_some_iff.1 hp
  obtain ⟨inside, rfl⟩ := List.getElem?_eq_some_iff.1 hq
  exact List.isChain_iff_getElem.1 packed.overflows i inside g head

/-- Each phase holds at least one of the n groups. -/
theorem Packed.length_le (packed : Packed d count n phases) : phases.length ≤ n := by
  have held : ∀ p ∈ phases, 1 ≤ p.groups.length := fun p hp => List.length_pos_of_ne_nil (packed.filled p hp).1
  calc phases.length
      ≤ (phases.map (·.groups.length)).sum := by
        simpa using List.card_nsmul_le_sum (phases.map (·.groups.length)) 1 (by simpa using held)
    _ = ((List.range n).filter (fun g => count g ≠ 0)).length := by rw [← packed.groups, List.length_flatMap]
    _ ≤ n := (List.length_filter_le _ _).trans_eq List.length_range

theorem Packed.eq_nil (packed : Packed d count n phases) (white : ∀ g < n, count g = 0) : phases = [] := by
  have empty : phases.flatMap (·.groups) = [] := by
    rw [packed.groups, List.filter_eq_nil_iff]
    simpa using white
  rw [List.flatMap_eq_nil_iff] at empty
  exact List.eq_nil_iff_forall_not_mem.2 fun p hp => (packed.filled p hp).1 (empty p hp)

/-- A phase of two groups would hold two neighbours, whose dots do not fit. -/
theorem StrobePhase.Filled.length_eq_one {p : StrobePhase} (filled : p.Filled d count)
    (apart : p.groups.IsChain fun g h => d < count g + count h) : p.groups.length = 1 := by
  obtain ⟨held, within, sum⟩ := filled
  match groups : p.groups with
  | [] => exact absurd groups held
  | [_] => rfl
  | g :: h :: rest =>
    rw [groups, List.isChain_cons_cons] at apart
    simp only [groups, List.map_cons, List.sum_cons] at sum
    omega

theorem Packed.length_eq (packed : Packed d count n phases) (black : ∀ g < n, count g ≠ 0)
    (apart : ∀ g, g + 1 < n → d < count g + count (g + 1)) : phases.length = n := by
  have all : phases.flatMap (·.groups) = List.range n := by
    rw [packed.groups, List.filter_eq_self]
    simpa using black
  have chain : (List.range n).IsChain fun g h => d < count g + count h :=
    (List.isChain_range _ n).2 fun g hg => apart g (by omega)
  have held : [] ∉ phases.map (·.groups) := by simpa using fun p hp => (packed.filled p hp).1
  have single : ∀ p ∈ phases, p.groups.length = 1 := fun p hp => by
    rw [← all, List.flatMap_def, List.isChain_flatten held] at chain
    exact (packed.filled p hp).length_eq_one (chain.1 _ (List.mem_map_of_mem hp))
  calc phases.length
      = (phases.map (·.groups.length)).sum := by
        rw [List.sum_eq_card_nsmul (phases.map (·.groups.length)) 1 (by simpa using single)]; simp
    _ = (List.range n).length := by rw [← all, List.length_flatMap]
    _ = n := List.length_range

end

/-! ### The obligation -/

/-- Settles O48: the greedy packing keeps `Packed`, which determines the number of phases in the cases named. -/
theorem strobePhases : Obligations.StrobePhases := by
  unfold Obligations.StrobePhases
  intro t ch0 ch1 S line printing counts _ eight small latched d phases
  have packed : Packed d (fun g => counts[g]?.getD 0) 8 phases :=
    eight ▸ packed_packPhases fun c hc => (small c hc).trans (group_le_effectiveBudget _ _)
  have count_mem {g : Nat} (hg : g < 8) : counts[g]?.getD 0 ∈ counts := by
    simp [eight, hg]
  exact ⟨packed.groups, packed.filled, fun i p q g => packed.overflows_at, packed.length_le,
    fun white => packed.eq_nil fun g hg => white _ (count_mem hg),
    fun black apart => packed.length_eq (fun g hg => black _ (count_mem hg)) fun g hg => apart g (by omega)⟩

end Sys2Proof.Machine

/-! The pulse width and the line floor of a latch (R95 to R98). -/

namespace Sys2Proof.Machine

/-! ### The pulse width (R97) -/

section
variable {base wmin wmax : Nat} {corr : Int}

/-- R97: a sum below zero is held at the lower limit as well. -/
theorem pulseWidth_cast : (pulseWidth base corr wmin wmax : Int) =
    max ((min wmin wmax : Nat) : Int) (min (wmax : Int) ((base : Int) + corr)) := by
  unfold pulseWidth clampTo
  omega

theorem le_pulseWidth : min wmin wmax ≤ pulseWidth base corr wmin wmax := le_max_left _ _

theorem pulseWidth_le : pulseWidth base corr wmin wmax ≤ wmax := max_le (min_le_right _ _) (min_le_left _ _)

/-- R97: with WMIN above WMAX the two limits are one. -/
theorem pulseWidth_of_lt (crossed : wmax < wmin) : pulseWidth base corr wmin wmax = wmax :=
  le_antisymm pulseWidth_le ((le_min crossed.le le_rfl).trans le_pulseWidth)

end

/-! ### The line floor (R98) -/

theorem ceilDiv_le_iff {a b n : Nat} (positive : 0 < b) : ceilDiv a b ≤ n ↔ a ≤ n * b := by
  rw [Nat.mul_comm]
  exact ceilDiv_le_iff_le_mul positive

theorem lineFloor_le_iff {H S lineTime n : Nat} (positive : 0 < S) :
    lineFloor H S lineTime ≤ n ↔ max lineTime (H / 4) ≤ n * S := ceilDiv_le_iff positive

/-! ### The obligation -/

/-- Settles O49: the clamp's limits are parameters in their ranges, and the floor is a quotient rounded up. -/
theorem pulseWidthAndFloor : Obligations.PulseWidthAndFloor := by
  unfold Obligations.PulseWidthAndFloor
  intro t ch0 ch1 S line printing counts ok positive latched band v sum wmin wmax
  have made : latched.width = pulseWidth (t.headTemp[band]?.getD 0) (supplyCorrection (t.p Param.vnom) v (t.p Param.vslope))
    wmin wmax := rfl
  have lower : min wmin wmax ≤ latched.width := le_pulseWidth
  have upper : latched.width ≤ wmax := pulseWidth_le
  obtain ⟨wminLow, _⟩ := Tables.wmin_range ok
  obtain ⟨wmaxLow, wmaxHigh⟩ := Tables.wmax_range ok
  exact ⟨pulseWidth_cast, (le_min wminLow wmaxLow).trans lower, upper.trans wmaxHigh, pulseWidth_of_lt, rfl,
    rfl, (lineFloor_le_iff positive).1 le_rfl, fun n => (lineFloor_le_iff positive).2⟩

end Sys2Proof.Machine

/-! Every command answers a next state that keeps every part of a safe state (the invariants of Safety.lean). -/

namespace Sys2Proof.Machine

variable {s t : State}

/-! ### What a command keeps -/

/-- What every command keeps: every part of a safe state, and the consistency of the power record. -/
structure Sound (s t : State) : Prop where
  keeps : Keeps s t
  power : s.power.ok → t.power.ok

/-- A command ends in a next state with a property. -/
def EndsIn (P : State → Prop) (r : Result) : Prop := ∃ t, r = .next t ∧ P t

theorem EndsIn.next {P : State → Prop} (h : P t) : EndsIn P (.next t) := ⟨t, rfl, h⟩

theorem Sound.refl (s : State) : Sound s s := ⟨Keeps.refl s, id⟩

/-- A command whose condition fails changes nothing (log entry 3). -/
theorem Sound.ite {c : Prop} [Decidable c] (h : c → Sound s t) : Sound s (if c then t else s) := by
  split
  case isTrue holds => exact h holds
  case isFalse => exact Sound.refl s

/-- R192, R196: the test of the sleep and standby timers behind a step. -/
theorem Sound.settled (h : Sound s t) : Sound s t.settled where
  keeps := h.keeps.effect (State.settled_effect (Effect.refl t))
  power safe := State.settled_pok (h.power safe)

/-- An operation inside a command that keeps the power record consistent. -/
theorem Effect.sound (h : Effect s t) (hp : s.power.ok → t.power.ok) : Sound s t := ⟨h.keeps, hp⟩

/-- An operation inside a command that does not touch the power record. -/
theorem Effect.sound_of_power (h : Effect s t) (hp : t.power = s.power) : Sound s t := ⟨h.keeps, fun safe => hp ▸ safe⟩

/-- A timed step: time moves to its deadline, and then the step is made. -/
theorem Sound.of_at {d : Nat} (h : Sound (s.at d) t) : Sound s t :=
  ⟨(State.at_keeps (Keeps.refl s)).trans h.keeps, h.power⟩

/-- R29: a write transfer's bytes are stored, and then the step is made. -/
theorem Sound.of_storeBytes {r : Request} (h : Sound (s.storeBytes r) t) : Sound s t :=
  ⟨(State.storeBytes_keeps (Keeps.refl s)).trans h.keeps, h.power⟩

/-- R141: a record handed on under its condition. -/
theorem State.deliver_sound {i : Instr} (taken : s.takes i = true) : Sound s (s.deliver i) :=
  ⟨State.deliver_keeps taken, fun safe => State.deliver_pok safe taken⟩

theorem State.handedOn_sound (i : Instr) : Sound s (if s.takes i then s.deliver i else s) := Sound.ite State.deliver_sound

theorem State.handedOn_settled_sound (i : Instr) : Sound s (if s.takes i then (s.deliver i).settled else s) :=
  Sound.ite fun taken => (State.deliver_sound taken).settled

/-! ### Resets and boot -/

theorem execPowerOnReset_sound : EndsIn (Sound s) (execPowerOnReset s) := by
  refine .next ⟨⟨rfl, le_rfl, fun _ => rfl, fun _ => Tables.defaults_ok, ?_, ?_, ?_, ?_, ?_, ?_⟩, ?_⟩
  case refine_1 => exact fun _ => (by decide : State.reset.dram.ok)
  case refine_2 => exact fun _ => (by decide +kernel : State.reset.store.ok)
  case refine_3 => exact fun _ => (by decide : State.reset.link.ok)
  case refine_4 => exact fun _ => (by decide : State.reset.print.ok)
  case refine_5 => exact fun _ => (by decide : State.reset.motS.ok)
  case refine_6 => exact fun _ => (by decide : State.reset.motP.ok)
  case refine_7 => exact fun _ => (by decide : State.reset.power.ok)

theorem execPorRelease_sound {b1 b0 : Bool} : EndsIn (Sound s) (execPorRelease b1 b0 s) :=
  .next (Sound.ite fun asserted =>
    (State.releasePor_effect (Effect.refl s)).sound fun safe => State.releasePor_pok safe asserted)

theorem execWrst_sound {b1 b0 : Bool} : EndsIn (Sound s) (execWrst b1 b0 s) := by
  refine .next ?_
  split
  · exact Sound.refl s
  · exact ⟨State.warmRestart_keeps (Keeps.refl s), State.warmRestart_pok⟩

theorem execInitEnd_sound : EndsIn (Sound s) (execInitEnd s) := by
  unfold execInitEnd
  split
  · exact .next (Effect.sound_of_power (State.withDram_effect (Effect.refl _) (Dram.enterActive_ok _ _)) rfl).of_at
  · exact .next (Sound.refl s)

theorem execTwoWireByteSent_sound {a : Bool} : EndsIn (Sound s) (execTwoWireByteSent a s) := by
  unfold execTwoWireByteSent
  split
  · exact .next ((State.byteSent_effect (Effect.refl s)).sound State.byteSent_pok)
  all_goals exact .next (Sound.refl s)

theorem execBootRetryWaitEnd_sound : EndsIn (Sound s) (execBootRetryWaitEnd s) := by
  unfold execBootRetryWaitEnd
  split
  · exact .next ((State.attemptAgain_effect (Effect.refl _)).sound id).of_at
  all_goals exact .next (Sound.refl s)

theorem execBootStreamByte_sound {b : Byte} : EndsIn (Sound s) (execBootStreamByte b s) :=
  .next (Sound.ite fun _ => ⟨State.streamByte_keeps (Keeps.refl s), State.streamByte_pok⟩)

theorem execEndOfBoot_sound : EndsIn (Sound s) (execEndOfBoot s) := by
  unfold execEndOfBoot
  split
  case h_1 complete _ =>
    simp only [State.bootComplete, Bool.and_eq_true, beq_iff_eq, Bool.not_eq_true'] at complete
    obtain ⟨⟨⟨⟨booting, released⟩, _⟩, _⟩, _⟩ := complete
    exact .next (Sound.settled ⟨State.finishBoot_keeps (Keeps.refl s), fun safe => State.finishBoot_pok safe booting released⟩)
  · exact .next (Sound.refl s)

/-! ### The link -/

theorem execHostByteWrite_sound {b : Byte} : EndsIn (Sound s) (execHostByteWrite b s) :=
  .next ⟨State.hostWrites_keeps (Keeps.refl s), State.hostWrites_pok⟩

theorem execParserByteTaken_sound : EndsIn (Sound s) (execParserByteTaken s) :=
  .next (Sound.ite fun _ => Sound.settled ⟨State.takeByte_keeps (Keeps.refl s), State.takeByte_pok⟩)

theorem execHeldRecordHandedOn_sound : EndsIn (Sound s) (execHeldRecordHandedOn s) :=
  .next (Sound.ite fun ⟨_, _, may⟩ => Sound.settled ⟨State.hand_keeps (Keeps.refl s) may, fun safe => State.hand_pok safe may⟩)

theorem execUpstreamRecordPlaced_sound : EndsIn (Sound s) (execUpstreamRecordPlaced s) := by
  unfold execUpstreamRecordPlaced
  split
  · exact .next (Sound.ite fun ⟨_, fits⟩ => Sound.settled ⟨State.place_keeps (Keeps.refl s) fits, State.place_pok⟩)
  · exact .next (Sound.refl s)

theorem State.hostReads_power (s : State) : s.hostReads.power = s.power := by
  unfold State.hostReads
  repeat' split
  all_goals rfl

theorem execHostByteRead_sound : EndsIn (Sound s) (execHostByteRead s) :=
  .next ⟨State.hostReads_keeps (Keeps.refl s), fun safe => (State.hostReads_power s).symm ▸ safe⟩

theorem State.poolTimeout_power (w : PoolWait) (s : State) : (s.poolTimeout w).power = s.power := by
  simp [State.poolTimeout, State.withWriter]

theorem execPoolWaitExpiry_sound : EndsIn (Sound s) (execPoolWaitExpiry s) := by
  unfold execPoolWaitExpiry
  split
  · exact .next (Effect.sound_of_power (State.poolTimeout_effect (Effect.refl _)) (State.poolTimeout_power _ _)).of_at.settled
  · exact .next (Sound.refl s)

/-! ### The Page Memory Controller -/

theorem State.tickNow_power (s : State) : s.tickNow.power = s.power := by
  unfold State.tickNow
  dsimp only
  split <;> rfl

theorem execRefreshTick_sound : EndsIn (Sound s) (execRefreshTick s) := by
  unfold execRefreshTick
  split
  · exact .next (Effect.sound_of_power (State.tickNow_effect (Effect.refl _)) (State.tickNow_power _)).of_at
  · exact .next (Sound.refl s)

theorem execRefreshEnd_sound : EndsIn (Sound s) (execRefreshEnd s) := by
  unfold execRefreshEnd
  split
  · exact .next (Effect.sound_of_power (State.withDram_effect (Effect.refl _) (Dram.finish_ok _)) rfl).of_at
  · exact .next (Sound.refl s)

theorem State.slotless_effect {x : State} (h : Effect s x) : Effect s x.slotless :=
  State.withDram_effect h Dram.slotless_ok

theorem execScanLineWriteEnd_sound : EndsIn (Sound s) (execScanLineWriteEnd s) := by
  unfold execScanLineWriteEnd
  split
  · exact .next (Effect.sound_of_power
      (State.endTransfer_effect (State.scanWriteOver_effect (State.slotless_effect (Effect.refl _))))
      (by simp)).of_storeBytes.of_at.settled
  · exact .next (Sound.refl s)

theorem State.fetchOver_power (r : Request) (s : State) : (s.fetchOver r).power = s.power := by
  unfold State.fetchOver
  dsimp only
  repeat' split
  all_goals simp

theorem execPrintFetchEnd_sound : EndsIn (Sound s) (execPrintFetchEnd s) := by
  unfold execPrintFetchEnd
  split
  · exact .next (Effect.sound_of_power (State.endTransfer_effect (State.fetchOver_effect (Effect.refl _)))
      (by simp [State.fetchOver_power])).of_at
  · exact .next (Sound.refl s)

theorem State.linkWritten_power (r : Request) (j : LinkJob) (s : State) : (s.linkWritten r j).power = s.power := by
  unfold State.linkWritten State.withWriter
  dsimp only
  repeat' split
  all_goals simp

theorem State.linkWriteOver_power (r : Request) (s : State) : (s.linkWriteOver r).power = s.power := by
  unfold State.linkWriteOver State.withWriter
  dsimp only
  repeat' split
  all_goals simp [State.linkWritten_power]

theorem execLinkWriteEnd_sound : EndsIn (Sound s) (execLinkWriteEnd s) := by
  unfold execLinkWriteEnd
  split
  · exact .next (Effect.sound_of_power (State.endTransfer_effect (State.linkWriteOver_effect (Effect.refl _)))
      (by simp [State.linkWriteOver_power])).of_storeBytes.of_at.settled
  · exact .next (Sound.refl s)

theorem State.linkReadOver_power (r : Request) (s : State) : (s.linkReadOver r).power = s.power := by
  unfold State.linkReadOver
  dsimp only
  repeat' split
  all_goals simp

theorem execLinkReadEnd_sound : EndsIn (Sound s) (execLinkReadEnd s) := by
  unfold execLinkReadEnd
  split
  · exact .next (Effect.sound_of_power (State.endTransfer_effect (State.linkReadOver_effect (Effect.refl _)))
      (by simp [State.linkReadOver_power])).of_at
  · exact .next (Sound.refl s)

theorem execAutoSrTimerExpiry_sound : EndsIn (Sound s) (execAutoSrTimerExpiry s) := by
  unfold execAutoSrTimerExpiry
  split
  · exact .next (Effect.sound_of_power (State.withDram_effect (Effect.refl _) (Dram.autoExpired_ok _)) rfl).of_at
  · exact .next (Sound.refl s)

theorem execSrEntryEnd_sound : EndsIn (Sound s) (execSrEntryEnd s) := by
  unfold execSrEntryEnd
  split
  · exact .next ((State.reportAsleep_effect (State.withDram_effect (Effect.refl _) (Dram.entryEnd_ok _ _))).sound
      fun safe => State.reportAsleep_pok safe).of_at
  · exact .next (Sound.refl s)

theorem execSrExitEnd_sound : EndsIn (Sound s) (execSrExitEnd s) := by
  unfold execSrExitEnd
  split
  · exact .next ((State.exitEnded_effect (Effect.refl _)).sound State.exitEnded_pok).of_at
  · exact .next (Sound.refl s)

/-! ### The Scan Unit -/

theorem execScanStartingEnd_sound : EndsIn (Sound s) (execScanStartingEnd s) := by
  unfold execScanStartingEnd
  split
  · exact .next (Effect.sound_of_power (State.scanBegin_effect (Effect.refl _)) (by simp)).of_at
  · exact .next (Sound.refl s)

theorem execReadoutEnd_sound {samples : List Byte} : EndsIn (Sound s) (execReadoutEnd samples s) := by
  unfold execReadoutEnd
  split
  · exact .next (Effect.sound_of_power (State.readoutOver_effect (Effect.refl _)) (by simp)).of_at.settled
  · exact .next (Sound.refl s)

theorem execCalibrationSettleEnd_sound : EndsIn (Sound s) (execCalibrationSettleEnd s) := by
  unfold execCalibrationSettleEnd
  split
  · exact .next (Effect.sound_of_power (State.beginReading_effect (Effect.refl _)) (by simp)).of_at
  · exact .next (Sound.refl s)

theorem State.calibrationReadout_power (c : Calibration) (samples : List Byte) (s : State) :
    (s.calibrationReadout c samples).power = s.power := by
  unfold State.calibrationReadout
  dsimp only
  split
  · rfl
  · simp

theorem execCalibrationReadoutEnd_sound {samples : List Byte} : EndsIn (Sound s) (execCalibrationReadoutEnd samples s) := by
  unfold execCalibrationReadoutEnd
  split
  · split
    · exact .next (Sound.of_at ⟨State.calibrationReadout_keeps (Keeps.refl _),
        fun safe => (State.calibrationReadout_power _ _ _).symm ▸ safe⟩).settled
    · exact .next (Sound.refl s)
  · exact .next (Sound.refl s)

/-! ### The Print Unit -/

theorem execPrintStartingEnd_sound : EndsIn (Sound s) (execPrintStartingEnd s) := by
  unfold execPrintStartingEnd
  split
  · exact .next (Effect.sound_of_power (State.startCopy_effect (Effect.refl _)) (by simp)).of_at
  · exact .next (Sound.refl s)

theorem execShiftComplete_sound : EndsIn (Sound s) (execShiftComplete s) := by
  unfold execShiftComplete
  split
  · exact .next (Effect.sound_of_power (State.shiftDone_effect (Effect.refl _)) rfl).of_at
  · exact .next (Sound.refl s)

theorem State.nextPhase_power (s : State) : s.nextPhase.power = s.power := by
  unfold State.nextPhase
  repeat' split
  all_goals simp

theorem State.pulseOver_power (s : State) : s.pulseOver.power = s.power := by
  unfold State.pulseOver
  dsimp only
  split
  · exact State.nextPhase_power s
  · rfl

theorem execStrobePulseEnd_sound : EndsIn (Sound s) (execStrobePulseEnd s) := by
  unfold execStrobePulseEnd
  split
  · exact .next (Effect.sound_of_power (State.pulseOver_effect (Effect.refl _)) (State.pulseOver_power _)).of_at.settled
  · exact .next (Sound.refl s)

theorem execStrobeRecoveryEnd_sound : EndsIn (Sound s) (execStrobeRecoveryEnd s) := by
  unfold execStrobeRecoveryEnd
  split
  · exact .next (Effect.sound_of_power (State.nextPhase_effect (Effect.refl _)) (State.nextPhase_power _)).of_at.settled
  · exact .next (Sound.refl s)

theorem execCutTimeEnd_sound : EndsIn (Sound s) (execCutTimeEnd s) := by
  unfold execCutTimeEnd
  split
  · exact .next (Effect.sound_of_power (State.leaveCut_effect (Effect.refl _)) (by simp)).of_at.settled
  · exact .next (Sound.refl s)

/-! ### The Motor Timing Unit -/

/-- A channel's record replaced by one with the same phase index. -/
theorem State.withMot_sound {m : Motor} {c : Channel} (phase : c.phase = (s.mot m).phase) : Sound s (s.withMot m c) :=
  Effect.sound_of_power (State.withMot_effect (Effect.refl s) fun safe => by simpa [Channel.ok, phase] using safe) (by simp)

theorem execStepEvent_sound {m : Motor} {pin : Bool} : EndsIn (Sound s) (execStepEvent m pin s) := by
  unfold execStepEvent
  split
  · exact .next (Sound.ite fun _ =>
      (Effect.sound_of_power (State.stepNow_effect (Effect.refl _)) (by simp)).of_at.settled)
  · exact .next (Sound.refl s)

theorem execSettleEnd_sound {m : Motor} : EndsIn (Sound s) (execSettleEnd m s) := by
  unfold execSettleEnd
  split
  · exact .next (State.withMot_sound (by simp)).of_at
  · exact .next (Sound.refl s)

theorem execFeedPowerSettleEnd_sound {m : Motor} : EndsIn (Sound s) (execFeedPowerSettleEnd m s) := by
  unfold execFeedPowerSettleEnd
  split
  · exact .next (State.withMot_sound (by simp)).of_at
  · exact .next (Sound.refl s)

theorem execNonoverlapGapEnd_sound {m : Motor} : EndsIn (Sound s) (execNonoverlapGapEnd m s) := by
  unfold execNonoverlapGapEnd
  split
  · exact .next (State.withMot_sound (by simp)).of_at
  · exact .next (Sound.refl s)

theorem execHoldTimeout_sound {m : Motor} : EndsIn (Sound s) (execHoldTimeout m s) := by
  unfold execHoldTimeout
  split
  · exact .next (State.withMot_sound (by simp)).of_at.settled
  · exact .next (Sound.refl s)

/-! ### The Sensor Monitor -/

theorem execRoundStart_sound : EndsIn (Sound s) (execRoundStart s) := by
  unfold execRoundStart
  split
  · exact .next (Effect.sound_of_power (State.startRound_effect (Effect.refl _)) (by simp)).of_at.settled
  · exact .next (Sound.refl s)

theorem execConverterTransactionEnd_sound {raw : Byte} : EndsIn (Sound s) (execConverterTransactionEnd raw s) := by
  unfold execConverterTransactionEnd
  split
  · exact .next (Effect.sound_of_power (State.transactionOver_effect (Effect.refl _))
      (by simp [State.transactionOver])).of_at.settled
  · exact .next (Sound.refl s)

theorem execInputSample_sound {pins : BitVec 6} : EndsIn (Sound s) (execInputSample pins s) := by
  unfold execInputSample
  split
  · exact .next ((State.inputsNow_effect (Effect.refl _)).sound fun safe => State.sampleInputs_pok safe).of_at.settled
  · exact .next (Sound.refl s)

/-! ### Power states -/

theorem execStandbyTimerExpiry_sound : EndsIn (Sound s) (execStandbyTimerExpiry s) := by
  unfold execStandbyTimerExpiry
  split
  case h_1 d running _ =>
    exact .next (Sound.of_at (d := d)
      ((State.enterStandby_effect (Effect.refl _)).sound fun safe => State.enterStandby_pok safe running))
  · exact .next (Sound.refl s)

/-- The sleep timer stopped. -/
theorem Power.stopSleepTimer_ok {p : Power} (h : p.ok) : ({ p with sleepTimer := none } : Power).ok := by
  obtain ⟨h1, h2, h3, h4, h5, _, h7⟩ := h
  exact ⟨h1, h2, h3, h4, h5, by simp, h7⟩

theorem execSleepTimerExpiry_sound : EndsIn (Sound s) (execSleepTimerExpiry s) := by
  unfold execSleepTimerExpiry
  split
  case h_1 d standing _ =>
    exact .next (Sound.of_at (d := d) ((State.askSleep_effect (State.withPower_effect (Effect.refl _))).sound fun safe =>
      State.askSleep_pok (Power.stopSleepTimer_ok safe) (.inr standing)))
  · exact .next (Sound.refl s)

theorem execSleepDeadlineExpiry_sound : EndsIn (Sound s) (execSleepDeadlineExpiry s) := by
  unfold execSleepDeadlineExpiry
  split
  · exact .next ((State.abandonSleep_effect (Effect.refl _)).sound State.abandonSleep_pok).of_at.settled
  · exact .next (Sound.refl s)

theorem State.beforeStepThree_iff : s.beforeStepThree = true ↔ s.power.state = .enteringSleep ∧ s.power.drdyDropped = false := by
  simp [State.beforeStepThree]

/-- R197: step 3 of an entry to sleep. -/
theorem State.dropDrdy_sound (h : s.beforeStepThree = true) : Sound s s.dropDrdy :=
  (State.dropDrdy_effect (Effect.refl s)).sound fun safe => State.dropDrdy_pok safe (State.beforeStepThree_iff.1 h).1

theorem execDownstreamReadyDrop_sound : EndsIn (Sound s) (execDownstreamReadyDrop s) :=
  .next (Sound.ite fun ⟨before, _⟩ => State.dropDrdy_sound before)

theorem execDrdyDropBoundExpiry_sound : EndsIn (Sound s) (execDrdyDropBoundExpiry s) := by
  unfold execDrdyDropBoundExpiry
  split
  case h_1 before _ => exact .next (Sound.of_at (State.dropDrdy_sound before))
  · exact .next (Sound.refl s)

theorem execSleepOrder_sound : EndsIn (Sound s) (execSleepOrder s) :=
  .next (Sound.ite fun ⟨entering, dropped, _⟩ =>
    (State.giveSleepOrder_effect (Effect.refl s)).sound fun safe => State.giveSleepOrder_pok safe entering dropped)

theorem execWakeTimerExpiry_sound : EndsIn (Sound s) (execWakeTimerExpiry s) := by
  unfold execWakeTimerExpiry
  split
  case h_1 d asleep _ =>
    exact .next (Sound.of_at (d := d)
      ((State.startWaking_effect (Effect.refl _)).sound fun safe => State.startWaking_pok safe asleep))
  · exact .next (Sound.refl s)

/-! ### Every command -/

/-- Every command answers a next state and keeps every part of a safe state. -/
theorem exec_sound (c : Instr) (s : State) : EndsIn (Sound s) (exec c s) := by
  cases c with
  | powerOnReset => exact execPowerOnReset_sound
  | porRelease => exact execPorRelease_sound
  | wrst => exact execWrst_sound
  | initEnd => exact execInitEnd_sound
  | twoWireByteSent => exact execTwoWireByteSent_sound
  | bootRetryWaitEnd => exact execBootRetryWaitEnd_sound
  | bootStreamByte => exact execBootStreamByte_sound
  | endOfBoot => exact execEndOfBoot_sound
  | hostByteWrite => exact execHostByteWrite_sound
  | parserByteTaken => exact execParserByteTaken_sound
  | heldRecordHandedOn => exact execHeldRecordHandedOn_sound
  | upstreamRecordPlaced => exact execUpstreamRecordPlaced_sound
  | hostByteRead => exact execHostByteRead_sound
  | openPage tag page kind mode width resolution retain label =>
    exact .next (State.handedOn_sound (.openPage tag page kind mode width resolution retain label))
  | closePage tag page => exact .next (State.handedOn_settled_sound (.closePage tag page))
  | releasePage tag page => exact .next (State.handedOn_sound (.releasePage tag page))
  | queryPage tag page => exact .next (State.handedOn_sound (.queryPage tag page))
  | queryPool tag => exact .next (State.handedOn_sound (.queryPool tag))
  | scan tag page resolution mode retain label source pattern lineCount =>
    exact .next (State.handedOn_settled_sound (.scan tag page resolution mode retain label source pattern lineCount))
  | cancelScan tag => exact .next (State.handedOn_settled_sound (.cancelScan tag))
  | shade tag => exact .next (State.handedOn_settled_sound (.shade tag))
  | print tag page copies => exact .next (State.handedOn_settled_sound (.print tag page copies))
  | cancelPrint tag page => exact .next (State.handedOn_settled_sound (.cancelPrint tag page))
  | resumePrint tag => exact .next (State.handedOn_settled_sound (.resumePrint tag))
  | readPage tag page start count => exact .next (State.handedOn_settled_sound (.readPage tag page start count))
  | cancelRead tag page => exact .next (State.handedOn_settled_sound (.cancelRead tag page))
  | feed tag channel steps => exact .next (State.handedOn_settled_sound (.feed tag channel steps))
  | loadTable tag table start entries => exact .next (State.handedOn_sound (.loadTable tag table start entries))
  | readTable tag table start count => exact .next (State.handedOn_sound (.readTable tag table start count))
  | standby tag => exact .next (State.handedOn_sound (.standby tag))
  | sleep tag => exact .next (State.handedOn_sound (.sleep tag))
  | queryStatus tag => exact .next (State.handedOn_sound (.queryStatus tag))
  | restart tag => exact .next (State.handedOn_settled_sound (.restart tag))
  | queryMemory tag => exact .next (State.handedOn_sound (.queryMemory tag))
  | line page data => exact .next (State.handedOn_sound (.line page data))
  | block page data => exact .next (State.handedOn_sound (.block page data))
  | poolWaitExpiry => exact execPoolWaitExpiry_sound
  | refreshTick => exact execRefreshTick_sound
  | refreshEnd => exact execRefreshEnd_sound
  | scanLineWriteEnd => exact execScanLineWriteEnd_sound
  | printFetchEnd => exact execPrintFetchEnd_sound
  | linkWriteEnd => exact execLinkWriteEnd_sound
  | linkReadEnd => exact execLinkReadEnd_sound
  | autoSrTimerExpiry => exact execAutoSrTimerExpiry_sound
  | srEntryEnd => exact execSrEntryEnd_sound
  | srExitEnd => exact execSrExitEnd_sound
  | scanStartingEnd => exact execScanStartingEnd_sound
  | readoutEnd => exact execReadoutEnd_sound
  | calibrationSettleEnd => exact execCalibrationSettleEnd_sound
  | calibrationReadoutEnd => exact execCalibrationReadoutEnd_sound
  | printStartingEnd => exact execPrintStartingEnd_sound
  | shiftComplete => exact execShiftComplete_sound
  | strobePulseEnd => exact execStrobePulseEnd_sound
  | strobeRecoveryEnd => exact execStrobeRecoveryEnd_sound
  | cutTimeEnd => exact execCutTimeEnd_sound
  | stepEvent => exact execStepEvent_sound
  | settleEnd => exact execSettleEnd_sound
  | feedPowerSettleEnd => exact execFeedPowerSettleEnd_sound
  | nonoverlapGapEnd => exact execNonoverlapGapEnd_sound
  | holdTimeout => exact execHoldTimeout_sound
  | roundStart => exact execRoundStart_sound
  | converterTransactionEnd => exact execConverterTransactionEnd_sound
  | inputSample => exact execInputSample_sound
  | standbyTimerExpiry => exact execStandbyTimerExpiry_sound
  | sleepTimerExpiry => exact execSleepTimerExpiry_sound
  | sleepDeadlineExpiry => exact execSleepDeadlineExpiry_sound
  | downstreamReadyDrop => exact execDownstreamReadyDrop_sound
  | drdyDropBoundExpiry => exact execDrdyDropBoundExpiry_sound
  | sleepOrder => exact execSleepOrder_sound
  | wakeTimerExpiry => exact execWakeTimerExpiry_sound

/-! ### Steps -/

/-- What a step keeps of a safe state: the front command's step does not touch the queue's rest, and idling moves the clock alone. -/
theorem step_sound (h : step s = .next t) : ∃ rest, Sound (s.withPending rest) t := by
  unfold step at h
  split at h
  case h_1 =>
    cases h
    exact ⟨s.pending, ⟨⟨rfl, Nat.le_succ _, id, id, id, id, id, id, id, id⟩, id⟩⟩
  case h_2 c rest _ =>
    obtain ⟨u, answered, sound⟩ := exec_sound c (s.withPending rest)
    cases answered.symm.trans h
    exact ⟨rest, sound⟩

/-! ### The obligations -/

/-- Settles O3, from what a step keeps of a safe state. -/
theorem memoryStaysCanonical : Obligations.MemoryStaysCanonical := by
  intro s t safe stepped
  obtain ⟨_, sound⟩ := step_sound stepped
  exact sound.keeps.mem safe

/-- Settles O4, from what a step keeps of a safe state. -/
theorem bandsStayAccounted : Obligations.BandsStayAccounted := by
  intro s t safe stepped
  obtain ⟨_, sound⟩ := step_sound stepped
  exact sound.keeps.store safe

/-- Settles O5, from what a step keeps of a safe state. -/
theorem tablesStayInRange : Obligations.TablesStayInRange := by
  intro s t safe stepped
  obtain ⟨_, sound⟩ := step_sound stepped
  exact sound.keeps.tables safe

/-- Settles O6, from what a step keeps of a safe state. -/
theorem queuesAndCountsStayBounded : Obligations.QueuesAndCountsStayBounded := by
  intro s t stepped
  obtain ⟨_, sound⟩ := step_sound stepped
  exact ⟨sound.keeps.link, sound.keeps.print, sound.keeps.dram, sound.keeps.motS, sound.keeps.motP⟩

/-- Settles O7, from what a step keeps of a safe state. -/
theorem powerRecordStaysConsistent : Obligations.PowerRecordStaysConsistent := by
  intro s t safe stepped
  obtain ⟨_, sound⟩ := step_sound stepped
  exact sound.power safe

/-- Settles O2: each command's meaning ends in a next state that keeps the queue and the direction of time. -/
theorem everyCommandCompletes : Obligations.EveryCommandCompletes := by
  intro c s
  obtain ⟨t, answered, sound⟩ := exec_sound c s
  exact ⟨t, answered, sound.keeps.pending, sound.keeps.now⟩

/-- Settles O1, from the two equations of `step`. -/
theorem stepTakesFrontCommand : Obligations.StepTakesFrontCommand := by
  refine ⟨fun _ _ _ => rfl, fun s empty => ?_⟩
  unfold step
  split
  case h_1 => rfl
  case h_2 waiting => cases empty.symm.trans waiting

end Sys2Proof.Machine

/-! Records of the link (R139 to R142, R206): decoding is the inverse of encoding, and the parser delivers a record taken byte by byte. -/

namespace Sys2Proof

/-! ### Encoding and decoding (R206, 13.3) -/

theorem half_halfBytes (h : Half) : half (h.extractLsb' 8 8) (h.extractLsb' 0 8) = h := by
  unfold half
  ext i hi
  simp only [BitVec.getElem_append, BitVec.getElem_extractLsb', Nat.zero_add]
  split
  · simp [BitVec.getLsbD_eq_getElem hi]
  · simp [show 8 + (i - 8) = i by omega, BitVec.getLsbD_eq_getElem hi]

theorem offset_offsetBytes (o : Offset) :
    offset (o.extractLsb' 16 8) (o.extractLsb' 8 8) (o.extractLsb' 0 8) = o := by
  unfold offset
  ext i hi
  simp only [BitVec.getElem_append, BitVec.getElem_extractLsb', Nat.zero_add]
  split
  · simp [BitVec.getLsbD_eq_getElem hi]
  · split
    · simp [show 8 + (i - 8) = i by omega, BitVec.getLsbD_eq_getElem hi]
    · simp [show 16 + (i - 8 - 8) = i by omega, BitVec.getLsbD_eq_getElem hi]

/-- R140, R206: the record of a well-formed command has a known KIND and a payload within the limit. -/
theorem commandRecord_bounds (i : Instr) : Laws.Encodes.Statement i := by
  cases i with
  | openPage => apply Laws.Encodes.openPage
  | closePage => apply Laws.Encodes.closePage
  | releasePage => apply Laws.Encodes.releasePage
  | queryPage => apply Laws.Encodes.queryPage
  | queryPool => apply Laws.Encodes.queryPool
  | scan => apply Laws.Encodes.scan
  | cancelScan => apply Laws.Encodes.cancelScan
  | shade => apply Laws.Encodes.shade
  | print => apply Laws.Encodes.print
  | cancelPrint => apply Laws.Encodes.cancelPrint
  | resumePrint => apply Laws.Encodes.resumePrint
  | readPage => apply Laws.Encodes.readPage
  | cancelRead => apply Laws.Encodes.cancelRead
  | feed => apply Laws.Encodes.feed
  | loadTable => apply Laws.Encodes.loadTable
  | readTable => apply Laws.Encodes.readTable
  | standby => apply Laws.Encodes.standby
  | sleep => apply Laws.Encodes.sleep
  | queryStatus => apply Laws.Encodes.queryStatus
  | restart => apply Laws.Encodes.restart
  | queryMemory => apply Laws.Encodes.queryMemory
  | line => apply Laws.Encodes.line
  | block => apply Laws.Encodes.block
  | _ => exact Laws.Encodes.of_none rfl

/-- The payload of a command's record decodes to the command. -/
theorem decodeCommand_commandRecord {i : Instr} {kind tag : Byte} {payload : List Byte} (wellFormed : i.wellFormed = true)
    (record : commandRecord i = some (kind, tag, payload)) : decodeCommand kind tag payload = some i := by
  cases i with
  | openPage tag p k m w r f l =>
    cases record
    change some (Instr.openPage _ _ _ _ (half _ _) _ _ (half _ _)) = _
    rw [half_halfBytes, half_halfBytes]
  | scan tag p r m f l src pat c =>
    cases record
    change some (Instr.scan _ _ _ _ _ (half _ _) _ _ (half _ _)) = _
    rw [half_halfBytes, half_halfBytes]
  | readPage tag p st c =>
    cases record
    change some (Instr.readPage _ _ (offset _ _ _) (offset _ _ _)) = _
    rw [offset_offsetBytes, offset_offsetBytes]
  | feed tag c n =>
    cases record
    change some (Instr.feed _ _ (half _ _)) = _
    rw [half_halfBytes]
  | loadTable tag t st es =>
    simp only [Instr.wellFormed, Bool.and_eq_true] at wellFormed
    cases record
    change (if loadFits t.toNat es.length then some (Instr.loadTable _ _ (half _ _) _) else none) = _
    rw [half_halfBytes, if_pos wellFormed.1]
    rfl
  | readTable tag t st c =>
    cases record
    change some (Instr.readTable _ _ (half _ _) (half _ _)) = _
    rw [half_halfBytes, half_halfBytes]
  | _ => cases record <;> rfl

/-- A data record has a page number, at least. -/
theorem commandRecord_data {i : Instr} {kind tag : Byte} {payload : List Byte}
    (record : commandRecord i = some (kind, tag, payload)) (data : recordClass kind = .data) : payload ≠ [] := by
  cases i with
  | line => cases record; simp
  | block => cases record; simp
  | _ => cases record <;> exact absurd data (by decide)

/-- R206: the five bytes of a header with its LENGTH complete. -/
theorem headerBytes_eq (kind tag : Byte) (n : Nat) : headerBytes kind tag n =
    [syncByte, kind, tag, (BitVec.ofNat 16 n).extractLsb' 8 8, (BitVec.ofNat 16 n).extractLsb' 0 8] := rfl

theorem encodeRecord_eq_some {i : Instr} {bytes : List Byte} : encodeRecord i = some bytes ↔
    ∃ kind tag payload, commandRecord i = some (kind, tag, payload) ∧ bytes = headerBytes kind tag payload.length ++ payload := by
  simp [encodeRecord, eq_comm]

end Sys2Proof

namespace Sys2Proof.Machine

/-- Settles O9: the header's LENGTH is the payload's, and the payload decodes to its command. -/
theorem recordsRoundTrip : Obligations.RecordsRoundTrip := by
  intro i bytes wellFormed encoded
  obtain ⟨kind, tag, payload, record, rfl⟩ := encodeRecord_eq_some.1 encoded
  obtain ⟨_, short⟩ := commandRecord_bounds i wellFormed _ record
  have fits : payload.length % 65536 = payload.length := Nat.mod_eq_of_lt (short.trans_lt (by decide))
  rw [headerBytes_eq, List.cons_append, List.cons_append, List.cons_append, List.cons_append, List.cons_append,
    List.nil_append]
  simp only [decodeRecord, half_halfBytes, BitVec.toNat_ofNat]
  rw [if_pos ⟨trivial, fits, short⟩, decodeCommand_commandRecord wellFormed record]

/-- Settles O10, by running the decoder on each record. -/
theorem handWrittenRecordsDecode : Obligations.HandWrittenRecordsDecode := by
  unfold Obligations.HandWrittenRecordsDecode
  decide

/-! ### The parser (R139, R140) -/

/-- The part with its parser in a state and with bytes left to take. -/
def State.parsing (s : State) (down : List Byte) (p : Parser) : State :=
  { s with link := { s.link with down := down, parser := p } }

section

variable (s : State)

theorem headerLength_headerBytes {kind tag : Byte} {n : Nat} (h : n < 65536) : headerLength (headerBytes kind tag n) = n := by
  rw [headerBytes_eq]
  simp only [headerLength, half_halfBytes, BitVec.toNat_ofNat]
  exact Nat.mod_eq_of_lt h

/-- R139: SYNC begins a header, in HUNT and at a record boundary. -/
theorem State.takeByte_sync (down : List Byte) {p : Parser} (boundary : p = Parser.reset ∨ p = Parser.ready) :
    (s.parsing (syncByte :: down) p).takeByte = s.parsing down { Parser.ready with header := [syncByte] } := by
  rcases boundary with rfl | rfl
  · rfl
  · rfl

/-- R139: a byte of a header that is not its last. -/
theorem State.takeByte_header (b : Byte) (down : List Byte) {h : List Byte} (begun : h ≠ []) (short : h.length < 4) :
    (s.parsing (b :: down) { Parser.ready with header := h }).takeByte = s.parsing down { Parser.ready with header := h ++ [b] } := by
  have positive : 0 < h.length := List.length_pos_iff.2 begun
  change (s.parsing down { Parser.ready with header := h }).headerByte b = _
  unfold State.headerByte
  change (if (h ++ [b]).length = 1 ∧ _ then _ else if (h ++ [b]).length < 5 then _ else _) = _
  simp only [List.length_append, List.length_singleton]
  rw [if_neg (by omega), if_pos (by omega)]
  rfl

/-- R140: the header's last byte, with a LENGTH within the limit. -/
theorem State.takeByte_header_last (b : Byte) (down : List Byte) {h : List Byte} (full : h.length = 4)
    (short : headerLength (h ++ [b]) ≤ Config.maxPayload) :
    (s.parsing (b :: down) { Parser.ready with header := h }).takeByte =
      if headerLength (h ++ [b]) = 0 then
        (s.parsing down { Parser.ready with header := h }).recordComplete { Parser.ready with header := h ++ [b] }
      else s.parsing down { Parser.ready with header := h ++ [b], state := .payload } := by
  have later : ¬((h ++ [b]).length = 1 ∧ b ≠ syncByte) := by simp [full]
  have complete : ¬(h ++ [b]).length < 5 := by simp [full]
  change (if (h ++ [b]).length = 1 ∧ b ≠ syncByte then _ else if (h ++ [b]).length < 5 then _ else
    if Config.maxPayload < headerLength (h ++ [b]) then _ else _) = _
  rw [if_neg later, if_neg complete, if_neg (Nat.not_lt.2 short)]
  rfl

/-- The parser in PAYLOAD, of a known record. -/
def Parser.inPayload (h : List Byte) (taken : Nat) (buffer : List Byte) : Parser where
  state := .payload
  header := h
  taken := taken
  buffer := buffer

/-- R140: a payload byte of a record of a known KIND. -/
theorem State.takeByte_payload (b : Byte) (down h buffer : List Byte) (taken : Nat)
    (known : recordClass (headerKind h) ≠ .unknown) :
    (s.parsing (b :: down) (Parser.inPayload h taken buffer)).takeByte =
      if headerLength h ≤ taken + 1 then
        (s.parsing down (Parser.inPayload h taken buffer)).recordComplete (Parser.inPayload h (taken + 1) (buffer ++ [b]))
      else s.parsing down (Parser.inPayload h (taken + 1) (buffer ++ [b])) := by
  change (s.parsing down (Parser.inPayload h taken buffer)).payloadByte b = _
  unfold State.payloadByte
  let kept := if recordClass (headerKind h) = .unknown then buffer else buffer ++ [b]
  have all : kept = buffer ++ [b] := if_neg known
  change (if headerLength h ≤ taken + 1 then State.recordComplete _ (Parser.inPayload h (taken + 1) kept)
    else State.withParser _ (Parser.inPayload h (taken + 1) kept)) = _
  rw [all]
  rfl

/-- R140: the payload's bytes complete the record. What the parser was before is forgotten then. -/
theorem State.takeBytes_payload (rest h : List Byte) (known : recordClass (headerKind h) ≠ .unknown) : ∀ (bytes : List Byte)
    (taken : Nat) (buffer : List Byte), bytes ≠ [] → taken + bytes.length = headerLength h →
    ∃ p : Parser, State.takeByte^[bytes.length] (s.parsing (bytes ++ rest) (Parser.inPayload h taken buffer)) =
      (s.parsing rest p).recordComplete (Parser.inPayload h (headerLength h) (buffer ++ bytes))
  | [], _, _, nonempty, _ => absurd rfl nonempty
  | [b], taken, buffer, _, length => by
    refine ⟨Parser.inPayload h taken buffer, ?_⟩
    simp only [List.length_singleton] at length
    rw [List.length_singleton, Function.iterate_one, List.singleton_append, State.takeByte_payload s _ _ _ _ _ known,
      if_pos (by omega), ← length]
  | b :: c :: bytes, taken, buffer, _, length => by
    simp only [List.length_cons] at length
    obtain ⟨p, ih⟩ := State.takeBytes_payload rest h known (c :: bytes) (taken + 1) (buffer ++ [b]) (List.cons_ne_nil _ _)
      (by simp only [List.length_cons]; omega)
    refine ⟨p, ?_⟩
    rw [List.length_cons, Function.iterate_succ_apply, List.cons_append, State.takeByte_payload s _ _ _ _ _ known,
      if_neg (by omega), ih, List.append_assoc, List.singleton_append]

/-- R140 to R142: the complete record of a command whose condition holds is handed on. -/
theorem State.recordComplete_command {i : Instr} {p : Parser} (command : p.handed = .command i)
    (hasPage : ¬ (recordClass (headerKind p.header) = .data ∧ headerLength p.header = 0)) (takes : s.takes i = true) :
    s.recordComplete p = (s.withParser Parser.ready).deliver i := by
  unfold State.recordComplete
  rw [if_neg hasPage, command, if_pos (show s.mayHand (.command i) = true from takes)]
  rfl

/-- R140: what the complete record of a known KIND comes to. -/
theorem Parser.handed_command {i : Instr} {p : Parser} {kind tag : Byte} {n : Nat} (header : p.header = headerBytes kind tag n)
    (known : recordClass kind ≠ .unknown) (decoded : decodeCommand kind tag p.buffer = some i) : p.handed = .command i := by
  have hkind : headerKind p.header = kind := by rw [header]; rfl
  have htag : p.header[2]?.getD 0#8 = tag := by rw [header]; rfl
  unfold Parser.handed
  rw [hkind, htag]
  dsimp only
  rw [if_neg known, decoded]

/-- R139, R140: the bytes of a header up to the last of LENGTH. -/
theorem State.takeBytes_header (kind tag hi : Byte) (down : List Byte) {p : Parser}
    (boundary : p = Parser.reset ∨ p = Parser.ready) :
    State.takeByte^[4] (s.parsing (syncByte :: kind :: tag :: hi :: down) p) =
      s.parsing down { Parser.ready with header := [syncByte, kind, tag, hi] } := by
  rw [Function.iterate_succ_apply, State.takeByte_sync s _ boundary, Function.iterate_succ_apply,
    State.takeByte_header s _ _ (by simp) (by simp), Function.iterate_succ_apply,
    State.takeByte_header s _ _ (by simp) (by simp), Function.iterate_one,
    State.takeByte_header s _ _ (by simp) (by simp)]
  rfl

/-- R139 to R141: the bytes of a whole record complete it. -/
theorem State.takeBytes_record {kind tag : Byte} {payload rest : List Byte} {p : Parser}
    (boundary : p = Parser.reset ∨ p = Parser.ready) (known : recordClass kind ≠ .unknown)
    (short : payload.length ≤ Config.maxPayload) :
    ∃ q r : Parser, r.header = headerBytes kind tag payload.length ∧ r.buffer = payload ∧
      State.takeByte^[5 + payload.length] (s.parsing (headerBytes kind tag payload.length ++ payload ++ rest) p) =
        (s.parsing rest q).recordComplete r := by
  have length : headerLength (headerBytes kind tag payload.length) = payload.length :=
    headerLength_headerBytes (short.trans_lt (by decide))
  have begun : ∃ q, State.takeByte^[5] (s.parsing (headerBytes kind tag payload.length ++ payload ++ rest) p) =
      if payload.length = 0 then
        (s.parsing (payload ++ rest) q).recordComplete { Parser.ready with header := headerBytes kind tag payload.length }
      else s.parsing (payload ++ rest) (Parser.inPayload (headerBytes kind tag payload.length) 0 []) := by
    refine ⟨{ Parser.ready with header := [syncByte, kind, tag, (BitVec.ofNat 16 payload.length).extractLsb' 8 8] }, ?_⟩
    rw [Function.iterate_succ_apply' State.takeByte 4, headerBytes_eq, List.append_assoc, List.cons_append, List.cons_append,
      List.cons_append, List.cons_append, State.takeBytes_header s _ _ _ _ boundary, List.singleton_append,
      State.takeByte_header_last s _ _ rfl (length.trans_le short)]
    change (if headerLength (headerBytes kind tag payload.length) = 0 then _ else _) = _
    rw [length]
    rfl
  obtain ⟨q, begun⟩ := begun
  rw [Nat.add_comm, Function.iterate_add_apply, begun]
  by_cases empty : payload = []
  · subst empty
    exact ⟨q, { Parser.ready with header := headerBytes kind tag 0 }, rfl, rfl, rfl⟩
  · have positive : payload.length ≠ 0 := fun h => empty (List.length_eq_zero_iff.1 h)
    obtain ⟨q, taken⟩ := State.takeBytes_payload s rest (headerBytes kind tag payload.length) known payload 0 [] empty
      (by rw [length]; omega)
    rw [if_neg positive, taken]
    exact ⟨q, _, rfl, rfl, rfl⟩

end

/-- Settles O11: the header's bytes, then the payload's, complete the record, which is handed on. -/
theorem parserDeliversWholeRecord : Obligations.ParserDeliversWholeRecord := by
  intro i bytes rest s wellFormed encoded downstream boundary takes
  obtain ⟨kind, tag, payload, record, rfl⟩ := encodeRecord_eq_some.1 encoded
  obtain ⟨known, short⟩ := commandRecord_bounds i wellFormed _ record
  obtain ⟨q, r, header, buffer, taken⟩ := s.takeBytes_record (tag := tag) (rest := rest) boundary known short
  have here : s.parsing (headerBytes kind tag payload.length ++ payload ++ rest) s.link.parser = s := by
    rw [← downstream]; rfl
  have length : (headerBytes kind tag payload.length ++ payload).length = 5 + payload.length := by
    rw [List.length_append, headerBytes_eq]; rfl
  have decoded : decodeCommand kind tag r.buffer = some i := by
    rw [buffer]; exact decodeCommand_commandRecord wellFormed record
  rw [here] at taken
  rw [length, taken, State.recordComplete_command (s.parsing rest q) (Parser.handed_command header known decoded) ?hasPage takes]
  · rfl
  case hasPage =>
    rintro ⟨data, none⟩
    rw [header] at data none
    rw [headerLength_headerBytes (short.trans_lt (by decide))] at none
    exact commandRecord_data record data (List.length_eq_zero_iff.1 none)

end Sys2Proof.Machine

/-! Resets and the boot (11.7, 11.8). -/

namespace Sys2Proof.Machine

/-! ### Power-on reset (R201, R205) -/

theorem State.reset_safe : State.reset.Safe where
  mem := rfl
  tables := Tables.defaults_ok
  dram := by decide
  store := by decide +kernel
  link := by decide
  print := by decide
  motS := by decide
  motP := by decide
  power := by decide

/-- Settles O8: the reset state is one value, and each of its fields is read off. -/
theorem resetLeaves : Obligations.ResetLeaves := by
  refine ⟨State.reset_safe, ?power, ?outputs, ?pages, ?controller, ?units, ?monitor, ?link, rfl⟩
  case power => decide
  case outputs => decide
  case pages => decide +kernel
  case controller => decide
  case units => decide
  case monitor => decide
  case link => decide

/-- Settles O12: POR's release by the two straps. -/
theorem powerOnResetAndRelease : Obligations.PowerOnResetAndRelease := by
  refine ⟨fun _ => rfl, fun b1 b0 s asserted => ?_⟩
  have released : exec (.porRelease b1 b0) s = .next (s.releasePor b1 b0) :=
    congrArg Host.Outcome.next (if_pos asserted)
  rw [released]
  cases b1 <;> cases b0 <;> rfl

/-! ### Warm resets (R124, R205) -/

/-- Refutes O13: a channel's warm reset halts it, and a halt leaves a channel that is OFF as it is. The statement has no premise
that a channel that is OFF has its coils off. -/
theorem not_warmReset : ¬ Obligations.WarmReset := by
  intro holds
  let live : State := { State.reset with
    power := { Power.reset with por := false }
    motS := { Channel.reset with coils := 1#4 } }
  have coils : ∀ t, exec (.wrst false false) live = .next t → (t.mot .s).coils = 1#4 := by
    intro t answered
    cases answered
    decide
  obtain ⟨t, answered, _, _, _, _, _, _, _, _, _, _, _, _, _, _, _, _, _, _, _, _, off, _⟩ := holds false false live rfl
  exact absurd ((off .s).1.symm.trans (coils t answered)) (by decide)

/-- Refutes O14, by a channel that is OFF with a coil on, as O13. -/
theorem not_restartResets : ¬ Obligations.RestartResets := by
  intro holds
  let live : State := { State.reset with
    power := { Power.reset with por := false, state := .run, hrsto := false }
    motS := { Channel.reset with coils := 1#4 } }
  have coils : ∀ t, exec (.restart 0#8) live = .next t → (t.mot .s).coils = 1#4 := by
    intro t answered
    cases answered
    decide +kernel
  obtain ⟨t, answered, _, _, _, _, _, _, _, _, _, _, _, _, _, _, _, _, off, _⟩ :=
    holds 0#8 live (by decide) rfl (by decide) (by decide)
  exact absurd ((off .s).1.symm.trans (coils t answered)) (by decide)

/-! ### The two-wire master (R202) -/

theorem BootSource.signs_first : BootSource.oneByte.signs 0 = [.start, .byte 0xA0#8] ∧
    BootSource.twoByte.signs 0 = [.start, .byte 0xA0#8] ∧ BootSource.absent.signs 0 = [] := by decide

/-- R202: how many bytes follow the first in an attempt. -/
def BootSource.lastByte (b : BootSource) : Nat := if b = .oneByte then 2 else 3

theorem BootSource.sends_eq {b : BootSource} (h : b = .oneByte ∨ b = .twoByte) : b.sends = b.lastByte + 1 := by
  rcases h with rfl | rfl <;> rfl

/-- R202: the bytes behind the first of an attempt. -/
theorem BootSource.signs_next {b : BootSource} (h : b = .oneByte ∨ b = .twoByte) {n : Nat} (inside : n < b.lastByte) :
    b.signs (n + 1) = if n + 1 = b.lastByte then [.start, .byte 0xA1#8] else [.byte 0x00#8] := by
  rcases h with rfl | rfl
  · have : ∀ n < 2, BootSource.oneByte.signs (n + 1) = if n + 1 = 2 then [.start, .byte 0xA1#8] else [.byte 0x00#8] := by decide
    exact this n inside
  · have : ∀ n < 3, BootSource.twoByte.signs (n + 1) = if n + 1 = 3 then [.start, .byte 0xA1#8] else [.byte 0x00#8] := by decide
    exact this n inside

/-- R202: a byte of an attempt has been sent. -/
theorem State.byteSent_eq {n : Nat} {acknowledged : Bool} {s : State} {b : BootSource} (source : s.power.boot.source = some b)
    (known : b = .oneByte ∨ b = .twoByte) :
    let counted := { s.power.boot with attempts := s.power.boot.attempts + 1 }
    s.byteSent n acknowledged = s.withPower
      (if acknowledged = true ∧ n < b.lastByte then
        { s.power with
          twoWire := .sending (n + 1)
          wire := if n + 1 = b.lastByte then [.start, .byte 0xA1#8] else [.byte 0x00#8] }
      else if acknowledged = true then { s.power with twoWire := .reading, wire := [], boot := counted }
      else if s.power.boot.attempts < 3 then
        { s.power with twoWire := .waiting (s.now + 200000), wire := [.stop], boot := counted }
      else { s.power with twoWire := .idle, wire := [.stop], boot := { counted with outcome := some .noDevice } }) := by
  unfold State.byteSent
  simp only [source, Option.getD_some, BootSource.sends_eq known, Nat.add_lt_add_iff_right]
  cases acknowledged with
  | true =>
    by_cases inside : n < b.lastByte
    · simp [inside, BootSource.signs_next known inside]
    · simp [inside]
  | false =>
    by_cases few : s.power.boot.attempts < 3
    · have : ¬ 4 ≤ s.power.boot.attempts + 1 := by omega
      simp [few, this, Config.ms]
    · have : 4 ≤ s.power.boot.attempts + 1 := by omega
      simp [few, this, State.bootEnds, State.withWire, State.withBoot, State.withPower]

/-- Settles O15: the four ways in which a byte of an attempt can end, for each kind of EEPROM. -/
theorem twoWireAttempts : Obligations.TwoWireAttempts := by
  refine ⟨fun n acknowledged s sending source => ?sent, fun d s waiting => ?again⟩
  case sent =>
    have step : exec (.twoWireByteSent acknowledged) s = .next (s.byteSent n acknowledged) := by
      change execTwoWireByteSent acknowledged s = _
      unfold execTwoWireByteSent
      rw [sending]
    rw [step]
    rcases source with source | source
    · rw [State.byteSent_eq source (.inl rfl)]
      simp only [source]
      rfl
    · rw [State.byteSent_eq source (.inr rfl)]
      simp only [source]
      rfl
  case again =>
    have step : exec .bootRetryWaitEnd s = .next (s.at d).attemptAgain := by
      change execBootRetryWaitEnd s = _
      unfold execBootRetryWaitEnd
      rw [waiting]
    obtain ⟨one, two, none⟩ := BootSource.signs_first
    have signs : (s.power.boot.source.getD .absent).signs 0 =
        if s.power.boot.source = some .oneByte ∨ s.power.boot.source = some .twoByte then [.start, .byte 0xA0#8] else [] := by
      rcases s.power.boot.source with _ | _ | _ | _ <;> simp [one, two, none]
    rw [step, State.attemptAgain]
    simp only [State.at_power, signs]
    rfl

end Sys2Proof.Machine

/-! The boot stream (R203). -/

namespace Sys2Proof

theorem half_toNat (hi lo : Byte) : (half hi lo).toNat = 256 * hi.toNat + lo.toNat := by
  unfold half
  rw [BitVec.toNat_append, ← Nat.shiftLeft_add_eq_or_of_lt lo.isLt, Nat.shiftLeft_eq, Nat.mul_comm]

end Sys2Proof

namespace Sys2Proof.Machine

section

variable {s : State} {b : Byte}

/-! ### A byte of the stream (R202, R203) -/

/-- R202, R203: the stream goes on: the record so far, and the byte acknowledged. -/
def State.streamOn (s : State) (boot : BootRec) (header payload : List Byte) : State :=
  s.withPower { s.power with boot := boot, bootHeader := header, bootPayload := payload, wire := [.acknowledge] }

/-- R202, R203: the stream ends with an outcome. -/
def State.streamEnded (s : State) (boot : BootRec) (o : BootOutcome) (header payload : List Byte) : State :=
  s.withPower { s.power with
    boot := { boot with outcome := some o }
    bootHeader := header
    bootPayload := payload
    twoWire := .idle
    wire := [.notAcknowledge, .stop] }

/-- R203: the boot record with one more byte read, which joins the sum. -/
def BootRec.counted (r : BootRec) (b : Byte) : BootRec := { r with bytes := r.bytes + 1, sum := (r.sum + b.toNat) % 65536 }

/-- R203: the boot record with one more byte read, of END's payload. -/
def BootRec.unsummed (r : BootRec) : BootRec := { r with bytes := r.bytes + 1 }

/-- R203: every byte but those of END's payload joins the sum. -/
theorem State.sumByte_counted (outside : ¬(s.power.bootHeader.length = 5 ∧ headerKind s.power.bootHeader = kindEnd)) :
    s.sumByte b = s.withBoot (s.power.boot.counted b) := by
  have : (s.power.bootHeader.length == 5 && headerKind s.power.bootHeader == kindEnd) = false := by simpa using outside
  unfold State.sumByte
  simp only [this]
  rfl

theorem State.sumByte_unsummed (inEnd : s.power.bootHeader.length = 5 ∧ headerKind s.power.bootHeader = kindEnd) :
    s.sumByte b = s.withBoot s.power.boot.unsummed := by
  unfold State.sumByte
  simp only [inEnd, beq_self_eq_true, Bool.and_self, if_true]
  rfl

/-- R202, R203: what follows a byte parsed: the stream's limit, and the acknowledge or the stop. -/
def State.byteParsed (s : State) : State :=
  (if s.power.boot.outcome = none ∧ Config.maxStreamBytes ≤ s.power.boot.bytes then s.bootEnds .format else s).answerByte

theorem State.streamByte_of {u t : State} (summed : s.sumByte b = u)
    (parsed : (if u.power.bootHeader.length < 5 then u.bootHeaderByte b else u.bootPayloadByte b) = t) :
    s.streamByte b = t.byteParsed := by
  subst summed parsed
  rfl

/-- R202: a byte that does not end the stream is acknowledged. -/
theorem State.byteParsed_on (going : s.power.boot.outcome = none) (room : s.power.boot.bytes < 8192) :
    s.byteParsed = s.withWire [.acknowledge] := by
  unfold State.byteParsed
  rw [if_neg (by simp only [Config.maxStreamBytes]; omega), State.answerByte, if_pos going]

/-- R202: the byte that ends the stream is not acknowledged, and a stop condition follows. -/
theorem State.byteParsed_ended (known : s.power.boot.outcome ≠ none) :
    s.byteParsed = s.withWire [.notAcknowledge, .stop] := by
  unfold State.byteParsed
  rw [if_neg (fun h => known h.1), State.answerByte, if_neg known]

/-- R203: the faults that a header byte can show. -/
def headerByteFault (h : List Byte) (b : Byte) : Prop :=
  (h.length = 0 ∧ b ≠ syncByte) ∨ (h.length = 1 ∧ b ≠ kindLoadTable ∧ b ≠ kindEnd) ∨
    (h.length = 4 ∧ headerFault (headerKind (h ++ [b])) (headerLength (h ++ [b])) = true)

/-- R203: the record with one more header byte. -/
def State.headerTaken (s : State) (b : Byte) : State :=
  s.withPower { s.power with bootHeader := s.power.bootHeader ++ [b], bootPayload := [] }

theorem State.bootHeaderByte_fault (fault : headerByteFault s.power.bootHeader b) :
    s.bootHeaderByte b = (s.headerTaken b).bootEnds .format := by
  unfold State.bootHeaderByte
  simp only [List.length_append, List.length_singleton]
  rcases fault with ⟨n, wrong⟩ | ⟨n, wrong⟩ | ⟨n, wrong⟩
  · rw [if_pos ⟨by omega, wrong⟩]; rfl
  · rw [if_neg (by omega), if_pos ⟨by omega, wrong⟩]; rfl
  · rw [if_neg (by omega), if_neg (by omega), if_pos ⟨by omega, wrong⟩]; rfl

theorem State.bootHeaderByte_sound (sound : ¬headerByteFault s.power.bootHeader b) : s.bootHeaderByte b = s.headerTaken b := by
  simp only [headerByteFault, not_or] at sound
  obtain ⟨first, second, last⟩ := sound
  unfold State.bootHeaderByte
  simp only [List.length_append, List.length_singleton]
  rw [if_neg (fun h => first ⟨by omega, h.2⟩), if_neg (fun h => second ⟨by omega, h.2⟩),
    if_neg (fun h => last ⟨by omega, h.2⟩)]
  rfl

/-- R203: a header byte that shows no fault. -/
theorem State.streamByte_header (going : s.power.boot.outcome = none) (room : s.power.boot.bytes + 1 < 8192)
    (inHeader : s.power.bootHeader.length < 5) (sound : ¬headerByteFault s.power.bootHeader b) :
    s.streamByte b = s.streamOn (s.power.boot.counted b) (s.power.bootHeader ++ [b]) [] := by
  rw [State.streamByte_of (State.sumByte_counted (by omega)) ((if_pos inHeader).trans (State.bootHeaderByte_sound sound))]
  exact State.byteParsed_on going room

/-- R203: a header byte that shows a fault. -/
theorem State.streamByte_header_fault (inHeader : s.power.bootHeader.length < 5)
    (fault : headerByteFault s.power.bootHeader b) :
    s.streamByte b = s.streamEnded (s.power.boot.counted b) .format (s.power.bootHeader ++ [b]) [] := by
  rw [State.streamByte_of (State.sumByte_counted (by omega)) ((if_pos inHeader).trans (State.bootHeaderByte_fault fault))]
  exact State.byteParsed_ended (Option.some_ne_none _)

/-- R203: a payload byte of a LOAD TABLE. -/
theorem State.streamByte_payload {t : State} (complete : s.power.bootHeader.length = 5)
    (kind : headerKind s.power.bootHeader ≠ kindEnd)
    (parsed : (s.withBoot (s.power.boot.counted b)).bootPayloadByte b = t) : s.streamByte b = t.byteParsed :=
  State.streamByte_of (State.sumByte_counted fun h => kind h.2) ((if_neg (by simp [complete])).trans parsed)

/-- R203: a payload byte of END. -/
theorem State.streamByte_endPayload {t : State} (complete : s.power.bootHeader.length = 5)
    (kind : headerKind s.power.bootHeader = kindEnd)
    (parsed : (s.withBoot s.power.boot.unsummed).bootPayloadByte b = t) : s.streamByte b = t.byteParsed :=
  State.streamByte_of (State.sumByte_unsummed ⟨complete, kind⟩) ((if_neg (by simp [complete])).trans parsed)

/-- R203: the record with one more payload byte. -/
def State.payloadTaken (s : State) (b : Byte) : State := s.withPower { s.power with bootPayload := s.power.bootPayload ++ [b] }

/-- R203: the record read, before it takes its effect. -/
def State.recordRead (s : State) : State := s.withPower { s.power with bootHeader := [], bootPayload := [] }

/-- R203: END's first payload byte. -/
theorem State.bootPayloadByte_end_first (kind : headerKind s.power.bootHeader = kindEnd) (first : s.power.bootPayload = []) :
    s.bootPayloadByte b = s.payloadTaken b := by
  unfold State.bootPayloadByte
  dsimp only
  rw [if_pos kind, first]
  rw [State.payloadTaken, first]
  rfl

/-- R203: END's second payload byte, by the running sum. -/
theorem State.bootPayloadByte_end_last {hi : Byte} (kind : headerKind s.power.bootHeader = kindEnd)
    (second : s.power.bootPayload = [hi]) :
    s.bootPayloadByte b = s.recordRead.bootEnds (if (half hi b).toNat = s.power.boot.sum then .ok else .sum) := by
  unfold State.bootPayloadByte
  dsimp only
  rw [if_pos kind, second]
  rfl

/-- R203: a payload byte of a LOAD TABLE: its id and length, its last byte, or another. -/
theorem State.bootPayloadByte_load (kind : headerKind s.power.bootHeader ≠ kindEnd) : s.bootPayloadByte b =
    if (s.power.bootPayload ++ [b]).length = 1 ∧ (!loadFits b.toNat (headerLength s.power.bootHeader - 3)) = true then
      (s.payloadTaken b).bootEnds .format
    else if (s.power.bootPayload ++ [b]).length = headerLength s.power.bootHeader then
      s.recordRead.applyBootRecord (s.power.bootPayload ++ [b])
    else s.payloadTaken b := by
  unfold State.bootPayloadByte
  dsimp only
  rw [if_neg kind]
  rfl

/-- R182: a LOAD TABLE with whole entries of its table. -/
theorem loadFits_iff {b : Byte} {n : Nat} (positive : 0 < n) :
    loadFits b.toNat n = true ↔ ¬(b ∈ [0#8, 3#8, 4#8, 5#8] ∧ n % 2 ≠ 0) := by
  have two : (b ∈ [0#8, 3#8, 4#8, 5#8]) ↔ tableWidth b.toNat = some 2 := by revert b; decide
  have widths : ∀ i, tableWidth i = some 2 ∨ tableWidth i = some 1 ∨ tableWidth i = none := by
    intro i
    unfold tableWidth
    split <;> simp
  rw [two]
  unfold loadFits
  rcases widths b.toNat with width | width | width
  · simp [width, positive]
  · simp [width, positive, Nat.mod_one]
  · simp [width, positive]

/-- R203: END's payload gives OK or SUM. -/
theorem State.streamByte_end_last {hi : Byte} (complete : s.power.bootHeader.length = 5)
    (kind : headerKind s.power.bootHeader = kindEnd) (second : s.power.bootPayload = [hi]) :
    s.streamByte b = s.streamEnded s.power.boot.unsummed (if (half hi b).toNat = s.power.boot.sum then .ok else .sum) [] [] := by
  rw [State.streamByte_endPayload complete kind (State.bootPayloadByte_end_last kind second)]
  exact State.byteParsed_ended (Option.some_ne_none _)

/-! ### The last byte of a LOAD TABLE (R203) -/

/-- R203: what a load's checks and effect depend on: not the power record. -/
theorem State.loadOutcome_withPower (p : Power) (id start : Nat) (bytes : List Byte) :
    (s.withPower p).loadOutcome id start bytes = s.loadOutcome id start bytes := rfl

/-- R203: a complete LOAD TABLE that would be accepted is applied and counted. -/
theorem State.applyBootRecord_accepted {table hi lo : Byte} {entries : List Byte} {w c : Nat}
    (accepted : s.loadOutcome table.toNat (half hi lo).toNat entries = .accepted w c) :
    s.applyBootRecord (table :: hi :: lo :: entries) =
      (s.applyLoad table.toNat (half hi lo).toNat entries).withBoot
        { s.power.boot with applied := min 255 (s.power.boot.applied + 1) } := by
  unfold State.applyBootRecord
  dsimp only
  rw [accepted]
  simp only [State.applyLoad_power]

/-- R203: a complete LOAD TABLE that would be refused is passed over. -/
theorem State.applyBootRecord_refused {table hi lo : Byte} {entries : List Byte}
    (refused : ∀ w c, s.loadOutcome table.toNat (half hi lo).toNat entries ≠ .accepted w c) :
    s.applyBootRecord (table :: hi :: lo :: entries) = s := by
  unfold State.applyBootRecord
  dsimp only
  split
  case h_1 w c accepted => exact absurd accepted (refused w c)
  all_goals rfl

/-- R8, R37, R107, R183: what an accepted load leaves as it is. -/
structure LoadFrame (s t : State) : Prop where
  now : t.now = s.now
  pending : t.pending = s.pending
  scan : t.scan = s.scan
  print : t.print = s.print
  analog : t.mon.analog = s.mon.analog
  link : t.link = s.link
  power : t.power = s.power

theorem LoadFrame.refl (s : State) : LoadFrame s s := ⟨rfl, rfl, rfl, rfl, rfl, rfl, rfl⟩

theorem LoadFrame.trans {t u : State} (h : LoadFrame s t) (k : LoadFrame t u) : LoadFrame s u :=
  ⟨k.now.trans h.now, k.pending.trans h.pending, k.scan.trans h.scan, k.print.trans h.print, k.analog.trans h.analog,
    k.link.trans h.link, k.power.trans h.power⟩

theorem State.withMot_analog (m : Motor) (c : Channel) (s : State) : (s.withMot m c).mon.analog = s.mon.analog := by
  unfold State.withMot
  repeat' split
  all_goals rfl

theorem State.redriveHold_loadFrame (m : Motor) (s : State) : LoadFrame s (s.redriveHold m) := by
  unfold State.redriveHold
  dsimp only
  split
  · exact ⟨by simp, by simp, by simp, by simp, State.withMot_analog _ _ _, by simp, by simp⟩
  · exact LoadFrame.refl s

theorem State.banksChanged_loadFrame (s : State) : LoadFrame s s.banksChanged := by
  unfold State.banksChanged
  dsimp only
  split <;> exact ⟨rfl, rfl, rfl, rfl, rfl, rfl, rfl⟩

theorem State.replaceTables_loadFrame (t : Tables) (s : State) : LoadFrame s (s.replaceTables t) := by
  have written : LoadFrame s (s.withTables t) := ⟨rfl, rfl, rfl, rfl, rfl, rfl, rfl⟩
  have redriven : ∀ (x : State) (c : Prop) [Decidable c] (m : Motor), LoadFrame s x →
      LoadFrame s (if c then x.redriveHold m else x) := by
    intro x c _ m h
    split
    · exact h.trans (State.redriveHold_loadFrame m x)
    · exact h
  have both := redriven _ (t.phaseP ≠ s.tables.phaseP) .p (redriven _ (t.phaseS ≠ s.tables.phaseS) .s written)
  unfold State.replaceTables
  dsimp only
  split
  · exact both.trans (State.banksChanged_loadFrame _)
  · exact both

theorem State.redriveHold_tables (m : Motor) (s : State) : (s.redriveHold m).tables = s.tables := by
  unfold State.redriveHold
  dsimp only
  split
  · simp
  · rfl

theorem State.banksChanged_tables (s : State) : s.banksChanged.tables = s.tables := by
  unfold State.banksChanged
  dsimp only
  split <;> rfl

theorem State.replaceTables_tables (t : Tables) (s : State) : (s.replaceTables t).tables = t := by
  unfold State.replaceTables
  dsimp only
  repeat' split
  all_goals simp [State.banksChanged_tables, State.redriveHold_tables]

theorem State.applyLoad_loadFrame (id start : Nat) (bytes : List Byte) (s : State) :
    LoadFrame s (s.applyLoad id start bytes) := State.replaceTables_loadFrame _ s

theorem State.applyLoad_tables (id start : Nat) (bytes : List Byte) (s : State) :
    (s.applyLoad id start bytes).tables = s.tables.load id start (loadValues id bytes) := State.replaceTables_tables _ s

/-- R203: the last byte of a LOAD TABLE completes its record. -/
theorem State.streamByte_load_last {table hi lo : Byte} {es : List Byte} (complete : s.power.bootHeader.length = 5)
    (kind : headerKind s.power.bootHeader ≠ kindEnd) (payload : s.power.bootPayload = [table, hi, lo] ++ es)
    (whole : headerLength s.power.bootHeader = es.length + 4) :
    s.streamByte b = ((s.withBoot (s.power.boot.counted b)).recordRead.applyBootRecord
      (table :: hi :: lo :: (es ++ [b]))).byteParsed := by
  have parsed := State.bootPayloadByte_load (s := s.withBoot (s.power.boot.counted b)) (b := b) kind
  simp only [State.withBoot_power, payload, whole, List.length_append, List.length_cons, List.length_nil] at parsed
  rw [if_neg (by omega), if_pos (by omega), List.append_assoc] at parsed
  exact State.streamByte_payload complete kind parsed

/-- R203: a LOAD TABLE that would be accepted takes its effect, is counted, and leaves the stream to go on. -/
theorem State.applyBootRecord_byteParsed {table hi lo : Byte} {entries : List Byte} {w c : Nat}
    (going : s.power.boot.outcome = none) (room : s.power.boot.bytes < 8192)
    (accepted : s.loadOutcome table.toNat (half hi lo).toNat entries = .accepted w c) :
    (s.applyBootRecord (table :: hi :: lo :: entries)).byteParsed =
      (s.applyLoad table.toNat (half hi lo).toNat entries).withPower { s.power with
        wire := [.acknowledge]
        boot := { s.power.boot with applied := min 255 (s.power.boot.applied + 1) } } := by
  rw [State.applyBootRecord_accepted accepted, State.byteParsed_on (by exact going) (by exact room)]
  unfold State.withWire State.withBoot
  rw [State.applyLoad_power]
  rfl

end

/-! ### The obligation -/

/-- Settles O16, by how much of the record has been read. -/
theorem bootStreamBytes : Obligations.BootStreamBytes := by
  intro b s reading going room p counted unsummed next ended
  have step : exec (.bootStreamByte b) s = .next (s.streamByte b) := congrArg Host.Outcome.next (if_pos reading)
  have headerNext : ∀ h : List Byte, p.bootHeader = h → h.length < 5 → ¬headerByteFault h b →
      exec (.bootStreamByte b) s = .next (next counted (h ++ [b]) []) := by
    intro h header short sound
    subst header
    rw [step, State.streamByte_header going room short sound]
    rfl
  have headerEnded : ∀ h : List Byte, p.bootHeader = h → h.length < 5 → headerByteFault h b →
      exec (.bootStreamByte b) s = .next (ended counted .format (h ++ [b]) []) := by
    intro h header short fault
    subst header
    rw [step, State.streamByte_header_fault short fault]
    rfl
  refine ⟨fun header => ?first, fun sync header => ?second, fun sync kind header => ?third, fun sync kind tag header => ?fourth,
    fun sync kind tag hi header => ?fifth, fun sync tag header payload => ?endFirst, fun tag hi header payload => ?endLast,
    fun sync tag n1 n0 header payload long => ?table, fun sync tag n1 n0 header payload long => ?more,
    fun tag n1 n0 table hi lo es header payload length => ?last⟩
  case first =>
    split
    case isTrue sync => exact headerNext [] header (by decide) (by simp [headerByteFault, sync, syncByte])
    case isFalse wrong => exact headerEnded [] header (by decide) (.inl ⟨rfl, wrong⟩)
  case second =>
    split
    case isTrue kind =>
      exact headerNext [sync] header (by simp) (by rcases kind with rfl | rfl <;> simp [headerByteFault, kindLoadTable, kindEnd])
    case isFalse wrong => exact headerEnded [sync] header (by simp) (.inr (.inl ⟨rfl, not_or.1 wrong⟩))
  case third => exact headerNext [sync, kind] header (by simp) (by simp [headerByteFault])
  case fourth => exact headerNext [sync, kind, tag] header (by simp) (by simp [headerByteFault])
  case fifth =>
    intro length
    have fault : headerByteFault [sync, kind, tag, hi] b ↔
        2048 < length ∨ (kind = 0x3F#8 ∧ length ≠ 2) ∨ (kind = 0x18#8 ∧ length < 4) := by
      have : headerLength [sync, kind, tag, hi, b] = length := half_toNat hi b
      simp [headerByteFault, headerFault, headerKind, this, kindEnd, kindLoadTable, Config.maxPayload, or_assoc]
    split
    case isTrue wrong => exact headerEnded _ header (by simp) (fault.2 wrong)
    case isFalse right => exact headerNext _ header (by simp) (fun h => right (fault.1 h))
  case endFirst =>
    have kind : headerKind s.power.bootHeader = kindEnd := by rw [header]; rfl
    rw [step, State.streamByte_endPayload (by rw [header]; rfl) kind (State.bootPayloadByte_end_first kind payload),
      State.byteParsed_on (by exact going) (by exact room)]
    change Host.Outcome.next (next unsummed p.bootHeader (p.bootPayload ++ [b])) = _
    rw [payload]
    rfl
  case endLast =>
    rw [step, State.streamByte_end_last (by rw [header]; rfl) (by rw [header]; rfl) payload, half_toNat]
    rfl
  case table =>
    replace payload : s.power.bootPayload = [] := payload
    have kind : headerKind s.power.bootHeader ≠ kindEnd := by rw [header]; exact (by decide : kindLoadTable ≠ kindEnd)
    have length : headerLength s.power.bootHeader = 256 * n1.toNat + n0.toNat := by rw [header]; exact half_toNat n1 n0
    have fits := loadFits_iff (b := b) (n := 256 * n1.toNat + n0.toNat - 3) (by omega)
    have parsed := State.bootPayloadByte_load (s := s.withBoot counted) (b := b) kind
    simp only [State.withBoot_power, payload, length, List.nil_append, List.length_singleton, true_and] at parsed
    split
    case isTrue wrong =>
      rw [if_pos (by simpa using (not_congr fits).2 (not_not.2 wrong))] at parsed
      rw [step, State.streamByte_payload (by rw [header]; rfl) kind parsed, State.byteParsed_ended (Option.some_ne_none _)]
      change Host.Outcome.next (ended counted .format p.bootHeader (s.power.bootPayload ++ [b])) = _
      rw [payload]
      rfl
    case isFalse right =>
      rw [if_neg (by simpa using fits.2 right), if_neg (by omega)] at parsed
      rw [step, State.streamByte_payload (by rw [header]; rfl) kind parsed,
        State.byteParsed_on (by exact going) (by exact room)]
      change Host.Outcome.next (next counted p.bootHeader (s.power.bootPayload ++ [b])) = _
      rw [payload]
      rfl
  case more =>
    replace long : s.power.bootPayload.length + 1 < 256 * n1.toNat + n0.toNat := long
    have kind : headerKind s.power.bootHeader ≠ kindEnd := by rw [header]; exact (by decide : kindLoadTable ≠ kindEnd)
    have length : headerLength s.power.bootHeader = 256 * n1.toNat + n0.toNat := by rw [header]; exact half_toNat n1 n0
    have later : s.power.bootPayload.length ≠ 0 := fun h => payload (List.length_eq_zero_iff.1 h)
    have parsed := State.bootPayloadByte_load (s := s.withBoot counted) (b := b) kind
    simp only [State.withBoot_power, length, List.length_append, List.length_singleton] at parsed
    rw [if_neg (fun h => later (by omega)), if_neg (by omega)] at parsed
    rw [step, State.streamByte_payload (by rw [header]; rfl) kind parsed, State.byteParsed_on (by exact going) (by exact room)]
    rfl
  case last =>
    have kind : headerKind s.power.bootHeader ≠ kindEnd := by rw [header]; exact (by decide : kindLoadTable ≠ kindEnd)
    have complete : s.power.bootHeader.length = 5 := by rw [header]; rfl
    have taken := State.streamByte_load_last (b := b) complete kind payload (by rw [header]; exact length)
    rw [step, taken]
    refine ⟨fun w c accepted => ?applied, fun refused => ?passed⟩
    case applied =>
      rw [State.applyBootRecord_byteParsed (by exact going) (by exact room) (by exact accepted)]
      have frame := State.applyLoad_loadFrame table.toNat (half hi lo).toNat (es ++ [b])
        (s.withBoot (s.power.boot.counted b)).recordRead
      have tables := State.applyLoad_tables table.toNat (half hi lo).toNat (es ++ [b])
        (s.withBoot (s.power.boot.counted b)).recordRead
      generalize (s.withBoot (s.power.boot.counted b)).recordRead.applyLoad table.toNat (half hi lo).toNat (es ++ [b]) = t
        at frame tables ⊢
      exact ⟨_, rfl, frame.now, frame.pending, tables, frame.scan, frame.print, frame.analog, frame.link, rfl⟩
    case passed =>
      rw [State.applyBootRecord_refused (by exact refused), State.byteParsed_on (by exact going) (by exact room)]
      rfl

end Sys2Proof.Machine

/-! # The Page Memory Controller (O18 to O23)

What page memory reads after a write, where bytes lie, the four cases of a row access, and the arbiter's decision said once:
with nothing to do it grants nothing, and otherwise it makes one of three grants. -/

namespace Sys2Proof.Machine

/-! ### Page memory -/

/-- A byte stored is read back, and every other byte reads as before. -/
theorem Memory.read_write {a x : Nat} {v : Byte} : ∀ {m : Memory} {lo : Nat}, Memory.wfAbove lo m = true →
    (m.write a v).read x = if x = a then v else m.read x
  | [], lo, _ => by
    rcases eq_or_ne x a with rfl | hx <;> by_cases hv : v = Config.unwritten
    all_goals simp_all [Memory.write, Memory.read, Ne.symm]
  | (k, w) :: rest, lo, wf => by
    simp only [Memory.wfAbove, Bool.and_eq_true, decide_eq_true_eq] at wf
    obtain ⟨_, above⟩ := wf
    have unlisted : a ≤ k → Memory.read rest a = Config.unwritten := fun h => Memory.read_below above (by omega)
    rcases Nat.lt_trichotomy a k with before | same | after
    · rcases eq_or_ne x a with rfl | hx <;> by_cases hv : v = Config.unwritten
      all_goals simp_all [Memory.write, Memory.read, unlisted before.le, before.ne', Ne.symm]
    · subst same
      rcases eq_or_ne x a with rfl | hx <;> by_cases hv : v = Config.unwritten
      all_goals simp_all [Memory.write, Memory.read, Ne.symm]
    · have ih := Memory.read_write (a := a) (x := x) (v := v) above
      have later : Memory.write ((k, w) :: rest) a v = (k, w) :: Memory.write rest a v := by
        simp [Memory.write, after.ne', not_lt.2 after.le]
      rcases eq_or_ne k x with rfl | hk
      · simp [later, Memory.read, after.ne]
      · simp [later, Memory.read, hk, ih]

/-- Bytes stored leave every byte before them and behind them. -/
theorem Memory.read_writeAll_outside : ∀ (bytes : List Byte) {a x : Nat} {m : Memory}, m.wf = true →
    (x < a ∨ a + bytes.length ≤ x) → (m.writeAll a bytes).read x = m.read x
  | [], _, _, _, _, _ => rfl
  | b :: bytes, a, x, m, wf, outside => by
    rw [List.length_cons] at outside
    rw [Memory.writeAll, Memory.read_writeAll_outside bytes (Memory.wf_write wf a b) (by omega), Memory.read_write wf,
      if_neg (by omega)]

/-- Bytes stored are read back in their order. -/
theorem Memory.readAll_writeAll : ∀ (bytes : List Byte) {a : Nat} {m : Memory}, m.wf = true →
    (m.writeAll a bytes).readAll a bytes.length = bytes
  | [], _, _, _ => rfl
  | b :: bytes, a, m, wf => by
    have stored := Memory.wf_write wf a b
    rw [Memory.writeAll, List.length_cons, Memory.readAll, Memory.readAll_writeAll bytes stored,
      Memory.read_writeAll_outside bytes stored (.inl (Nat.lt_succ_self a)), Memory.read_write wf, if_pos rfl]

/-- Settles O23. -/
theorem storedBytesReadBack : Obligations.StoredBytesReadBack :=
  fun bytes _ _ wf => ⟨Memory.readAll_writeAll bytes wf, fun _ => Memory.read_writeAll_outside bytes wf⟩

/-! ### Where bytes and line slots lie (R1) -/

theorem dramAddress_byte (b : Band) (o : Nat) : dramAddress (bandBank b) (byteRow b o) (byteCol o) = 8192 * b.val + o := by
  simp only [dramAddress, bandBank, byteRow, byteCol, Config.bandsPerBank, Config.bankBytes]
  omega

theorem dramAddress_slot (b : Band) (l : Nat) : dramAddress (bandBank b) (slotRow b l) (slotCol l) = 8192 * b.val + 256 * l := by
  simp only [dramAddress, bandBank, slotRow, slotCol, Config.bandsPerBank, Config.bankBytes]
  omega

theorem slotRow_eq (b : Band) (l : Nat) : slotRow b l = byteRow b (256 * l) := by
  simp only [slotRow, byteRow]
  omega

/-- Settles O22, from the linear address of each byte. -/
theorem pageMemoryLayout : Obligations.PageMemoryLayout := by
  refine ⟨fun b o bound => ⟨dramAddress_byte b o, ?_, ?_, ?_, rfl⟩, fun b l i line byte => ⟨?_, ?_, slotRow_eq b l⟩,
    fun b b' o o' bound bound' differ same => ?_⟩
  · exact Nat.mod_lt _ (by decide)
  · exact Nat.le_trans (by rw [Nat.mul_comm]) (Nat.le_add_right (b.val % 128 * 8) (o / 1024))
  · simp only [byteRow, Config.bandsPerBank]
    omega
  · rw [dramAddress_slot]
  · simp only [slotCol]
    omega
  · rw [dramAddress_byte, dramAddress_byte] at same
    rcases differ with band | offset
    · exact band (Fin.ext (by omega))
    · omega

/-! ### A row access (R29, R34) -/

theorem transferWords_eq {c n : Nat} (some_ : 0 < n) :
    transferWords c n = ((Finset.range n).image fun i => (c + i) / 2).card := by
  have words : ((Finset.range n).image fun i => (c + i) / 2) = Finset.Icc (c / 2) ((c + n - 1) / 2) := by
    ext w
    simp only [Finset.mem_image, Finset.mem_range, Finset.mem_Icc]
    constructor
    · rintro ⟨i, bound, rfl⟩
      omega
    · rintro ⟨low, high⟩
      by_cases first : c ≤ 2 * w
      · exact ⟨2 * w - c, by omega, by omega⟩
      · exact ⟨0, some_, by omega⟩
  rw [words, Nat.card_Icc]
  unfold transferWords
  omega

/-- R34: the case of an access to a table of at most three rows of different banks. -/
theorem rowCase_eq {t : List (Nat × Nat)} {bank row : Nat} (short : t.length ≤ 3) (banks : (t.map (·.1)).Nodup) :
    rowCase t bank row =
      if (bank, row) ∈ t then .hit
      else if bank ∈ t.map (·.1) then .otherRow
      else if t.length = 3 then .tableFull
      else .freeEntry := by
  unfold rowCase
  cases found : t.find? (·.1 == bank) with
  | none =>
    have absent : bank ∉ t.map (·.1) := by
      rintro held
      obtain ⟨e, mem, rfl⟩ := List.mem_map.1 held
      simpa using List.find?_eq_none.1 found e mem
    have unheld : (bank, row) ∉ t := fun h => absent (List.mem_map_of_mem (f := (·.1)) h)
    rw [if_neg unheld, if_neg absent]
    by_cases full : t.length = 3
    · rw [if_pos full, if_neg (by omega)]
    · rw [if_neg full, if_pos (by omega)]
  | some e =>
    have mem := List.mem_of_find?_eq_some found
    have bankOf : e.1 = bank := by simpa using List.find?_some found
    have held : bank ∈ t.map (·.1) := bankOf ▸ List.mem_map_of_mem mem
    have hit : (bank, row) ∈ t ↔ e.2 = row := by
      refine ⟨fun h => ?_, fun h => ?_⟩
      · exact congrArg Prod.snd (List.inj_on_of_nodup_map banks mem h bankOf)
      · rwa [← bankOf, ← h]
    rw [if_pos held]
    exact if_congr hit.symm rfl rfl

/-- Settles O21, by the four cases of the access. -/
theorem rowAccess : Obligations.RowAccess := by
  refine ⟨fun c n => transferWords_eq, fun bank row d ok => ?_⟩
  obtain ⟨-, short, banks, -⟩ := ok
  intro e full
  have kind := rowCase_eq (bank := bank) (row := row) short banks
  have table : e.rowHold = rowTable d.rowHold bank row := rfl
  have hits : e.hits = if rowCase d.rowHold bank row = .hit then count16 d.hits else d.hits := rfl
  have misses : e.misses = if rowCase d.rowHold bank row = .hit then d.misses else count16 d.misses := rfl
  have evictions : e.evictions = if rowCase d.rowHold bank row = .tableFull then count16 d.evictions else d.evictions := rfl
  have isHit : rowCase d.rowHold bank row = .hit ↔ (bank, row) ∈ d.rowHold := by
    rw [kind]
    repeat' split
    all_goals simp_all
  have isFull : rowCase d.rowHold bank row = .tableFull ↔ full := by
    have held : (bank, row) ∈ d.rowHold → bank ∈ d.rowHold.map (·.1) := fun h => List.mem_map_of_mem (f := Prod.fst) h
    rw [kind]
    repeat' split
    all_goals simp_all [full]
  refine ⟨⟨?_, ?_, ?_⟩, fun h => ?_, fun h x other => ?_, fun h => ⟨?_, ?_, ?_⟩, fun h => ⟨?_, ?_⟩, fun h => ?_, fun h => ?_, rfl,
    fun r sameBank sameRow => ?_⟩
  · exact (rowTable_ok bank row short banks).1
  · exact (rowTable_ok bank row short banks).2
  · rw [table]
    unfold rowTable
    split <;> simp
  · rw [table]
    unfold rowTable
    rw [isFull.2 h]
    simp
  · have notFull := mt isFull.1 h
    rw [table]
    unfold rowTable
    split
    case h_4 => contradiction
    all_goals simp [Prod.ext_iff, other]
  · rw [hits, if_pos (isHit.2 h)]
    rfl
  · rw [misses, if_pos (isHit.2 h)]
  · rw [evictions, if_neg (by rw [isHit.2 h]; simp)]
  · rw [hits, if_neg (mt isHit.1 h)]
  · rw [misses, if_neg (mt isHit.1 h)]
    rfl
  · rw [evictions, if_pos (isFull.2 h)]
    rfl
  · rw [evictions, if_neg (mt isFull.1 h)]
  · subst sameBank sameRow
    unfold transferTime
    rw [kind, Nat.add_comm]
    have iff_full : d.rowHold.length = 3 → (full ↔ r.bank ∉ d.rowHold.map (·.1)) := fun h => and_iff_right h
    by_cases row : (r.bank, r.row) ∈ d.rowHold
    · rw [if_pos row, if_pos row]
      rfl
    rw [if_neg row, if_neg row]
    by_cases bank : r.bank ∈ d.rowHold.map (·.1)
    · rw [if_pos bank, if_pos bank]
      rfl
    rw [if_neg bank, if_neg bank]
    by_cases three : d.rowHold.length = 3
    · rw [if_pos three, if_pos ((iff_full three).2 bank)]
      rfl
    · rw [if_neg three, if_neg (fun h => three h.1)]
      rfl

/-! ### The arbiter's decision (R31) -/

section

variable {d : Dram} {now : Nat}

/-- R31: a decision is made in ACTIVE, with nothing in progress. -/
theorem Dram.arbitrate_busy {a : Activity} (busy : d.current = some a) : d.arbitrate now = d := by
  unfold Dram.arbitrate
  rw [if_pos (.inr (by rw [busy]; rfl))]

theorem Dram.arbitrate_inactive (inactive : d.state ≠ .active) : d.arbitrate now = d := if_pos (.inl inactive)

/-- R37, R38, R42: no held BANKS change, no sleep order and no entry to self-refresh comes before the order of the classes. -/
abbrev Dram.Ordinary (d : Dram) : Prop := d.heldBanks = none ∧ d.sleepOrder = false ∧ d.autoDue = false

theorem Dram.next_eq (unordered : d.sleepOrder = false) (c : ReqClass) : d.next c = d.waiting.find? fun r => r.cls == c := by
  unfold Dram.next Dram.eligible
  simp [unordered]

/-- R31: the order of the classes. -/
theorem Dram.arbitrate_ordinary (active : d.state = .active) (idle : d.current = none) (ordinary : d.Ordinary) :
    d.arbitrate now =
      if d.debt = 4 then d.grantRefresh now
      else
        match d.next .scanWrite with
        | some r => d.grant now r
        | none =>
          match d.next .printFetch with
          | some r => d.grant now r
          | none =>
            if 0 < d.debt then d.grantRefresh now
            else
              match d.next .linkWrite with
              | some r => d.grant now r
              | none =>
                match d.next .linkRead with
                | some r => d.grant now r
                | none => d := by
  obtain ⟨held, unordered, due⟩ := ordinary
  have banks : d.applyBanks = d := by
    unfold Dram.applyBanks
    rw [held]
  unfold Dram.arbitrate
  rw [if_neg (by simp [active, idle]), banks]
  simp only [unordered, due, Bool.false_eq_true, false_and, if_false] <;> rfl

/-- R31: with no work nothing is granted. -/
theorem Dram.arbitrate_nothing (ordinary : d.Ordinary) (empty : d.waiting = []) (settled : d.debt = 0) :
    d.arbitrate now = d := by
  by_cases active : d.state = .active
  case neg => exact Dram.arbitrate_inactive active
  cases idle : d.current with
  | some a => exact Dram.arbitrate_busy idle
  | none => simp [Dram.arbitrate_ordinary active idle ordinary, settled, Dram.next, empty]

/-- R31: with no request waiting a refresh owed is granted. -/
theorem Dram.arbitrate_refresh (active : d.state = .active) (idle : d.current = none) (ordinary : d.Ordinary)
    (empty : d.waiting = []) (owed : 0 < d.debt) : d.arbitrate now = d.grantRefresh now := by
  simp [Dram.arbitrate_ordinary active idle ordinary, owed, Dram.next, empty]

/-- R31: a request granted comes first of its class, and its class first of those waiting. -/
structure Dram.First (d : Dram) (r : Request) : Prop where
  oldest : d.waiting.find? (fun q => q.cls == r.cls) = some r
  first : ∀ q ∈ d.waiting, r.cls.rank ≤ q.cls.rank

/-- A request that comes first where no request of the classes before it waits. -/
theorem Dram.First.of_next {c : ReqClass} {r : Request} (unordered : d.sleepOrder = false) (found : d.next c = some r)
    (above : ∀ q ∈ d.waiting, c.rank ≤ q.cls.rank) : d.First r ∧ r.cls = c := by
  rw [Dram.next_eq unordered] at found
  have cls : r.cls = c := by simpa using List.find?_some found
  exact ⟨⟨by rw [cls]; exact found, by rwa [cls]⟩, cls⟩

theorem Dram.next_none {c : ReqClass} (unordered : d.sleepOrder = false) (none_ : d.next c = none) :
    ∀ q ∈ d.waiting, q.cls ≠ c := by
  rw [Dram.next_eq unordered] at none_
  simpa using none_

theorem ReqClass.rank_lt_of_ne {c c' : ReqClass} (least : c.rank ≤ c'.rank) (differ : c' ≠ c) : c.rank + 1 ≤ c'.rank := by
  cases c <;> cases c' <;> simp_all [ReqClass.rank]

/-- R31: what a decision does: a refresh at debt 4, the first request of the first two classes, a refresh owed, the first request of
the last two, or nothing. -/
theorem Dram.arbitrate_cases (active : d.state = .active) (idle : d.current = none) (ordinary : d.Ordinary) :
    (d.debt = 4 ∧ d.arbitrate now = d.grantRefresh now) ∨
    (∃ r, d.First r ∧ d.debt ≠ 4 ∧ (0 < d.debt → r.cls.rank < 2) ∧ d.arbitrate now = d.grant now r) ∨
    (0 < d.debt ∧ (∀ q ∈ d.waiting, 2 ≤ q.cls.rank) ∧ d.arbitrate now = d.grantRefresh now) ∨
    (d.debt = 0 ∧ d.waiting = [] ∧ d.arbitrate now = d) := by
  have unordered := ordinary.2.1
  rw [Dram.arbitrate_ordinary active idle ordinary]
  by_cases full : d.debt = 4
  · exact .inl ⟨full, if_pos full⟩
  rw [if_neg full]
  have none0 : ∀ q ∈ d.waiting, ReqClass.rank .scanWrite ≤ q.cls.rank := fun _ _ => Nat.zero_le _
  cases scan : d.next .scanWrite with
  | some r =>
    obtain ⟨first, cls⟩ := Dram.First.of_next unordered scan none0
    exact .inr (.inl ⟨r, first, full, fun _ => by rw [cls]; decide, rfl⟩)
  | none =>
  have none1 : ∀ q ∈ d.waiting, ReqClass.rank .printFetch ≤ q.cls.rank :=
    fun q h => ReqClass.rank_lt_of_ne (none0 q h) (Dram.next_none unordered scan q h)
  cases print : d.next .printFetch with
  | some r =>
    obtain ⟨first, cls⟩ := Dram.First.of_next unordered print none1
    exact .inr (.inl ⟨r, first, full, fun _ => by rw [cls]; decide, rfl⟩)
  | none =>
  have none2 : ∀ q ∈ d.waiting, ReqClass.rank .linkWrite ≤ q.cls.rank :=
    fun q h => ReqClass.rank_lt_of_ne (none1 q h) (Dram.next_none unordered print q h)
  by_cases owed : 0 < d.debt
  · exact .inr (.inr (.inl ⟨owed, none2, if_pos owed⟩))
  dsimp only
  rw [if_neg owed]
  cases write : d.next .linkWrite with
  | some r =>
    obtain ⟨first, -⟩ := Dram.First.of_next unordered write none2
    exact .inr (.inl ⟨r, first, full, fun h => absurd h owed, rfl⟩)
  | none =>
  have none3 : ∀ q ∈ d.waiting, ReqClass.rank .linkRead ≤ q.cls.rank :=
    fun q h => ReqClass.rank_lt_of_ne (none2 q h) (Dram.next_none unordered write q h)
  cases read : d.next .linkRead with
  | some r =>
    obtain ⟨first, -⟩ := Dram.First.of_next unordered read none3
    exact .inr (.inl ⟨r, first, full, fun h => absurd h owed, rfl⟩)
  | none =>
    have empty : d.waiting = [] := by
      refine List.eq_nil_iff_forall_not_mem.2 fun q h => ?_
      have last := ReqClass.rank_lt_of_ne (none3 q h) (Dram.next_none unordered read q h)
      revert last
      cases q.cls <;> decide
    exact .inr (.inr (.inr ⟨by omega, empty, rfl⟩))

end

/-- Settles O20, by what the decision does. -/
theorem arbiterOrder : Obligations.ArbiterOrder := by
  intro now d active idle held unordered due bound e
  have refreshed : (d.grantRefresh now).current = some (.refresh (now + 4)) := rfl
  have granted : ∀ r, (d.grant now r).current = some (.transfer r (now + transferTime d.rowHold r)) := fun _ => rfl
  rcases Dram.arbitrate_cases (now := now) active idle ⟨held, unordered, due⟩ with
    ⟨full, is⟩ | ⟨r, ⟨oldest, first⟩, notFull, urgent, is⟩ | ⟨owed, later, is⟩ | ⟨none_, empty, is⟩
  · simp [e, is, refreshed, full]
  · have mem : r ∈ d.waiting := List.mem_of_find?_eq_some oldest
    have some_ : d.waiting ≠ [] := List.ne_nil_of_mem mem
    refine ⟨by simp [e, is, granted, some_], ?_, ?_⟩
    · simp only [e, is, granted, notFull, false_or]
      refine ⟨fun ⟨_, h⟩ => by simp at h, fun ⟨owed, later⟩ => ?_⟩
      exact absurd (later r mem) (Nat.not_le.2 (urgent owed))
    · intro r' x grant
      rw [show e = _ from is, granted] at grant
      obtain ⟨rfl, rfl⟩ : r = r' ∧ now + transferTime d.rowHold r = x := by simpa using grant
      exact ⟨mem, first, oldest, notFull, urgent, rfl⟩
  · simp [e, is, refreshed, owed, owed.ne']
    exact .inr later
  · simp [e, is, idle, none_, empty]

/-! ### The controller's states (R26, R38, R39, R41) and its ticks (R32, R33) -/

/-- R26, R41: ACTIVE is entered with nothing waiting. -/
theorem Dram.enterActive_nothing {d : Dram} (now interval : Nat) (ordinary : d.Ordinary) (empty : d.waiting = []) :
    d.enterActive now interval =
      { d with
        state := .active
        stateEnds := none
        cause := none
        debt := 0
        rowHold := []
        nextTick := some (now + 20 * interval)
        exitAsked := false
        wakeExit := false } := by
  refine (Dram.arbitrate_nothing ?_ ?_ rfl).trans ?_
  · exact ordinary
  · exact empty
  · rfl

/-- R38: the auto self-refresh timer starts in STANDBY only. -/
theorem State.startAuto_notStandby {s : State} (awake : s.power.state ≠ .standby) : s.startAuto = s := by
  have off : (s.power.state == .standby) = false := by simpa using awake
  unfold State.startAuto Dram.startAuto
  rw [off, if_neg (by simp)]
  rfl

/-- Settles O18. -/
theorem controllerStates : Obligations.ControllerStates := by
  constructor
  · intro d s unordered held at_ active
    refine ⟨fun state ends idle empty due => ?_, fun state timer idle => ?_, fun e state timer busy => ?_,
      fun state ends cause => ?_, fun state ends unwoken idle empty due awake => ?_⟩
    · have entered := Dram.enterActive_nothing at_ (s.tables.p Param.refreshInterval) ⟨held, unordered, due⟩ empty
      change execInitEnd s = _
      unfold execInitEnd
      rw [state, ends]
      exact congrArg (fun x => Host.Outcome.next ((s.at d).withDram x)) entered
    · change execAutoSrTimerExpiry s = _
      unfold execAutoSrTimerExpiry
      rw [timer]
      simp [Dram.autoExpired, Dram.arbitrate, Dram.applyBanks, Dram.beginEntry, state, idle, held, unordered, State.at,
        State.withNow, State.withDram, at_]
    · change execAutoSrTimerExpiry s = _
      unfold execAutoSrTimerExpiry
      rw [timer]
      exact congrArg (fun x => Host.Outcome.next ((s.at d).withDram x)) (Dram.arbitrate_busy busy)
    · change execSrEntryEnd s = _
      unfold execSrEntryEnd
      rw [state, ends]
      by_cases quiet : s.dram.waiting = [] ∧ s.dram.exitAsked = false
      · simp [Dram.entryEnd, quiet, cause, State.reportAsleep, Dram.asleep, State.at, State.withNow, State.withDram, at_]
      · have asked : s.dram.waiting ≠ [] ∨ s.dram.exitAsked = true := by
          by_cases h : s.dram.waiting = []
          · exact .inr (by simpa [h] using quiet)
          · exact .inl h
        simp [Dram.entryEnd, Dram.beginExit, quiet, asked, cause, State.reportAsleep, Dram.asleep, State.at, State.withNow,
          State.withDram, at_, Config.us]
    · have entered := Dram.enterActive_nothing at_ (s.tables.p Param.refreshInterval) ⟨held, unordered, due⟩ empty
      change execSrExitEnd s = _
      unfold execSrExitEnd
      rw [state, ends]
      have result : (s.at d).exitEnded = (s.at d).withDram (s.dram.enterActive at_ (s.tables.p Param.refreshInterval)) := by
        unfold State.exitEnded
        rw [State.startAuto_notStandby (by exact awake)]
        exact if_neg (by simp [unwoken])
      exact (congrArg Host.Outcome.next result).trans (congrArg (fun x => Host.Outcome.next ((s.at d).withDram x)) entered)
  · intro now e dram k
    refine ⟨fun state ends => ?_, fun state ends => ?_, fun state beyond => ?_, fun state busy => ?_, fun state idle => ?_⟩
    · simp [Dram.ras, state, ends]
    · simp [Dram.ras, state, ends]
    · have : ¬k.val < dram.banks := Nat.not_lt.2 beyond
      unfold Dram.ras
      split <;> simp_all
    · have : dram.refreshing = true := Dram.refreshing_iff.2 ⟨e, busy⟩
      simp [Dram.ras, state, this]
    · have : dram.refreshing = false := by
        rw [Bool.eq_false_iff]
        exact fun h => (Dram.refreshing_iff.1 h).elim fun e' h => idle e' h
      simp [Dram.ras, state, this, Dram.holdsRow_iff]

/-- R32: a tick, before the arbiter's decision. -/
theorem execRefreshTick_next {s : State} {d : Nat} (active : s.dram.state = .active) (tick : s.dram.nextTick = some d) :
    exec .refreshTick s = .next (s.at d).tickNow := by
  change execRefreshTick s = _
  unfold execRefreshTick
  rw [active, tick]

/-- Settles O19. -/
theorem refreshTicks : Obligations.RefreshTicks := by
  intro d s active at_ next
  refine ⟨fun a tick busy below => ?_, fun a tick busy full room => ?_, fun tick idle empty none_ unordered due held => ?_,
    fun busy empty none_ unordered due held => ?_⟩
  · rw [execRefreshTick_next active tick]
    have ticked : s.dram.tick at_ (s.tables.p Param.refreshInterval) =
        { s.dram with debt := s.dram.debt + 1, nextTick := next } := by
      refine (Dram.arbitrate_busy (by exact busy)).trans ?_
      rw [Nat.min_eq_right (by omega), if_neg (by omega)]
      rfl
    unfold State.tickNow
    dsimp only
    rw [if_neg (by simp; omega)]
    exact congrArg (fun x => Host.Outcome.next ((s.at d).withDram x)) ticked
  · rw [execRefreshTick_next active tick]
    have ticked : s.dram.tick at_ (s.tables.p Param.refreshInterval) =
        { s.dram with nextTick := next, overruns := min 65535 (s.dram.overruns + 1) } := by
      refine (Dram.arbitrate_busy (by exact busy)).trans ?_
      rw [if_pos (by omega), Nat.min_eq_left (by omega), ← full]
      rfl
    have raised : (s.at d).tickNow =
        State.raise ((s.at d).withDram (s.dram.tick at_ (s.tables.p Param.refreshInterval))) .refreshOverrun :=
      if_pos (by simp [full])
    refine ⟨_, rfl, ?_⟩
    rw [raised, ticked]
    exact State.raise_room (by exact room)
  · rw [execRefreshTick_next active tick]
    have ticked : s.dram.tick at_ (s.tables.p Param.refreshInterval) =
        { s.dram with nextTick := next, rowHold := [], current := some (.refresh (at_ + 4)) } := by
      refine (Dram.arbitrate_refresh (by exact active) (by exact idle) ?_ (by exact empty) (by simp)).trans ?_
      · exact ⟨held, unordered, due⟩
      · unfold Dram.grantRefresh
        simp [none_, next, Config.us]
    unfold State.tickNow
    dsimp only
    rw [if_neg (by simp [none_])]
    exact congrArg (fun x => Host.Outcome.next ((s.at d).withDram x)) ticked
  · change execRefreshEnd s = _
    unfold execRefreshEnd
    rw [busy]
    have finished : s.dram.finish at_ = { s.dram with current := none } :=
      Dram.arbitrate_nothing ⟨held, unordered, due⟩ (by exact empty) (by exact none_)
    exact congrArg (fun x => Host.Outcome.next ((s.at d).withDram x)) finished

end Sys2Proof.Machine

/-! # Pages that nobody waits for, and the ends of transfers (O24, O25, O32)

With no reader, a commit or a close of a page is the change of its record and nothing more; with nothing waiting, bands that join
the free list stay there. The events of a step are collected by `State.Reports`. -/

namespace Sys2Proof.Machine

section

variable {s t : State}

/-! ### A page record replaced -/

theorem State.page_withPage {p : Nat} (r : PageRec) (inside : p < 32) : (s.withPage p r).page p = r := by
  unfold State.page
  simp [inside]

theorem State.page_withPage_ne {p q : Nat} (r : PageRec) (other : p ≠ q) : (s.withPage p r).page q = s.page q := by
  unfold State.page
  simp [other]

theorem PageStore.withPage_withPage (x : PageStore) (p : Nat) (r r' : PageRec) :
    (x.withPage p r).withPage p r' = x.withPage p r' := by
  unfold PageStore.withPage
  congr 1
  ext i h
  simp only [Vector.getElem_setIfInBounds]
  split <;> rfl

/-! ### Nothing waits and nobody reads -/

/-- R12: with no band request waiting and no memory-low signal standing, bands that join the free list stay there. -/
theorem State.lookWaiting_idle (scan : s.store.scanWaits = false) (low : s.store.memoryLow = false)
    (wait : s.store.poolWait = none) : s.lookWaiting = s := by
  have granted : s.grantScanWaiting = s := by
    unfold State.grantScanWaiting
    rw [scan]
  have looked : s.lookLink = s := by
    unfold State.lookLink
    rw [wait]
  unfold State.lookWaiting
  rw [granted, looked]
  exact if_neg (by simp [low])

theorem State.wakeFetch_unprinted (p : Nat) (unprinted : s.print.queue = []) : s.wakeFetch p = s :=
  if_neg fun h => h.1 unprinted

theorem State.endFetch_unprinted (p : Nat) (unprinted : s.print.queue = []) : s.endFetch p = s :=
  if_neg fun h => h.1 unprinted

theorem State.printPageTest_unprinted (p : Nat) (unprinted : s.print.queue = []) : s.printPageTest p = s :=
  if_neg fun h => h.1 unprinted

theorem State.readBegin_unread (unread : s.link.reads = []) : ∀ n, s.readBegin n = s
  | 0 => rfl
  | n + 1 => by
    unfold State.readBegin
    rw [unread]

theorem State.readOn_unread (unread : s.link.reads = []) : s.readOn = s := State.readBegin_unread unread _

/-- R148: an entry at the end of an OPEN page's lines waits for the page's writer. -/
theorem State.readOn_waits {x : ReadEntry} {rest : List ReadEntry} (reads : s.link.reads = x :: rest)
    (image : (s.page x.page).kind = some .image) (opened : (s.page x.page).state = .opened)
    (ahead : (s.page x.page).committed ≤ x.cursor) : s.readOn = s := by
  unfold State.readOn
  rw [State.readBegin.eq_def]
  simp only [reads, List.length_cons]
  split
  · rfl
  · simp [image, Nat.not_lt.2 ahead]

/-- R14: with no reader a commit wakes nobody. -/
theorem State.wakeReaders_unread (p : Nat) (unprinted : s.print.queue = []) (unread : s.link.reads = []) :
    s.wakeReaders p = s := by
  unfold State.wakeReaders
  rw [State.wakeFetch_unprinted p unprinted, State.printPageTest_unprinted p unprinted, State.readOn_unread unread]

/-- R14: with no reader a close tells nobody. -/
theorem State.tellReaders_unread (p : Nat) (unprinted : s.print.queue = []) (unread : s.link.reads = []) :
    s.tellReaders p = s := by
  unfold State.tellReaders
  rw [State.endFetch_unprinted p unprinted, State.printPageTest_unprinted p unprinted, State.readOn_unread unread]

/-- R17: only a STREAM page with a consumer is consumed. -/
theorem State.consume_kept {p : Nat} (kept : (s.page p).mode ≠ some .stream ∨ (s.page p).consumer = none) :
    ∀ n, s.consume p n = s
  | 0 => rfl
  | n + 1 => by
    unfold State.consume
    dsimp only
    split
    · rfl
    · exact if_neg fun h => kept.elim (fun k => k h.1) (fun k => h.2.1 k)

theorem State.disownWrites_eq (p : Nat) :
    s.disownWrites p = { s with dram := { s.dram with current := (s.disownWrites p).dram.current } } := by
  unfold State.disownWrites State.disown State.withDram Dram.disown
  split
  · dsimp only
    split <;> rfl
  · rfl

/-! ### Events one after another -/

theorem Link.room.mono {l : Link} {m n : Nat} (room : l.room n) (less : m ≤ n) : l.room m :=
  ⟨room.1, Nat.le_trans (Nat.add_le_add_left less _) room.2⟩

/-- A state is another with events reported, whatever the assembler has then chosen. -/
def State.Reports (s : State) (es : List Event) (t : State) : Prop :=
  ∃ c, t = { s with link := s.link.reported es c }

theorem State.Reports.none (s : State) : s.Reports [] s :=
  ⟨s.link.chosen, by unfold Link.reported; rw [List.append_nil]⟩

theorem State.Reports.raise {es : List Event} {e : Event} (so_far : s.Reports es t) (room : s.link.room (es.length + 1)) :
    s.Reports (es ++ [e]) (t.raise e) := by
  obtain ⟨c, rfl⟩ := so_far
  have more : (s.link.reported es c).room 1 := by
    obtain ⟨overflow, length⟩ := room
    refine ⟨overflow, ?_⟩
    rw [List.length_append]
    omega
  obtain ⟨d, raised⟩ : ∃ d, State.raise { s with link := s.link.reported es c } e =
      { s with link := (s.link.reported es c).reported [e] d } := ⟨_, State.raise_room more⟩
  refine ⟨d, raised.trans ?_⟩
  unfold Link.reported
  rw [List.append_assoc]

theorem State.Reports.one {e : Event} (room : s.link.room 1) : s.Reports [e] (s.raise e) := (State.Reports.none s).raise room

/-- R192: a step that ends with the test of its timers, with no sleep pending. -/
theorem next_settled {i : Instr} (step : exec i s = .next t.settled) (awake : t.power.sleepPending = none) :
    exec i s = .next { t with power := t.power.timed t.settled.power } := by
  rw [step]
  exact congrArg Host.Outcome.next (State.settled_eq awake)

/-! ### Commits without a reader (R6) -/

/-- R2, R6: the record after a commit, in the words of the statement. -/
theorem PageRec.committing_eq (n : Nat) (r : PageRec) : r.committing n =
    { r with
      committed := r.committed + n
      filling :=
        if r.committed / (if r.kind = some .block then 8192 else 32) - r.base / (if r.kind = some .block then 8192 else 32) + 1 =
          r.chain.length then false else r.filling } := by
  unfold PageRec.committing PageRec.commitsAtTail PageRec.bandUnit
  generalize (if r.kind = some .block then 8192 else 32) = unit
  by_cases tail : r.committed / unit - r.base / unit + 1 = r.chain.length <;> simp [tail]

theorem State.commit_unread {p : Nat} (n : Nat) (inside : p < 32) (unprinted : s.print.queue = []) (unread : s.link.reads = [])
    (kept : (s.page p).mode ≠ some .stream ∨ (s.page p).consumer = none) :
    s.commit p n = s.withPage p ((s.page p).committing n) := by
  unfold State.commit
  rw [State.wakeReaders_unread p (by exact unprinted) (by exact unread)]
  refine State.consume_kept ?_ _
  rw [State.page_withPage _ inside]
  exact kept

theorem Dram.finish_slotless {d : Dram} (now : Nat) : d.slotless.finish now = d.finish now := by
  unfold Dram.finish Dram.slotless
  split <;> rfl

theorem Dram.ending_eq {d : Dram} {r : Request} {e : Nat} (current : d.current = some (.transfer r e)) :
    d.ending r.cls = some (r, e) := by
  unfold Dram.ending
  rw [current]
  exact if_pos rfl

theorem State.commits_eq {r : Request} {w : Writer} (live : r.live = true) (opened : (s.page r.page).state = .opened)
    (writer : (s.page r.page).writer = some w) : s.commits r w = true := by
  unfold State.commits
  simp [live, opened, writer]

/-! ### The ends of transfers on the whole part -/

theorem exec_scanLineWriteEnd {r : Request} {e : Nat} (current : s.dram.current = some (.transfer r e)) (cls : r.cls = .scanWrite) :
    exec .scanLineWriteEnd s = .next (((((s.at e).storeBytes r).slotless).scanWriteOver r).endTransfer).settled := by
  change execScanLineWriteEnd s = _
  unfold execScanLineWriteEnd
  rw [← cls, Dram.ending_eq current]

theorem exec_linkWriteEnd {r : Request} {e : Nat} (current : s.dram.current = some (.transfer r e)) (cls : r.cls = .linkWrite) :
    exec .linkWriteEnd s = .next ((((s.at e).storeBytes r).linkWriteOver r).endTransfer).settled := by
  change execLinkWriteEnd s = _
  unfold execLinkWriteEnd
  rw [← cls, Dram.ending_eq current]

theorem exec_printFetchEnd {r : Request} {e : Nat} (current : s.dram.current = some (.transfer r e)) (cls : r.cls = .printFetch) :
    exec .printFetchEnd s = .next ((s.at e).fetchOver r).endTransfer := by
  change execPrintFetchEnd s = _
  unfold execPrintFetchEnd
  rw [← cls, Dram.ending_eq current]

theorem exec_linkReadEnd {r : Request} {e : Nat} (current : s.dram.current = some (.transfer r e)) (cls : r.cls = .linkRead) :
    exec .linkReadEnd s = .next ((s.at e).linkReadOver r).endTransfer := by
  change execLinkReadEnd s = _
  unfold execLinkReadEnd
  rw [← cls, Dram.ending_eq current]

/-- R59, R60: the last write of the list has ended: its slot is free. -/
theorem ScanUnit.writeDone_only {u : ScanUnit} {w : ScanWrite} {index : Nat} (i : SlotId) (only : u.writes = [w])
    (written : w.index = index) : u.writeDone index i = ({ u with writes := [] } : ScanUnit).useSlot i .free := by
  unfold ScanUnit.writeDone ScanUnit.settleSlot
  simp [only, written]

theorem ScanUnit.useSlot_eq (u : ScanUnit) (i : SlotId) (x : SlotUse) :
    u.useSlot i x = { u with slotA := (u.useSlot i x).slotA, slotB := (u.useSlot i x).slotB } := by
  cases i <;> rfl

theorem ScanUnit.slot_useSlot (u : ScanUnit) (i : SlotId) (x : SlotUse) :
    ((u.useSlot i x).slot i).use = x ∧ ∀ j, j ≠ i → (u.useSlot i x).slot j = u.slot j := by
  cases i <;> refine ⟨rfl, fun j other => ?_⟩ <;> cases j <;> first | rfl | exact absurd rfl other

/-- R59: the end of a wanted scan line write, with no other write of the job left. -/
theorem State.scanWriteOver_only {r : Request} {i : SlotId} {w : ScanWrite} (commits : s.commits r .scan = true)
    (slot : r.slot = some i) (only : s.scan.writes = [w]) (written : w.index = r.index) (inside : r.page < 32)
    (unprinted : s.print.queue = []) (unread : s.link.reads = []) (kept : (s.page r.page).mode = some .keep)
    (capturing : s.scan.job.state = .capture) (page : s.scan.job.page = some r.page)
    (short : (s.page r.page).committed + 1 ≠ s.tables.p Param.maxDocLines) :
    s.scanWriteOver r =
      (s.withScan (s.scan.writeDone r.index i)).withPage r.page ((s.page r.page).committing 1) := by
  have freed := ScanUnit.writeDone_only i only written
  have job : (s.scan.writeDone r.index i).job = s.scan.job := by
    rw [freed]
    cases i <;> rfl
  have writes : (s.scan.writeDone r.index i).writes = [] := by
    rw [freed]
    cases i <;> rfl
  unfold State.scanWriteOver
  rw [slot]
  dsimp only [Option.getD]
  rw [if_pos commits]
  generalize s.scan.writeDone r.index i = u at job writes ⊢
  have committed := State.commit_unread (s := s.withScan u) 1 inside unprinted unread (.inl (by
    change (s.page r.page).mode ≠ _
    simp [kept]))
  rw [committed]
  change (((State.withPage _ _ ((s.page r.page).committing 1)).jamTest).scanAdvance 3).ejectCheck = _
  have jam : ((s.withScan u).withPage r.page ((s.page r.page).committing 1)).jamTest =
      (s.withScan u).withPage r.page ((s.page r.page).committing 1) := by
    refine if_neg fun h => short ?_
    have reached := h.2.2
    simp only [State.withPage_scan, State.withScan_scan, job, page, Option.getD_some, State.page_withPage _ inside] at reached
    exact reached
  have next : u.nextWrite = none := by
    unfold ScanUnit.nextWrite
    rw [writes]
    rfl
  have advanced : ((s.withScan u).withPage r.page ((s.page r.page).committing 1)).scanAdvance 3 =
      (s.withScan u).withPage r.page ((s.page r.page).committing 1) := by
    unfold State.scanAdvance
    simp only [State.withPage_scan, State.withScan_scan, next]
  rw [jam, advanced]
  exact if_pos (by simp [job, capturing])

/-- R6, R144, R145: a wanted link write ends that carried the last of its record. -/
theorem State.linkWriteOver_last {r : Request} {j : LinkJob} {n : Nat} (live : r.live = true) (commits : s.commits r .link = true)
    (writer : s.link.writer = some j) (last : j.isLine = true ∨ j.data.length ≤ r.count)
    (count : n = if j.isLine = true then 1 else r.count) : s.linkWriteOver r = (s.commit r.page n).withWriter none := by
  have empty : (if j.isLine = true then [] else j.data.drop r.count) = [] := by
    rcases last with line | short
    · exact if_pos line
    · split
      · rfl
      · exact List.drop_eq_nil_of_le short
  unfold State.linkWriteOver
  rw [if_pos live, writer]
  dsimp only
  rw [if_pos commits]
  unfold State.linkWritten
  dsimp only
  rw [if_pos empty, ← count]

/-- R17: a head band of a STREAM page is consumed where both its lines and the mark have passed it, and the band behind it not. -/
theorem State.consume_head {p : Nat} {b : Band} {rest : List Band} (inside : p < 32) (stream : (s.page p).mode = some .stream)
    (consumer : (s.page p).consumer ≠ none) (image : (s.page p).kind = some .image) (chain : (s.page p).chain = b :: rest)
    (passed : (s.page p).base + 32 ≤ (s.page p).mark) (whole : (s.page p).base + 32 ≤ (s.page p).committed)
    (unfinished : (s.page p).committed < (s.page p).base + 64) (scan : s.store.scanWaits = false)
    (low : s.store.memoryLow = false) (wait : s.store.poolWait = none) :
    s.consumeAll p = (s.withPage p { s.page p with chain := rest, base := (s.page p).base + 32 }).addBands [b] := by
  have unit : (s.page p).bandUnit = 32 := if_neg (by simp [image])
  unfold State.consumeAll
  rw [chain, List.length_cons, State.consume]
  dsimp only
  rw [chain]
  dsimp only
  rw [unit, if_pos ⟨stream, consumer, passed, whole⟩, State.lookWaiting_idle (by exact scan) (by exact low) (by exact wait)]
  generalize taken : (s.withPage p { s.page p with chain := rest, base := (s.page p).base + 32 }).addBands [b] = t
  have page : t.page p = { s.page p with chain := rest, base := (s.page p).base + 32 } := by
    subst taken
    exact State.page_withPage _ inside
  cases rest with
  | nil => rfl
  | cons b' rest' =>
    rw [List.length_cons, State.consume, page]
    have unit' : ({ s.page p with chain := b' :: rest', base := (s.page p).base + 32 } : PageRec).bandUnit = 32 := unit
    dsimp only
    rw [unit']
    exact if_neg fun h => by
      have := h.2.2.2
      omega

end

/-- Settles O24, by the unit that wrote. -/
theorem writesCommit : Obligations.WritesCommit := by
  refine ⟨fun r e s current live inside opened keep unprinted unread awake => ?_, fun r e j b rest s current live cls inside writer
    line scan low wait unprinted awake => ?_⟩
  · intro at_ dram' p unit stored
    have storing : ∀ n, s.store.withPage r.page (p.committing n) = stored n := fun n =>
      congrArg (s.store.withPage r.page) (PageRec.committing_eq n p)
    refine ⟨fun w i cls slot only written _ owner capturing page short => ?scan, fun j cls owned owner last => ?link⟩
    case scan =>
      have finished : s.dram.slotless.finish at_ = s.dram.finish at_ := Dram.finish_slotless at_
      have commits : (((s.at e).storeBytes r).slotless).commits r .scan = true := State.commits_eq live opened owner
      have ended := State.scanWriteOver_only commits slot only written inside unprinted unread keep capturing page short
      have freed : s.scan.writeDone r.index i = ({ s.scan with writes := [] } : ScanUnit).useSlot i .free :=
        ScanUnit.writeDone_only i only written
      have step := exec_scanLineWriteEnd current cls
      rw [ended] at step
      refine ⟨_, next_settled step awake, ?_, ?_⟩
      · rw [State.mk.injEq]
        refine ⟨rfl, rfl, rfl, rfl, storing 1, congrArg (Dram.startAuto _ _ _) finished, rfl, rfl, ?_, rfl, rfl, rfl, rfl⟩
        refine Eq.trans (b := s.scan.writeDone r.index i) rfl ?_
        rw [freed]
        refine (ScanUnit.useSlot_eq _ i .free).trans ?_
        rw [← freed]
        rfl
      · have slots := ScanUnit.slot_useSlot { s.scan with writes := [] } i .free
        rw [← freed] at slots
        exact slots
    case link =>
      have commits : ((s.at e).storeBytes r).commits r .link = true := State.commits_eq live opened owner
      have ended := State.linkWriteOver_last live commits owned last rfl
      have committed := State.commit_unread (s := (s.at e).storeBytes r) (if j.isLine = true then 1 else r.count) inside unprinted
        unread (.inl (by change (s.page r.page).mode ≠ _; simp [keep]))
      have step := exec_linkWriteEnd current cls
      rw [ended, committed] at step
      refine ⟨_, next_settled step awake, ?_⟩
      rw [State.mk.injEq]
      exact ⟨rfl, rfl, rfl, rfl, storing _, rfl, rfl, rfl, rfl, rfl, rfl, rfl, rfl⟩
  · intro p opened stream image owner chain unfilled passed whole at_ written
    have commits : ((s.at e).storeBytes r).commits r .link = true := State.commits_eq live opened owner
    have ended := State.linkWriteOver_last (n := 1) live commits writer (.inl line) (if_pos line).symm
    have unit : p.bandUnit = 32 := if_neg (by simp [image])
    have committing : p.committing 1 = { p with committed := p.committed + 1 } := by
      unfold PageRec.committing
      rw [unfilled]
      rfl
    refine ⟨fun x consumer reading same empty ahead => ?consumed, fun consumer unread => ?kept⟩
    case consumed =>
      let y := ((s.at e).storeBytes r).withPage r.page { p with committed := p.committed + 1 }
      have page : y.page r.page = { p with committed := p.committed + 1 } := State.page_withPage _ inside
      have woken : y.wakeReaders r.page = y := by
        unfold State.wakeReaders
        rw [State.wakeFetch_unprinted (s := y) r.page unprinted, State.printPageTest_unprinted (s := y) r.page unprinted]
        refine State.readOn_waits reading ?_ ?_ ?_ <;> rw [same, page]
        · exact image
        · exact opened
        · exact ahead
      have consumed := State.consume_head (s := y) (b := b) (rest := rest) inside
      rw [page] at consumed
      have committed : ((s.at e).storeBytes r).commit r.page 1 = _ :=
        (congrArg (fun t => (State.wakeReaders (State.withPage _ r.page t) r.page).consumeAll r.page) committing).trans
          ((congrArg (fun t : State => t.consumeAll r.page) woken).trans
            (consumed stream (by simp [consumer]) image chain passed whole.ge (by dsimp only; omega) scan low wait))
      have step := exec_linkWriteEnd current cls
      rw [ended, committed] at step
      refine ⟨_, next_settled step awake, ?_⟩
      rw [State.mk.injEq]
      refine ⟨rfl, rfl, rfl, rfl, ?_, rfl, rfl, rfl, rfl, rfl, rfl, rfl, rfl⟩
      exact PageStore.withPage_withPage { s.store with freeList := s.store.freeList ++ [b] } r.page _ _
    case kept =>
      have committed := State.commit_unread (s := (s.at e).storeBytes r) 1 inside unprinted unread (.inr consumer)
      have step := exec_linkWriteEnd current cls
      rw [ended, committed] at step
      refine ⟨_, next_settled step awake, ?_⟩
      rw [State.mk.injEq]
      exact ⟨rfl, rfl, rfl, rfl, congrArg (s.store.withPage r.page) committing, rfl, rfl, rfl, rfl, rfl, rfl, rfl, rfl⟩

/-- Settles O25. -/
theorem readsDeliver : Obligations.ReadsDeliver := by
  intro r e s current live at_ dram' bytes
  refine ⟨fun cls busy => ?_, fun cls line => ?_⟩
  · rw [exec_printFetchEnd current cls]
    unfold State.fetchOver
    rw [if_pos live]
    unfold State.fetchArrived
    dsimp only
    rw [if_neg (by exact busy)]
    rfl
  · refine ⟨_, exec_linkReadEnd current cls, ?_⟩
    unfold State.linkReadOver
    rw [if_pos live]
    unfold State.readPieceEnded
    dsimp only
    rw [if_neg (by simp [line]), State.choose_eq]
    rfl

/-! ### A close without readers (R7, R13) -/

section

variable {s : State}

/-- R6, R7: a page shut, and what its writer still has in transfer no longer wanted. -/
theorem State.shutPage_eq (p : Nat) (truncated : Bool) : ∃ c, s.shutPage p truncated = { s with
    store := ({ s.store with freeList := s.store.freeList ++ (s.page p).returned } : PageStore).withPage p
      ((s.page p).close truncated)
    dram := { s.dram with current := c } } := ⟨_, State.disownWrites_eq p⟩

/-- R7, R14, R12: the close of a page that nobody reads, with nothing waiting for bands. -/
theorem State.closePage_unattended (p : Nat) (truncated : Bool) (unattended : s.unattended) :
    s.closePage p truncated =
      ((s.shutPage p truncated).raise (.pageClosed p (s.page p).committed truncated (s.page p).label)).autoRelease p := by
  obtain ⟨scan, low, wait, unprinted, unread⟩ := unattended
  obtain ⟨c, shut⟩ := State.shutPage_eq (s := s) p truncated
  unfold State.closePage
  dsimp only
  generalize s.shutPage p truncated = t at shut ⊢
  generalize closing : t.raise _ = u
  have store : u.store = t.store := by rw [← closing, State.raise_store]
  have print : u.print = t.print := by rw [← closing, State.raise_print]
  have reads : u.link.reads = t.link.reads := by rw [← closing, State.raise_link, Link.choose_reads, Link.push_reads]
  rw [State.lookWaiting_idle (by rw [store, shut]; exact scan) (by rw [store, shut]; exact low) (by rw [store, shut]; exact wait),
    State.tellReaders_unread p (by rw [print, shut]; exact unprinted) (by rw [reads, shut]; exact unread)]

/-- R20: a KEEP page whose retain flag is set stays. -/
theorem State.autoRelease_retained {p : Nat} (keep : (s.page p).mode = some .keep) (retained : (s.page p).retain = some true) :
    s.autoRelease p = s := by
  refine if_neg ?_
  simp [PageRec.mayRelease, keep, retained]

/-- R7: the close of a retained page that nobody reads reports PAGE_CLOSED. -/
theorem State.closePage_retained {p : Nat} {truncated : Bool} (inside : p < 32) (keep : (s.page p).mode = some .keep)
    (retained : (s.page p).retain = some true) (unattended : s.unattended) (room : s.link.room 1) :
    (s.shutPage p truncated).Reports [.pageClosed p (s.page p).committed truncated (s.page p).label]
      (s.closePage p truncated) := by
  obtain ⟨c, shut⟩ := State.shutPage_eq (s := s) p truncated
  rw [State.closePage_unattended p truncated unattended]
  generalize s.shutPage p truncated = y at shut ⊢
  have closed := State.Reports.one (s := y) (e := .pageClosed p (s.page p).committed truncated (s.page p).label)
    (by rw [shut]; exact room)
  have page : State.page (y.raise (.pageClosed p (s.page p).committed truncated (s.page p).label)) p =
      (s.page p).close truncated := by
    obtain ⟨c, closed⟩ := closed
    rw [closed, shut]
    exact State.page_withPage _ inside
  rwa [State.autoRelease_retained (by rw [page]; exact keep) (by rw [page]; exact retained)]

end

/-- Settles O32. -/
theorem poolWaitExpires : Obligations.PoolWaitExpires := by
  intro w s wait inside keep retained unfilled scan low unprinted unread awake room r
  have step : exec .poolWaitExpiry s = .next ((s.at w.deadline).poolTimeout w).settled := by
    change execPoolWaitExpiry s = _
    unfold execPoolWaitExpiry
    rw [wait]
  have shutRecord : r.close true = { r with state := .closed, writer := none, truncated := true } := by
    simp [PageRec.close, r, unfilled]
  have returned : r.returned = [] := by simp [PageRec.returned, r, unfilled]
  let x := ((s.at w.deadline).withStore { s.store with poolWait := none }).withWriter none
  obtain ⟨current, shut⟩ : ∃ c, x.shutPage w.page true = { x with
      store := ({ x.store with freeList := s.store.freeList ++ r.returned } : PageStore).withPage w.page (r.close true)
      dram := { s.dram with current := c } } := State.shutPage_eq w.page true
  rw [shutRecord, returned, List.append_nil] at shut
  have closed : (x.shutPage w.page true).Reports _ (x.closePage w.page true) :=
    State.closePage_retained inside keep retained ⟨scan, low, rfl, unprinted, unread⟩ (room.mono (by decide))
  obtain ⟨chosen, expired⟩ : (x.shutPage w.page true).Reports _ ((s.at w.deadline).poolTimeout w) :=
    closed.raise (by rw [shut]; exact room)
  rw [expired, shut] at step
  exact ⟨_, next_settled step awake, rfl⟩

end Sys2Proof.Machine

/-! # The Stream Link's bytes and data records (O26, O27, O28, O30, O31) -/

namespace Sys2Proof.Machine

section

variable {s t : State}

/-! ### The host's strobes (R138, R154) -/

theorem State.drdy_asleep (stopped : s.power.downstreamWorks = false) : s.drdy = false := by
  unfold State.drdy
  rw [stopped]
  rfl

/-- R138: a byte written while DRDY is not asserted. -/
theorem State.hostWrites_lost {b : Byte} (unready : s.drdy = false) :
    s.hostWrites b =
      if s.power.state = .sleep ∨ (s.power.state = .enteringSleep ∧ s.power.drdyDropped = true) then s.wakeSeen .host else s := by
  unfold State.hostWrites
  rw [unready]
  rfl

/-- Settles O26, by DRDY, UREADY and the power state. -/
theorem hostBytes : Obligations.HostBytes := by
  refine fun b s => ⟨fun ready => ?_, fun unready awake running => ?_, fun asleep => ?_, fun falling dropped free => ?_,
    fun rest ready up => ?_, fun unready => ?_⟩
  · exact congrArg Host.Outcome.next (if_pos ready)
  · refine congrArg Host.Outcome.next ((State.hostWrites_lost unready).trans (if_neg ?_))
    simp [awake, running]
  · have lost := (State.hostWrites_lost (b := b) (State.drdy_asleep (s := s) (by simp [Power.downstreamWorks, asleep]))).trans
      (if_pos (.inl asleep))
    refine ⟨_, congrArg Host.Outcome.next lost, ?_⟩
    unfold State.wakeSeen
    rw [asleep]
    rfl
  · have lost := (State.hostWrites_lost (b := b) (State.drdy_asleep (s := s)
      (by simp [Power.downstreamWorks, falling, dropped]))).trans
      (if_pos (.inr ⟨falling, dropped⟩))
    refine congrArg Host.Outcome.next (lost.trans ?_)
    unfold State.wakeSeen
    rw [falling]
    exact if_pos free
  · refine congrArg Host.Outcome.next ?_
    unfold State.hostReads
    rw [up]
    exact if_pos ready
  · refine congrArg Host.Outcome.next ?_
    unfold State.hostReads
    split
    · exact if_neg (by simp [unready])
    · rfl

/-! ### The parser (R139, R140) -/

theorem exec_parserByteTaken (works : s.power.downstreamWorks = true) : exec .parserByteTaken s = .next s.takeByte.settled :=
  congrArg Host.Outcome.next (if_pos works)

/-- R139: after a loss of frame with no SYNC among the bytes left, the parser hunts and FRAMING is raised. -/
theorem State.frameLost_reports {bytes : List Byte} (unsynced : ∀ b ∈ bytes, b ≠ syncByte) (room : s.link.room 1) :
    State.Reports { s with link := { s.link with parser := Parser.reset } } [.framing] (s.frameLost bytes) := by
  have hunting : huntAgain bytes = Parser.reset := by
    unfold huntAgain
    rw [List.dropWhile_eq_nil_iff.2 (by simpa using unsynced)]
  unfold State.frameLost
  rw [hunting]
  exact State.Reports.one room

theorem State.takeByte_hunt {b : Byte} {rest : List Byte} (down : s.link.down = b :: rest) (hunt : s.link.parser.state = .hunt) :
    s.takeByte = if b = syncByte then (s.withLink { s.link with down := rest }).withParser { Parser.ready with header := [b] }
      else s.withLink { s.link with down := rest } := by
  unfold State.takeByte
  rw [down, hunt]

theorem State.takeByte_inHeader {b : Byte} {rest : List Byte} (down : s.link.down = b :: rest)
    (header : s.link.parser.state = .header) : s.takeByte = (s.withLink { s.link with down := rest }).headerByte b := by
  unfold State.takeByte
  rw [down, header]

theorem State.takeByte_held (held : s.link.parser.state = .held) : s.takeByte = s := by
  unfold State.takeByte
  rw [held]
  split <;> rfl

/-- Settles O27, by the parser's state. -/
theorem parserBytes : Obligations.ParserBytes := by
  intro b rest s down works awake
  have step := exec_parserByteTaken works
  refine ⟨fun hunt other => ?_, fun hunt sync => ?_, fun ready other room => ?_,
    fun kind tag hi state header long k t h l room => ?_, fun held => ?_⟩
  · rw [State.takeByte_hunt down hunt, if_neg (by exact other)] at step
    exact ⟨_, next_settled step awake, rfl⟩
  · rw [State.takeByte_hunt down hunt, if_pos (by exact sync)] at step
    exact ⟨_, next_settled step awake, rfl⟩
  · have lost : (s.withLink { s.link with down := rest }).headerByte b =
        (s.withLink { s.link with down := rest }).frameLost [] := by
      unfold State.headerByte
      dsimp only
      exact if_pos ⟨by simp [ready, Parser.ready], other⟩
    obtain ⟨chosen, reports⟩ := State.frameLost_reports (s := s.withLink { s.link with down := rest }) (bytes := []) (by simp)
      (by exact room)
    rw [State.takeByte_inHeader down (by rw [ready]; rfl), lost, reports] at step
    exact ⟨_, next_settled step awake, rfl⟩
  · have length : headerLength [syncByte, kind, tag, hi, b] = 256 * hi.toNat + b.toNat := half_toNat hi b
    have lost : (s.withLink { s.link with down := rest }).headerByte b =
        (s.withLink { s.link with down := rest }).frameLost [kind, tag, hi, b] := by
      unfold State.headerByte
      simp only [State.withLink_link, header]
      rw [if_neg (by simp), if_neg (by simp)]
      exact if_pos (length ▸ long)
    obtain ⟨chosen, reports⟩ := State.frameLost_reports (s := s.withLink { s.link with down := rest })
      (bytes := [kind, tag, hi, b]) (by simpa using ⟨k, t, h, l⟩) (by exact room)
    rw [State.takeByte_inHeader down state, lost, reports] at step
    exact ⟨_, next_settled step awake, rfl⟩
  · rw [State.takeByte_held held] at step
    exact ⟨_, next_settled step awake, rfl⟩

/-! ### The record in HELD (R140 to R142) -/

theorem State.answer_replies {tag kind : Byte} {code : ResultCode} {data : List Byte} :
    ∃ c, s.answer tag kind code data = { s with link := s.link.replied tag kind code data c } := ⟨_, State.answer_eq⟩

/-- Settles O28. -/
theorem heldRecordHandedOn : Obligations.HeldRecordHandedOn := by
  intro s works held
  have step : exec .heldRecordHandedOn s = .next (if s.power.downstreamWorks = true ∧ s.link.parser.state = .held ∧
      s.mayHand s.link.parser.handed = true then (s.hand s.link.parser.handed).settled else s) := rfl
  refine ⟨fun i command taken => ?_, fun tag kind bad taken awake => ?_, fun waits => ?_⟩
  · rw [step, if_pos ⟨works, held, by rw [command]; exact taken⟩, command]
    rfl
  · rw [if_pos ⟨works, held, by rw [bad]; exact taken⟩, bad] at step
    obtain ⟨chosen, answered⟩ := State.answer_replies (s := s.withParser Parser.ready) (tag := tag) (kind := kind)
      (code := .badRecord) (data := [])
    rw [show s.hand (.badRecord tag kind) = _ from answered] at step
    exact ⟨_, next_settled step awake, rfl⟩
  · rw [step, if_neg (by simp [waits])]

/-! ### Data records (R144, R145) -/

theorem exec_line {page : Byte} {data : List Byte} (taken : s.takesData = true) :
    exec (.line page data) s = .next (s.takeLine page data) := congrArg Host.Outcome.next (if_pos taken)

theorem exec_block {page : Byte} {data : List Byte} (taken : s.takesData = true) :
    exec (.block page data) s = .next (s.takeBlock page data) := congrArg Host.Outcome.next (if_pos taken)

/-- R193: in RUN a data record does not concern the sleep timer. -/
theorem State.dataInStandby_run (run : s.power.state = .run) : s.dataInStandby = s := if_neg (by simp [run])

/-- R5: a page that is OPEN for the link and of the record's kind refuses no record that fits. -/
theorem PageRec.refuses_none {kind : PageKind} {r : PageRec} (opened : r.state = .opened) (writer : r.writer = some .link)
    (same : r.kind = some kind) (room : r.committed < if kind = .image then Config.maxLines else Config.maxBlockBytes) :
    r.refuses kind = none := by
  unfold PageRec.refuses
  rw [if_neg (by simp [opened, writer]), if_neg (by simp [same])]
  cases kind
  · rw [if_neg (by simpa using room), if_neg (by simp)]
  · rw [if_neg (by simp), if_neg (by simpa using room)]

/-- R27: a request that arrives while something is in progress joins its class. -/
theorem Dram.submit_busy {d : Dram} {a : Activity} (now exitTime : Nat) (r : Request) (active : d.state = .active)
    (busy : d.current = some a) : d.submit now exitTime r =
      { d with waiting := d.waiting ++ [{ r with afterOrder := d.sleepOrder }], autoTimer := none } := by
  unfold Dram.submit
  dsimp only
  rw [active]
  exact Dram.arbitrate_busy busy

/-- R144: the link writer requests the transfer of a line. -/
theorem State.linkRequest_line {j : LinkJob} {b : Band} {a : Activity} (writer : s.link.writer = some j) (line : j.isLine = true)
    (band : (s.page j.page).bandOfLine j.next = some b) (alone : s.dram.lingering .linkWrite = false)
    (active : s.dram.state = .active) (busy : s.dram.current = some a) :
    s.linkRequest = s.withDram { s.dram with
      waiting := s.dram.waiting ++
        [{ lineRequest .linkWrite j.page j.next ((s.page j.page).width.getD 0) b j.data none with
            afterOrder := s.dram.sleepOrder }]
      autoTimer := none } := by
  unfold State.linkRequest
  rw [writer]
  dsimp only
  rw [if_pos line, band]
  dsimp only
  rw [if_neg (by simp [alone]), if_pos line]
  exact congrArg s.withDram (Dram.submit_busy _ _ _ active busy)

/-- R145: the link writer requests the transfer of a piece. -/
theorem State.linkRequest_piece {j : LinkJob} {b : Band} {a : Activity} (writer : s.link.writer = some j) (block : j.isLine = false)
    (band : (s.page j.page).bandOfByte j.next = some b) (alone : s.dram.lingering .linkWrite = false)
    (active : s.dram.state = .active) (busy : s.dram.current = some a) :
    s.linkRequest = s.withDram { s.dram with
      waiting := s.dram.waiting ++
        [{ pieceRequest .linkWrite j.page j.next j.piece b (j.data.take j.piece) with afterOrder := s.dram.sleepOrder }]
      autoTimer := none } := by
  have notLine : ¬j.isLine = true := by simp [block]
  unfold State.linkRequest
  rw [writer]
  dsimp only
  rw [if_neg notLine, band]
  dsimp only
  rw [if_neg (by simp [alone]), if_neg notLine]
  exact congrArg s.withDram (Dram.submit_busy _ _ _ active busy)

/-- R144: the link writer's record of a line. -/
def LinkJob.line (page next width : Nat) (data : List Byte) : LinkJob :=
  { isLine := true, page := page, next := next, data := fitLine width data }

/-- R144: a LINE that is taken. -/
theorem State.takeLine_taken {page : Byte} {data : List Byte} {w : Nat} (run : s.power.state = .run)
    (opened : (s.page page.toNat).state = .opened) (writer : (s.page page.toNat).writer = some .link)
    (image : (s.page page.toNat).kind = some .image) (width : (s.page page.toNat).width = some w)
    (room : (s.page page.toNat).committed < 16383) :
    s.takeLine page data =
      (s.withWriter (some (LinkJob.line page.toNat (s.page page.toNat).committed w data))).linkAdvance := by
  unfold State.takeLine
  rw [State.dataInStandby_run run]
  dsimp only
  rw [PageRec.refuses_none opened writer image room, width]
  rfl

/-- R10, R12: the link writer goes on in a band begun, with a band granted, or with a pool wait. -/
theorem State.linkAdvance_within {j : LinkJob} (writer : s.link.writer = some j) (within : j.needsBand = false) :
    s.linkAdvance = s.linkRequest := by
  unfold State.linkAdvance
  rw [writer]
  exact if_neg (by simp [within])

theorem State.linkAdvance_granted {j : LinkJob} (writer : s.link.writer = some j) (needs : j.needsBand = true)
    (bands : s.reserve < s.store.freeList.length) : s.linkAdvance = (s.grantBand j.page).linkRequest := by
  unfold State.linkAdvance
  rw [writer]
  exact (if_pos needs).trans (if_pos bands)

theorem State.linkAdvance_waits {j : LinkJob} (writer : s.link.writer = some j) (needs : j.needsBand = true)
    (bands : s.store.freeList.length ≤ s.reserve) : s.linkAdvance = s.withStore { s.store with
      poolWait := some { page := j.page, deadline := s.now + Config.tenths (s.tables.p Param.poolWait) } } := by
  unfold State.linkAdvance
  rw [writer]
  exact (if_pos needs).trans (if_neg (Nat.not_lt.2 bands))

/-- R9: an OPEN page is granted the head of the free list. -/
theorem State.grantBand_eq {p : Nat} {b : Band} {free : List Band} (bands : s.store.freeList = b :: free)
    (opened : (s.page p).state = .opened) : s.grantBand p = { s with
      store := ({ s.store with freeList := free } : PageStore).withPage p
        { s.page p with chain := (s.page p).chain ++ [b], filling := true } } := by
  unfold State.grantBand
  rw [bands]
  exact if_pos opened

/-- R2: the line that follows the lines of a chain lies in the band appended to it. -/
theorem PageRec.bandOfLine_granted {r : PageRec} {b : Band} {k : Nat} (base : r.base ≤ k)
    (next : r.chain.length = k / 32 - r.base / 32) :
    ({ r with chain := r.chain ++ [b], filling := true } : PageRec).bandOfLine k = some b := by
  refine (if_pos base).trans ?_
  rw [← next]
  simp

end

/-- Settles O30, by whether the line falls in a band begun. -/
theorem lineTaken : Obligations.LineTaken := by
  intro page data w s taken run inside p r fitted job
  refine ⟨fun shut room => ?refused, fun opened writer image width short active busy alone => ?taken⟩
  case refused =>
    obtain ⟨chosen, reports⟩ := State.Reports.one (s := s) (e := .writeRefused p .notOpen) room
    refine ⟨_, exec_line taken, ?_⟩
    have refused : s.takeLine page data = s.raise (.writeRefused p .notOpen) := by
      have why : r.refuses .image = some .notOpen := if_pos (.inl shut)
      unfold State.takeLine
      rw [State.dataInStandby_run run]
      dsimp only
      rw [why]
    rw [refused, reports]
  case taken =>
    obtain ⟨a, busy⟩ := busy
    let x := s.withWriter (some job)
    have owned : x.link.writer = some job := rfl
    have step : exec (.line page data) s = .next x.linkAdvance :=
      (exec_line taken).trans (congrArg Host.Outcome.next (State.takeLine_taken run opened writer image width short))
    have widthOf : r.width.getD 0 = w := by rw [width]; rfl
    refine ⟨fun b within band => ?_, fun b free boundary bands reserve base chain => ?_, fun boundary bands => ?_⟩
    · have inBand : job.needsBand = false := by simpa [LinkJob.needsBand, job] using within
      rw [step, State.linkAdvance_within owned inBand, State.linkRequest_line owned rfl band alone active busy]
      change Host.Outcome.next (State.withDram x { s.dram with
        waiting := s.dram.waiting ++ [{ lineRequest .linkWrite p r.committed (r.width.getD 0) b fitted none with
          afterOrder := s.dram.sleepOrder }]
        autoTimer := none }) = _
      rw [widthOf]
      rfl
    · have needs : job.needsBand = true := by simpa [LinkJob.needsBand, job] using boundary
      have granted := State.grantBand_eq (s := x) (p := p) bands opened
      have more : x.reserve < x.store.freeList.length := by
        rw [show x.store.freeList = b :: free from bands, List.length_cons]
        exact Nat.lt_succ_of_le reserve
      have page : (x.grantBand p).page p = { r with chain := r.chain ++ [b], filling := true } := by
        rw [granted]
        exact State.page_withPage (s := x.withStore { x.store with freeList := free }) _ inside
      have band : ((x.grantBand p).page p).bandOfLine r.committed = some b := by
        rw [page]
        exact PageRec.bandOfLine_granted base chain
      have requested := State.linkRequest_line (s := x.grantBand p) (j := job) (a := a) (by rw [granted]; exact owned) rfl band
        (by rw [granted]; exact alone) (by rw [granted]; exact active) (by rw [granted]; exact busy)
      rw [step, State.linkAdvance_granted owned needs more, requested, show (x.grantBand p).page job.page = _ from page, granted]
      change Host.Outcome.next (State.withDram _ { s.dram with
        waiting := s.dram.waiting ++ [{ lineRequest .linkWrite p r.committed (r.width.getD 0) b fitted none with
          afterOrder := s.dram.sleepOrder }]
        autoTimer := none }) = _
      rw [widthOf]
      rfl
    · have needs : job.needsBand = true := by simpa [LinkJob.needsBand, job] using boundary
      exact step.trans (congrArg Host.Outcome.next (State.linkAdvance_waits owned needs bands))

/-- Settles O31. -/
theorem blockTaken : Obligations.BlockTaken := by
  intro page data s taken run inside opened writer p r n
  refine ⟨fun image room => ?_, fun block short none_ => ?_, fun b block fits some_ within band active busy alone => ?_⟩
  · obtain ⟨chosen, reports⟩ := State.Reports.one (s := s) (e := .writeRefused p .kind) room
    refine ⟨_, exec_block taken, ?_⟩
    have why : r.refuses .block = some .kind := by
      unfold PageRec.refuses
      rw [if_neg (not_or.2 ⟨not_not.2 opened, not_not.2 writer⟩), if_pos (by simp [image])]
    have refused : s.takeBlock page data = s.raise (.writeRefused p .kind) := by
      unfold State.takeBlock
      rw [State.dataInStandby_run run]
      dsimp only
      rw [why]
    rw [refused, reports]
  · refine (exec_block taken).trans (congrArg Host.Outcome.next ?_)
    have accepted : r.refuses .block = none := PageRec.refuses_none opened writer block short
    unfold State.takeBlock
    rw [State.dataInStandby_run run]
    dsimp only
    rw [accepted]
    subst none_
    exact (if_pos rfl).trans (if_neg (Nat.not_lt_zero _))
  · obtain ⟨a, busy⟩ := busy
    have length : 0 < data.length := List.length_pos_iff.2 some_
    have accepted : r.refuses .block = none :=
      PageRec.refuses_none opened writer block (show r.committed < 4194304 by omega)
    let job : LinkJob := { isLine := false, page := p, next := r.committed, data := data }
    have begun : s.takeBlock page data = (s.withWriter (some job)).linkAdvance := by
      have room : ¬Config.maxBlockBytes - r.committed < data.length := by
        rw [Config.maxBlockBytes]
        omega
      unfold State.takeBlock
      rw [State.dataInStandby_run run]
      dsimp only
      rw [accepted]
      dsimp only
      rw [if_neg some_, if_neg room, List.take_of_length_le (Nat.not_lt.1 room)]
    have inBand : job.needsBand = false := by simpa [LinkJob.needsBand, job] using within
    rw [exec_block taken, begun, State.linkAdvance_within (s := s.withWriter (some job)) rfl inBand,
      State.linkRequest_piece (s := s.withWriter (some job)) rfl rfl band alone active busy]
    rfl

end Sys2Proof.Machine

/-! # Rounds of the Sensor Monitor and the power states (O17, O55, O56, O58, O59, O60) -/

namespace Sys2Proof.Machine

/-! ### The count of a stop (R117) -/

/-- Settles O55: the count is the index and what is then missing to a multiple of S. -/
theorem stopCount : Obligations.StopCount := by
  intro c steps
  have rest := Nat.mod_lt (c.position + c.index) steps
  have split := Nat.div_add_mod (c.position + c.index) c.steps
  refine ⟨Nat.le_add_right _ _, ?_, fun n above boundary => ?_⟩
  · have whole : c.position + c.index + (c.steps - (c.position + c.index) % c.steps) =
        c.steps * ((c.position + c.index) / c.steps + 1) := by
      rw [Nat.mul_add_one]
      omega
    rw [Channel.stopCount, ← Nat.add_assoc, Nat.add_mod_mod, whole, Nat.mul_mod_right]
  · obtain ⟨k, rfl⟩ := Nat.exists_eq_add_of_le above
    refine Nat.add_le_add_left ?_ _
    rw [← Nat.add_assoc, ← Nat.mod_add_mod] at boundary
    by_cases aligned : (c.position + c.index) % c.steps = 0
    · rw [aligned, Nat.sub_zero, Nat.mod_self]
      exact Nat.zero_le k
    · by_contra short
      have below : (c.position + c.index) % c.steps + k < c.steps := by
        have := Nat.mod_le (c.steps - (c.position + c.index) % c.steps) c.steps
        omega
      rw [Nat.mod_eq_of_lt below] at boundary
      omega

section

variable {s t : State}

/-! ### Rounds (R126) -/

/-- R126: a round that starts while another runs follows at its end. -/
theorem State.startRound_queued (running : s.mon.transaction.isSome = true) : s.startRound = s.withMon { s.mon with
    lastRound := some { start := s.now, period := s.tables.p Param.sensorPeriod }
    nextRound := some (s.now + Config.ms s.roundPeriod)
    roundQueued := true } := if_pos running

/-- R126: with channel 0 enabled a round begins with its transaction. -/
theorem State.startRound_first (idle : s.mon.transaction = none) (enabled : s.tables.sensorEnabled 0 = true) :
    s.startRound = s.withMon { s.mon with
      transaction := some { channel := 0, endsAt := s.now + 200, masked := s.tables.sensorMasked 0 }
      lastRound := some { start := s.now, period := s.tables.p Param.sensorPeriod }
      nextRound := some (s.now + Config.ms s.roundPeriod) } := by
  have visited : ∀ x : State, x.tables.sensorEnabled 0 = true → x.goRound 8 = x.withMon { x.mon with
      transaction := some { channel := 0, endsAt := x.now + 200, masked := x.tables.sensorMasked 0 } } := by
    intro x on
    have first : x.visit 8 = x.withMon { x.mon with
        transaction := some { channel := 0, endsAt := x.now + 200, masked := x.tables.sensorMasked 0 } } := if_pos on
    unfold State.goRound
    rw [first]
    exact if_neg (by simp)
  unfold State.startRound
  dsimp only
  rw [if_neg (by simp [idle]), visited _ (by exact enabled)]
  rfl

/-- R126: the period of the rounds in RUN and in STANDBY. -/
theorem State.roundPeriod_eq (awake : s.power.state = .run ∨ s.power.state = .standby) :
    s.roundPeriod = (if s.power.state = .standby then 8 else 1) * s.tables.p Param.sensorPeriod := by
  unfold State.roundPeriod
  rcases awake with run | standby
  · simp [run]
  · simp [standby]

theorem State.roundPeriod_run (run : s.power.state = .run) : s.roundPeriod = s.tables.p Param.sensorPeriod := by
  rw [State.roundPeriod_eq (.inl run), if_neg (by simp [run]), Nat.one_mul]

theorem State.roundPeriod_standby (standby : s.power.state = .standby) :
    s.roundPeriod = 8 * s.tables.p Param.sensorPeriod := by
  rw [State.roundPeriod_eq (.inr standby), if_pos standby]

/-- No channel has a band. -/
def Monitor.Unbanded (m : Monitor) : Prop := ∀ n < 8, (m.channel n).band = none

/-- R126, R129: what a round of channels without a band may change before its next transaction. -/
structure RoundVisit (m m' : Monitor) : Prop where
  unbanded : m'.Unbanded
  frame : m' = { m with analog := m'.analog, transaction := m'.transaction, roundQueued := m'.roundQueued }

theorem RoundVisit.refl {m : Monitor} (unbanded : m.Unbanded) : RoundVisit m m := ⟨unbanded, rfl⟩

theorem RoundVisit.trans {m m' m'' : Monitor} (h : RoundVisit m m') (k : RoundVisit m' m'') : RoundVisit m m'' :=
  ⟨k.unbanded, by rw [k.frame, h.frame]⟩

/-- R129: a disabled channel without a band is made empty, and nothing is reported. -/
theorem State.emptyChannel_unbanded {n : Nat} (inside : n < 8) (unbanded : s.mon.Unbanded) :
    ∃ m, s.emptyChannel n = s.withMon m ∧ RoundVisit s.mon m := by
  refine ⟨{ s.mon with analog := s.mon.analog.setIfInBounds n AnalogRec.empty },
    if_neg (not_not.2 (unbanded n inside)), fun k bound => ?_, rfl⟩
  unfold Monitor.channel
  rw [Vector.getElem?_setIfInBounds]
  split
  · simp [AnalogRec.empty]
  · exact unbanded k bound

theorem State.visit_unbanded : ∀ (n : Nat) (s : State), n ≤ 8 → s.mon.Unbanded → ∃ m, s.visit n = s.withMon m ∧ RoundVisit s.mon m
  | 0, s, _, unbanded => ⟨s.mon, rfl, RoundVisit.refl unbanded⟩
  | n + 1, s, bound, unbanded => by
    unfold State.visit
    dsimp only
    split
    · exact ⟨_, rfl, unbanded, rfl⟩
    · obtain ⟨m, emptied, first⟩ := State.emptyChannel_unbanded (s := s) (n := 7 - n) (by omega) unbanded
      obtain ⟨m', visited, later⟩ := State.visit_unbanded n (s.withMon m) (by omega) first.unbanded
      exact ⟨m', by rw [emptied, visited]; rfl, first.trans later⟩

theorem State.goRound_unbanded (unbanded : s.mon.Unbanded) : ∃ m, s.goRound 8 = s.withMon m ∧ RoundVisit s.mon m := by
  obtain ⟨m, visited, first⟩ := State.visit_unbanded 8 s le_rfl unbanded
  unfold State.goRound
  rw [visited]
  dsimp only
  split
  · obtain ⟨m', again, later⟩ := State.visit_unbanded 8 ((s.withMon m).withMon { m with roundQueued := false }) le_rfl
      first.unbanded
    exact ⟨m', by rw [show (s.withMon m).mon = m from rfl, again]; rfl, later.unbanded, by rw [later.frame, first.frame]; rfl⟩
  · exact ⟨m, rfl, first⟩

/-- R126: a round of channels without a band reports nothing, and the next start is set from it. -/
theorem State.startRound_unbanded (idle : s.mon.transaction = none) (unbanded : s.mon.Unbanded) :
    ∃ m, s.startRound = s.withMon m ∧ m.lastRound = some { start := s.now, period := s.tables.p Param.sensorPeriod } ∧
      m.nextRound = some (s.now + Config.ms s.roundPeriod) := by
  obtain ⟨m, gone, visit⟩ := State.goRound_unbanded (s := s.withMon { s.mon with
    lastRound := some { start := s.now, period := s.tables.p Param.sensorPeriod }
    nextRound := some (s.now + Config.ms s.roundPeriod) }) (by exact unbanded)
  refine ⟨m, ?_, by rw [visit.frame]; rfl, by rw [visit.frame]; rfl⟩
  unfold State.startRound
  dsimp only
  rw [if_neg (by simp [idle])]
  exact gone

/-! ### The end of boot (R204) -/

theorem State.redriveHold_mon (m : Motor) (s : State) : (s.redriveHold m).mon = s.mon := by
  unfold State.redriveHold
  dsimp only
  split
  · rename_i hold
    have moving : ∀ (t : Tables) (now : Nat) (pattern : BitVec 4) (c : Channel), (c.redrive t m now pattern).moving = c.moving := by
      intro t now pattern c
      unfold Channel.redrive
      dsimp only
      split <;> rfl
    cases m
    · refine (congrArg State.mon (if_pos ?_)).trans rfl
      exact (moving _ _ _ _).symm
    · rfl
  · rfl

theorem State.banksChanged_mon (s : State) : s.banksChanged.mon = s.mon := by
  unfold State.banksChanged
  dsimp only
  split <;> rfl

theorem State.replaceTables_mon (t : Tables) (s : State) : (s.replaceTables t).mon = s.mon := by
  unfold State.replaceTables
  dsimp only
  repeat' split
  all_goals simp [State.banksChanged_mon, State.redriveHold_mon]

/-- R8: a pool that was never built is not built by a change of the tables. -/
theorem State.replaceTables_store (t : Tables) (unbuilt : s.store.poolSize = 0) : (s.replaceTables t).store = s.store := by
  have banks : ∀ x : State, x.store = s.store → x.banksChanged.store = s.store := by
    intro x same
    unfold State.banksChanged
    dsimp only
    rw [if_pos (by rw [same]; exact unbuilt)]
    exact same
  have driven : ∀ (c : Prop) [Decidable c] (m : Motor) (x : State), (if c then x.redriveHold m else x).store = x.store := by
    intro c _ m x
    split
    · exact State.redriveHold_store
    · rfl
  unfold State.replaceTables
  dsimp only
  split
  · exact banks _ (by rw [driven, driven]; rfl)
  · rw [driven, driven]
    rfl

/-- R189, R204: the state whose tables the outcome of the boot leaves. -/
def State.bootTables (s : State) (o : BootOutcome) : State := if o.failed then s.replaceTables s.fallbackTables else s

theorem State.bootTables_loadFrame (o : BootOutcome) : LoadFrame s (s.bootTables o) := by
  unfold State.bootTables
  split
  · exact State.replaceTables_loadFrame _ s
  · exact LoadFrame.refl s

/-- R8: the pool is built where it never was. -/
def State.buildPool (s : State) : State :=
  if s.store.poolSize = 0 then s.withStore (s.store.build (s.tables.p Param.banks)) else s

theorem State.buildPool_eq : ∃ p, s.buildPool = s.withStore p := by
  unfold State.buildPool
  split
  · exact ⟨_, rfl⟩
  · exact ⟨s.store, rfl⟩

theorem State.buildPool_store : s.buildPool.store =
    if s.store.poolSize = 0 then s.store.build (s.tables.p Param.banks) else s.store := by
  unfold State.buildPool
  split <;> rfl

/-- R204: RUN is entered with the outcome kept. -/
def State.booted (s : State) (o : BootOutcome) : State :=
  s.withPower { s.power with
    state := .run
    hrsto := false
    lastBoot := some (o, s.power.boot.applied)
    quiet := false }

theorem State.finishBoot_eq (o : BootOutcome) : s.finishBoot o =
    (((s.bootTables o).buildPool.booted o).startRound).raise (.bootDone o (s.bootTables o).buildPool.power.boot.applied) := rfl

end

/-- Settles O17. -/
theorem endOfBoot : Obligations.EndOfBoot := by
  intro o s boot por outcome settled init awake idle unbanded room
  have complete : s.bootComplete = true := by simp [State.bootComplete, boot, por, outcome, settled, init]
  have step : exec .endOfBoot s = .next (s.finishBoot o).settled := by
    change execEndOfBoot s = _
    unfold execEndOfBoot
    rw [complete, outcome]
  have frame := State.bootTables_loadFrame (s := s) o
  have mon : (s.bootTables o).mon = s.mon := by
    unfold State.bootTables
    split
    · exact State.replaceTables_mon _ s
    · rfl
  have store : s.store.poolSize = 0 → (s.bootTables o).store = s.store := by
    intro unbuilt
    unfold State.bootTables
    split
    · exact State.replaceTables_store _ unbuilt
    · rfl
  have kept : o = .ok ∨ o = .noSource → s.bootTables o = s := by
    rintro (rfl | rfl) <;> rfl
  have fallback : o = .noDevice ∨ o = .sum ∨ o = .format → (s.bootTables o).tables = s.fallbackTables := by
    rintro (rfl | rfl | rfl) <;> exact State.replaceTables_tables _ s
  obtain ⟨pool, built⟩ := State.buildPool_eq (s := s.bootTables o)
  have stored := State.buildPool_store (s := s.bootTables o)
  rw [State.finishBoot_eq, built] at step
  rw [built] at stored
  generalize s.bootTables o = x at frame mon store kept fallback step stored
  obtain ⟨m, started, last, next⟩ := State.startRound_unbanded (s := (x.withStore pool).booted o)
    (show x.mon.transaction = none by rw [mon]; exact idle) (show x.mon.Unbanded by rw [mon]; exact unbanded)
  obtain ⟨chosen, raised⟩ := State.Reports.one (s := ((x.withStore pool).booted o).withMon m)
    (e := .bootDone o x.power.boot.applied) (show x.link.room 1 by rw [frame.link]; exact room)
  rw [started, show (x.withStore pool).power.boot.applied = x.power.boot.applied from rfl, raised] at step
  refine ⟨_, next_settled step (show x.power.sleepPending = none by rw [frame.power]; exact awake), frame.now, frame.pending, ?power,
    ?link, last.trans ?lastRound, next.trans ?nextRound, frame.scan, frame.print, fun ok => ?kept, fallback, fun unbuilt => ?pool⟩
  case power =>
    simp only [State.booted, State.withPower_power, State.withStore_power, State.withMon_power, frame.power]
  case link => 
    simp only [State.booted, State.withPower_link, State.withStore_link, State.withMon_link, frame.link, frame.power]
  case lastRound =>
    rw [← frame.now]
    rfl
  case nextRound =>
    rw [State.roundPeriod_run rfl, ← frame.now]
    rfl
  case kept =>
    obtain rfl := kept ok
    exact ⟨rfl, rfl, rfl, rfl, rfl⟩
  case pool => 
    rw [store unbuilt, if_pos unbuilt] at stored
    exact stored

end Sys2Proof.Machine

/-! # Standby, sleep and waking (O58, O59, O60) -/

namespace Sys2Proof.Machine

section

variable {s : State}

/-! ### Channels switched off at rest (R123) -/

theorem State.withMot_still {c : Channel} (still : s.motS.moving = c.moving) : s.withMot .s c = { s with motS := c } :=
  if_pos still

theorem State.offBoth_still (still : s.motS.moving = false) :
    s.offBoth = { s with motS := s.motS.switchOff, motP := s.motP.switchOff } :=
  congrArg (fun x : State => x.withMot .p s.motP.switchOff) (State.withMot_still (c := s.motS.switchOff) still)

/-! ### Entry to STANDBY (R193) -/

/-- R38: the auto self-refresh timer in STANDBY. -/
theorem State.startAuto_standby (standby : s.power.state = .standby) :
    s.startAuto = { s with dram :=
      if s.dram.state = .active ∧ s.dram.waiting = [] ∧ s.dram.transferring = false ∧ s.dram.sleepOrder = false ∧
          s.dram.autoDue = false ∧ s.tables.p Param.autoSrDelay ≠ 0 then
        { s.dram with autoTimer := some (s.now + 20000 * s.tables.p Param.autoSrDelay) }
      else s.dram } := by
  have on : (s.power.state == .standby) = true := by simp [standby]
  unfold State.startAuto Dram.startAuto
  rw [on]
  refine congrArg s.withDram ?_
  refine if_congr ?_ rfl rfl
  rw [List.isEmpty_iff, eq_self_iff_true, true_and]

/-- R126: the next round at the entry to STANDBY. -/
theorem State.moveRound_eq {last taken : Nat} (standby : s.power.state = .standby)
    (round : s.mon.lastRound = some { start := last, period := taken })
    (enabled : s.mon.transaction = none → s.tables.sensorEnabled 0 = true) :
    s.moveRound = { s with mon :=
      if s.now < last + 20000 * (8 * taken) then { s.mon with nextRound := some (last + 20000 * (8 * taken)) }
      else
        { s.mon with
          lastRound := some { start := s.now, period := s.tables.p Param.sensorPeriod }
          nextRound := some (s.now + 20000 * (8 * s.tables.p Param.sensorPeriod))
          roundQueued := if s.mon.transaction = none then s.mon.roundQueued else true
          transaction :=
            if s.mon.transaction = none then
              some { channel := 0, endsAt := s.now + 200, masked := s.tables.sensorMasked 0 }
            else s.mon.transaction } } := by
  unfold State.moveRound
  rw [round]
  dsimp only
  by_cases later : s.now < last + 20000 * (8 * taken)
  · rw [if_pos later]
    exact if_neg (Nat.not_le.2 later)
  rw [if_neg later]
  refine (if_pos (Nat.not_lt.1 later)).trans ?_
  cases running : s.mon.transaction with
  | none =>
    rw [State.startRound_first running (enabled running), State.roundPeriod_standby standby, if_pos rfl, if_pos rfl]
    rfl
  | some x =>
    rw [State.startRound_queued (by rw [running]; rfl), State.roundPeriod_standby standby, if_neg (Option.some_ne_none x),
      if_neg (Option.some_ne_none x), ← running]
    rfl

/-- R193: the power record at the entry to STANDBY. -/
theorem State.sleepDeadline_eq : s.sleepDeadline =
    if s.tables.p Param.sleepDelay = 0 then none else some (s.now + 1200000000 * s.tables.p Param.sleepDelay) := rfl

/-- R191, R193: STANDBY with its outputs and channels off and its timers started, before its event. -/
def State.standbyQuiet (s : State) : State :=
  ((s.withPower { s.power with
    state := .standby
    standbyTimer := none
    quiet := false
    sleepTimer := s.sleepDeadline }).gateOutputs.offBoth.startAuto).moveRound

theorem State.enterStandby_eq (s : State) : s.enterStandby = s.standbyQuiet.raise .standbyEntered := rfl

theorem State.standbyQuiet_eq {last taken : Nat} (still : s.motS.moving = false)
    (round : s.mon.lastRound = some { start := last, period := taken })
    (enabled : s.mon.transaction = none → s.tables.sensorEnabled 0 = true) :
    s.standbyQuiet = { s with
      dram :=
        if s.dram.state = .active ∧ s.dram.waiting = [] ∧ s.dram.transferring = false ∧ s.dram.sleepOrder = false ∧
            s.dram.autoDue = false ∧ s.tables.p Param.autoSrDelay ≠ 0 then
          { s.dram with autoTimer := some (s.now + 20000 * s.tables.p Param.autoSrDelay) }
        else s.dram
      motS := s.motS.switchOff
      motP := s.motP.switchOff
      scan := { s.scan with lamp := false }
      print := { s.print with hpwr := false, cutter := false, seq := .idle, seqEnds := none }
      mon :=
        if s.now < last + 20000 * (8 * taken) then { s.mon with nextRound := some (last + 20000 * (8 * taken)) }
        else
          { s.mon with
            lastRound := some { start := s.now, period := s.tables.p Param.sensorPeriod }
            nextRound := some (s.now + 20000 * (8 * s.tables.p Param.sensorPeriod))
            roundQueued := if s.mon.transaction = none then s.mon.roundQueued else true
            transaction :=
              if s.mon.transaction = none then
                some { channel := 0, endsAt := s.now + 200, masked := s.tables.sensorMasked 0 }
              else s.mon.transaction }
      power := { s.power with
        state := .standby
        standbyTimer := none
        quiet := false
        sleepTimer := s.sleepDeadline } } := by
  unfold State.standbyQuiet
  rw [State.offBoth_still (by exact still), State.startAuto_standby rfl]
  exact State.moveRound_eq rfl round enabled

end

/-- Settles O58. -/
theorem standbyEntered : Obligations.StandbyEntered := by
  intro tag last taken s
  have command : s.takesCommand = true → exec (.standby tag) s = .next (s.doStandby tag) :=
    fun taken => congrArg Host.Outcome.next (if_pos taken)
  refine ⟨fun run awake still round enabled room => ?_, fun takes standby awake free => ?_, fun takes why => ?_⟩
  · intro moved delay entered
    refine ⟨fun takes free => ?_, fun d timer => ?_⟩
    · obtain ⟨c, accepted⟩ := State.answer_replies (s := s) (tag := tag) (kind := 0x1C#8) (code := .accepted) (data := [])
      have quiet := State.standbyQuiet_eq (s := s.accept tag 0x1C#8) (last := last) (taken := taken)
      rw [show s.accept tag 0x1C#8 = _ from accepted] at quiet
      have done : s.doStandby tag = (s.accept tag 0x1C#8).standbyQuiet.raise .standbyEntered := by
        unfold State.doStandby
        rw [if_neg (by simp [run]), if_neg (by simp [awake]), if_neg (by simp [free]), if_pos run, State.enterStandby_eq]
      rw [show s.accept tag 0x1C#8 = _ from accepted, quiet still round enabled] at done
      obtain ⟨chosen, raised⟩ := State.Reports.one (s := entered s.now { s with link := s.link.replied tag 0x1C#8 .accepted [] c })
        (e := .standbyEntered) room
      exact ⟨_, (command takes).trans (congrArg Host.Outcome.next (done.trans raised)), rfl, rfl⟩
    · have quiet := State.standbyQuiet_eq (s := s.at d) still round enabled
      have step : exec .standbyTimerExpiry s = .next ((s.at d).standbyQuiet.raise .standbyEntered) := by
        change execStandbyTimerExpiry s = _
        unfold execStandbyTimerExpiry
        rw [run, timer]
        rfl
      obtain ⟨chosen, raised⟩ := State.Reports.one (s := entered (max s.now d) s) (e := .standbyEntered) room
      exact ⟨_, step.trans (congrArg Host.Outcome.next ((congrArg (State.raise · .standbyEntered) quiet).trans raised)), rfl, rfl⟩
  · obtain ⟨c, accepted⟩ := State.answer_replies (s := s) (tag := tag) (kind := 0x1C#8) (code := .accepted) (data := [])
    have done : s.doStandby tag = s.accept tag 0x1C#8 := by
      unfold State.doStandby
      rw [if_neg (by simp [standby]), if_neg (by simp [awake]), if_neg (by simp [free]), if_neg (by simp [standby])]
    exact ⟨_, (command takes).trans (congrArg Host.Outcome.next (done.trans accepted)), rfl⟩
  · obtain ⟨c, refused⟩ := State.answer_replies (s := s) (tag := tag) (kind := 0x1C#8) (code := .wrongState) (data := [])
    have done : s.doStandby tag = s.refuse tag 0x1C#8 .wrongState := by
      unfold State.doStandby
      rcases why with state | pending | busy
      · rw [if_pos state]
      · rw [if_pos (Option.isSome_iff_ne_none.2 pending), ite_self]
      · rw [if_pos busy, ite_self, ite_self]
    exact ⟨_, (command takes).trans (congrArg Host.Outcome.next (done.trans refused)), rfl⟩

section

variable {s : State}

/-! ### Asking for sleep (R195, R196) -/

theorem State.enterSleeping_still (still : s.motS.moving = false) : s.enterSleeping = { s with
    dram := { s.dram with autoTimer := none }
    motS := s.motS.switchOff
    motP := s.motP.switchOff
    scan := { s.scan with lamp := false }
    print := { s.print with hpwr := false, cutter := false, seq := .idle, seqEnds := none }
    power := { s.power with
      origin := some s.power.state
      state := .enteringSleep
      sleepPending := none
      standbyTimer := none
      sleepTimer := none
      quiet := false
      heldWake := none
      drdyDropped := false
      drdyBound := some (s.now + 40000)
      ordered := false } } := by
  unfold State.enterSleeping
  dsimp only
  rw [State.offBoth_still (by exact still)]
  rfl

/-- R195: a SLEEP that is taken, where the machine is quiescent and where it is not. -/
theorem State.doSleep_taken (tag : Byte) (awake : s.power.state ≠ .enteringSleep) (free : s.power.sleepPending = none) :
    s.doSleep tag = (s.answer tag 0x1D#8 .accepted [if s.quiescent = true then 0#8 else 1#8]).askSleep :=
  if_neg (by simp [State.entering, awake, free])

end

/-- Settles O59. -/
theorem sleepAsked : Obligations.SleepAsked := by
  intro tag d s awake still entering
  have command : s.takesCommand = true → exec (.sleep tag) s = .next (s.doSleep tag) :=
    fun taken => congrArg Host.Outcome.next (if_pos taken)
  refine ⟨fun takes up free quiet => ?_, fun takes up free busy => ?_, fun standby timer quiet => ?_, fun run pending room => ?_,
    fun falling kept boundary empty => ?_, fun falling kept bound => ?_⟩
  · have step := command takes
    obtain ⟨c, answered⟩ := State.answer_replies (s := s) (tag := tag) (kind := 0x1D#8) (code := .accepted) (data := [0#8])
    rw [State.doSleep_taken tag up free, if_pos quiet, answered] at step
    exact ⟨_, step.trans (congrArg Host.Outcome.next ((if_pos quiet).trans (State.enterSleeping_still still))), rfl, rfl⟩
  · have step := command takes
    have waits : ¬s.quiescent = true := by simp [busy]
    obtain ⟨c, answered⟩ := State.answer_replies (s := s) (tag := tag) (kind := 0x1D#8) (code := .accepted) (data := [1#8])
    rw [State.doSleep_taken tag up free, if_neg waits, answered] at step
    exact ⟨_, step.trans (congrArg Host.Outcome.next (if_neg waits)), rfl⟩
  · have step : exec .sleepTimerExpiry s =
        .next (((s.at d).withPower { s.power with sleepTimer := none }).askSleep) := by
      change execSleepTimerExpiry s = _
      unfold execSleepTimerExpiry
      rw [standby, timer]
      rfl
    exact ⟨_, step.trans (congrArg Host.Outcome.next ((if_pos quiet).trans (State.enterSleeping_still still))), rfl, rfl⟩
  · have step : exec .sleepDeadlineExpiry s = .next ((s.at d).abandonSleep).settled := by
      change execSleepDeadlineExpiry s = _
      unfold execSleepDeadlineExpiry
      rw [pending]
    obtain ⟨chosen, raised⟩ := State.Reports.one (s := (s.at d).withPower { s.power with sleepPending := none })
      (e := .sleepAbandoned) room
    have abandoned : (s.at d).abandonSleep = State.raise ((s.at d).withPower { s.power with sleepPending := none }) .sleepAbandoned :=
      if_neg (by simp [run])
    rw [abandoned, raised] at step
    exact ⟨_, next_settled step rfl, rfl⟩
  · refine congrArg Host.Outcome.next (if_pos ⟨State.beforeStepThree_iff.2 ⟨falling, kept⟩, ?_, empty⟩)
    rw [boundary]
    rfl
  · change execDrdyDropBoundExpiry s = _
    unfold execDrdyDropBoundExpiry
    rw [State.beforeStepThree_iff.2 ⟨falling, kept⟩, bound]
    rfl

/-! ### The sleep order, SLEEP and the wake (R198 to R200) -/

/-- R42: with nothing waiting or in progress the sleep order is SR_ENTRY's begin. -/
theorem Dram.order_idle {d : Dram} (now : Nat) (active : d.state = .active) (idle : d.current = none) (empty : d.waiting = [])
    (held : d.heldBanks = none) : d.order now = d.beginEntry now .sleep := by
  unfold Dram.order Dram.arbitrate Dram.applyBanks
  simp [active, idle, empty, held, Dram.beginEntry]

section

variable {s : State}

/-- R135: the inputs that are not watched lose their counts, and no input its level. -/
theorem State.narrowInputs_level (n : Nat) : (s.narrowInputs.mon.input n).level = (s.mon.input n).level := by
  unfold State.narrowInputs Monitor.input
  by_cases inside : n < 6
  · simp only [State.withMon_mon, inside, Vector.getElem?_eq_getElem, Option.getD_some, Vector.getElem_mapFinIdx]
    split <;> rfl
  · simp [inside]

/-- R198: SLEEP is reached with no wake source held. -/
theorem State.reachSleep_unheld (unheld : s.power.heldWake = none) : s.reachSleep = (s.withPower { s.power with
    state := .sleep
    hstby := true
    origin := none
    ordered := false
    wakeTimer :=
      if s.tables.p Param.wakeTimer = 0 then none else some (s.now + 1200000000 * s.tables.p Param.wakeTimer) }).narrowInputs := by
  unfold State.reachSleep
  dsimp only
  split
  · rename_i held
    exact absurd (unheld.symm.trans held) (Option.some_ne_none _).symm
  · rfl

/-- R41, R200: an exit that the wake order began ends in STANDBY. -/
theorem State.exitEnded_woken {w : WakeSource} (other : w ≠ .wrst) (waking : s.power.state = .waking)
    (source : s.power.wakeSource = some w) (woken : s.dram.wakeExit = true) :
    s.exitEnded = (s.withDram (s.dram.enterActive s.now (s.tables.p Param.refreshInterval))).wakeUp w := by
  have active : State.startAuto (s.withDram (s.dram.enterActive s.now (s.tables.p Param.refreshInterval))) =
      s.withDram (s.dram.enterActive s.now (s.tables.p Param.refreshInterval)) :=
    State.startAuto_notStandby (by rw [State.withDram_power, waking]; decide)
  unfold State.exitEnded
  dsimp only
  rw [active, if_pos ⟨woken, waking⟩, State.withDram_power, source]
  cases w <;> first | rfl | exact absurd rfl other

/-- R38: the auto self-refresh timer starts in STANDBY where the controller is ACTIVE with nothing to do. -/
theorem State.startAuto_idle (standby : s.power.state = .standby) (active : s.dram.state = .active) (idle : s.dram.current = none)
    (empty : s.dram.waiting = []) (unordered : s.dram.sleepOrder = false) (due : s.dram.autoDue = false) :
    s.startAuto = { s with dram := { s.dram with
      autoTimer :=
        if s.tables.p Param.autoSrDelay = 0 then s.dram.autoTimer
        else some (s.now + 20000 * s.tables.p Param.autoSrDelay) } } := by
  have still : s.dram.transferring = false := by
    unfold Dram.transferring
    rw [idle]
  rw [State.startAuto_standby standby]
  by_cases never : s.tables.p Param.autoSrDelay = 0
  · rw [if_neg fun h => h.2.2.2.2.2 never, if_pos never]
  · rw [if_pos ⟨active, empty, still, unordered, due, never⟩, if_neg never]

/-- R200: the end of WAKING: STANDBY, a round started, the timers started, and WOKE. -/
theorem State.wakeUp_reports {w : WakeSource} (active : s.dram.state = .active) (idle : s.dram.current = none)
    (empty : s.dram.waiting = []) (unordered : s.dram.sleepOrder = false) (due : s.dram.autoDue = false)
    (quiet : s.mon.transaction = none) (enabled : s.tables.sensorEnabled 0 = true) (room : s.link.room 1) :
    State.Reports { s with
        dram := { s.dram with
          autoTimer :=
            if s.tables.p Param.autoSrDelay = 0 then s.dram.autoTimer
            else some (s.now + 20000 * s.tables.p Param.autoSrDelay) }
        mon := { s.mon with
          transaction := some { channel := 0, endsAt := s.now + 200, masked := s.tables.sensorMasked 0 }
          lastRound := some { start := s.now, period := s.tables.p Param.sensorPeriod }
          nextRound := some (s.now + 20000 * (8 * s.tables.p Param.sensorPeriod)) }
        power := { s.power with
          state := .standby
          hstby := false
          wakeSource := none
          drdyDropped := false
          sleepTimer := s.sleepDeadline } } [.woke w] (s.wakeUp w) := by
  unfold State.wakeUp
  dsimp only
  rw [State.choose_eq, State.startRound_first (by exact quiet) (by exact enabled), State.roundPeriod_standby rfl,
    State.startAuto_idle rfl (by exact active) (by exact idle) (by exact empty) (by exact unordered) (by exact due)]
  exact State.Reports.one room

end

/-- Settles O60. -/
theorem sleepAndWake : Obligations.SleepAndWake := by
  intro d s
  refine ⟨fun falling dropped fresh free active idle empty held => ?_, fun falling unheld entry ends cause => ?_,
    fun asleep timer refreshing cause => ?_,
    fun w other waking source exit ends woken idle empty unordered due held quiet enabled room => ?_⟩
  · have order := Dram.order_idle s.now active idle empty held
    have step : exec .sleepOrder s = .next s.giveSleepOrder := congrArg Host.Outcome.next (if_pos ⟨falling, dropped, fresh, free⟩)
    have reported : s.giveSleepOrder = (s.withPower { s.power with ordered := true }).withDram (s.dram.order s.now) := by
      refine if_neg ?_
      change ¬((s.dram.order s.now).asleep = true ∧ _)
      rw [order]
      simp [Dram.asleep, Dram.beginEntry]
    rw [step, reported, order]
    rfl
  · have entered : s.dram.entryEnd (max s.now d) (s.tables.p Param.srExitTime) =
        { s.dram with state := .selfRefresh, stateEnds := none } := if_neg (by simp [cause])
    have step : exec .srEntryEnd s =
        .next ((s.at d).withDram (s.dram.entryEnd (max s.now d) (s.tables.p Param.srExitTime))).reportAsleep := by
      change execSrEntryEnd s = _
      unfold execSrEntryEnd
      rw [entry, ends]
      rfl
    have reached : State.reportAsleep ((s.at d).withDram { s.dram with state := .selfRefresh, stateEnds := none }) =
        State.reachSleep ((s.at d).withDram { s.dram with state := .selfRefresh, stateEnds := none }) :=
      if_pos ⟨by simp [Dram.asleep, cause], falling⟩
    rw [entered, reached] at step
    rw [State.reachSleep_unheld (by exact unheld)] at step
    exact ⟨_, step, rfl, fun n _ => State.narrowInputs_level n⟩
  · change execWakeTimerExpiry s = _
    unfold execWakeTimerExpiry
    rw [asleep, timer]
    exact congrArg (fun x => Host.Outcome.next (State.withDram _ x)) (if_pos ⟨refreshing, cause⟩)
  · have entered := Dram.enterActive_nothing (max s.now d) (s.tables.p Param.refreshInterval) ⟨held, unordered, due⟩ empty
    have exited : exec .srExitEnd s = .next (s.at d).exitEnded := by
      change execSrExitEnd s = _
      unfold execSrExitEnd
      rw [exit, ends]
    have step : exec .srExitEnd s = .next (((s.at d).withDram
        (s.dram.enterActive (max s.now d) (s.tables.p Param.refreshInterval))).wakeUp w) :=
      exited.trans (congrArg Host.Outcome.next (State.exitEnded_woken (s := s.at d) other waking source woken))
    generalize s.dram.enterActive (max s.now d) (s.tables.p Param.refreshInterval) = x at entered step
    obtain ⟨chosen, woke⟩ := State.wakeUp_reports (s := (s.at d).withDram x) (w := w) (by rw [State.withDram_dram, entered])
      (by rw [State.withDram_dram, entered]; exact idle) (by rw [State.withDram_dram, entered]; exact empty)
      (by rw [State.withDram_dram, entered]; exact unordered) (by rw [State.withDram_dram, entered]; exact due) quiet enabled room
    rw [woke, entered] at step
    exact ⟨_, step, rfl⟩

end Sys2Proof.Machine

/-! # The Sensor Monitor (O56) -/

namespace Sys2Proof.Machine

section

variable {s t : State}

/-- R192: a step that raises its events and ends with the test of its timers, with no sleep pending. -/
theorem next_reports {i : Instr} {u : State} {es : List Event} (step : exec i s = .next t.settled) (reports : u.Reports es t)
    (awake : u.power.sleepPending = none) : ∃ t, exec i s = .next t ∧ t = { u with
      link := u.link.reported es t.link.chosen
      power := u.power.timed t.power } := by
  obtain ⟨l, rfl⟩ := reports
  exact ⟨_, next_settled step awake, rfl⟩

/-! ### A sample of the digital inputs (R131) -/

/-- The state with the inputs' records replaced. -/
abbrev State.withInputs (s : State) (is : Vector InputRec 6) : State := s.withMon { s.mon with inputs := is }

theorem Monitor.input_set {m : Monitor} {n k : Nat} {r : InputRec} (inside : n < 6) :
    ({ m with inputs := m.inputs.setIfInBounds n r } : Monitor).input k = if k = n then r else m.input k := by
  unfold Monitor.input
  rw [Vector.getElem?_setIfInBounds]
  by_cases same : n = k
  · subst same
    simp [inside]
  · rw [if_neg same, if_neg (Ne.symm same)]

/-- R131: a sample like the level of a settled input sets its count to 0, and nothing more. -/
theorem State.sampleInput_same {n : Nat} {v : Bool} (same : (s.mon.input n).level = some v) :
    s.sampleInput n v = s.withInput n { s.mon.input n with count := 0 } := by
  have taken : (s.mon.input n).take (s.tables.p Param.debounce) v = { s.mon.input n with count := 0 } := by
    simp [InputRec.take, same]
  unfold State.sampleInput
  dsimp only
  rw [taken]
  exact if_neg (by simp [levelChanged, same])

/-- R131: the sample that makes DEBOUNCE in succession changes the level, which is handed on and reported. -/
theorem State.sampleInput_change {n : Nat} {v : Bool} (other : (s.mon.input n).level = some !v)
    (last : s.tables.p Param.debounce ≤ (s.mon.input n).count + 1) :
    s.sampleInput n v = ((s.withInput n { level := some v, count := 0, sample := none }).handInput n v).reportInput n v := by
  have taken : (s.mon.input n).take (s.tables.p Param.debounce) v = { level := some v, count := 0, sample := none } := by
    simp [InputRec.take, other, last]
  unfold State.sampleInput
  dsimp only
  rw [taken]
  exact if_pos (by simp [levelChanged, other])

theorem State.samples_withInputs (is : Vector InputRec 6) (n : Nat) : (s.withInputs is).samples n = s.samples n := rfl

/-- R131: samples of the inputs from 6 − (m + j) to 5 − m, all like their levels, set the counts of those sampled to 0. -/
theorem State.sampleInputs_through (pins : BitVec 6) (m : Nat) : ∀ (j : Nat) (s : State), m + j ≤ 6 →
    (∀ k, 6 - (m + j) ≤ k → k < 6 - m → s.samples k = true → (s.mon.input k).level = some (!pins.getLsbD k)) →
    ∃ is, s.sampleInputs pins (m + j) = (s.withInputs is).sampleInputs pins m ∧ ∀ k < 6, (s.withInputs is).mon.input k =
      if (6 - (m + j) ≤ k ∧ k < 6 - m) ∧ s.samples k = true then { s.mon.input k with count := 0 } else s.mon.input k
  | 0, s, _, _ => ⟨s.mon.inputs, rfl, fun k inside => by
      rw [if_neg (by omega)]
      rfl⟩
  | j + 1, s, bound, same => by
    have first : ∃ is, (if s.samples (5 - (m + j)) = true then s.sampleInput (5 - (m + j)) (!pins.getLsbD (5 - (m + j))) else s) =
          s.withInputs is ∧
        ∀ k < 6, (s.withInputs is).mon.input k =
          if k = 5 - (m + j) ∧ s.samples k = true then { s.mon.input k with count := 0 } else s.mon.input k := by
      by_cases sampled : s.samples (5 - (m + j)) = true
      · refine ⟨s.mon.inputs.setIfInBounds (5 - (m + j)) { s.mon.input (5 - (m + j)) with count := 0 }, ?_, fun k _ => ?_⟩
        · rw [if_pos sampled, State.sampleInput_same (same _ (by omega) (by omega) sampled)]
          rfl
        · refine (Monitor.input_set (m := s.mon) (by omega)).trans ?_
          by_cases here : k = 5 - (m + j)
          · rw [if_pos here, if_pos ⟨here, here ▸ sampled⟩, here]
          · rw [if_neg here, if_neg fun h : k = 5 - (m + j) ∧ s.samples k = true => here h.1]
      · refine ⟨s.mon.inputs, if_neg sampled, fun k _ => ?_⟩
        rw [if_neg fun h : k = 5 - (m + j) ∧ s.samples k = true => sampled (h.1 ▸ h.2)]
        rfl
    obtain ⟨is, taken, firsts⟩ := first
    have rest : ∀ k, 6 - (m + j) ≤ k → k < 6 - m → (s.withInputs is).samples k = true →
        ((s.withInputs is).mon.input k).level = some (!pins.getLsbD k) := by
      intro k low high sampled
      rw [firsts k (by omega), if_neg (by omega)]
      exact same k (by omega) high sampled
    obtain ⟨is', later, inputs⟩ := State.sampleInputs_through pins m j (s.withInputs is) (by omega) rest
    refine ⟨is', ?_, fun k high => ?_⟩
    · refine (congrArg (fun x : State => x.sampleInputs pins (m + j)) taken).trans ?_
      exact later
    · have tail := inputs k high
      rw [firsts k high, State.samples_withInputs] at tail
      refine Eq.trans (b := ((s.withInputs is).withInputs is').mon.input k) rfl (tail.trans ?_)
      by_cases sampled : s.samples k = true
      · by_cases here : k = 5 - (m + j)
        · rw [if_neg (by omega), if_pos ⟨here, sampled⟩, if_pos ⟨by omega, sampled⟩]
        · by_cases behind : 6 - (m + j) ≤ k ∧ k < 6 - m
          · rw [if_pos ⟨behind, sampled⟩, if_neg (by simp [here]), if_pos ⟨by omega, sampled⟩]
          · rw [if_neg fun h => behind h.1, if_neg (by simp [here]), if_neg (by omega)]
      · simp [sampled]

theorem State.reportInput_mon (u : State) {n : Nat} {v : Bool} : (u.reportInput n v).mon = u.mon := by
  unfold State.reportInput
  split
  · rfl
  · exact State.raise_mon u _

theorem State.samples_reportInput (u : State) {n : Nat} {v : Bool} (k : Nat) : (u.reportInput n v).samples k = u.samples k := by
  unfold State.reportInput
  split
  · rfl
  · simp only [State.samples, State.watched, State.raise_motS, State.raise_power, State.raise_tables]
    rfl

/-- R131, R134: the samples of which one, of input n, changes a level: that change is handed to the blocks and reported, and the
counts of the other inputs sampled become 0. -/
theorem State.sampleInputs_change {pins : BitVec 6} {n : Nat}
    (inside : n < 6) (sampled : s.samples n = true) (last : s.tables.p Param.debounce ≤ (s.mon.input n).count + 1)
    (levels : ∀ k < 6, (s.mon.input k).level = some (if k = n then pins.getLsbD k else !pins.getLsbD k))
    (kept : ∀ is, ∀ k < 6, (((s.withInputs is).handInput n (!pins.getLsbD n)).mon.input k).level =
      ((s.withInputs is).mon.input k).level)
    (later : ∀ is k, n < k → k < 6 → ((s.withInputs is).handInput n (!pins.getLsbD n)).samples k = s.samples k) :
    ∃ is js, s.sampleInputs pins 6 =
        (((s.withInputs is).handInput n (!pins.getLsbD n)).reportInput n (!pins.getLsbD n)).withInputs js ∧
      (∀ k < 6, (s.withInputs is).mon.input k =
        if k = n then { level := some (!pins.getLsbD n), count := 0, sample := none }
        else if k < n ∧ s.samples k = true then { s.mon.input k with count := 0 } else s.mon.input k) ∧
      ∀ k < 6, (s.withInputs js).mon.input k = if n < k ∧ s.samples k = true then
        { ((s.withInputs is).handInput n (!pins.getLsbD n)).mon.input k with count := 0 }
        else ((s.withInputs is).handInput n (!pins.getLsbD n)).mon.input k := by
  obtain ⟨m, hm⟩ : ∃ m, 6 - n = m + 1 := ⟨5 - n, by omega⟩
  obtain ⟨is₁, before, firsts⟩ := State.sampleInputs_through pins (m + 1) n s (by omega) fun k _ high _ => by
    rw [levels k (by omega), if_neg (by omega)]
  have whole : m + 1 + n = 6 := by omega
  rw [whole] at before firsts
  have here : ((s.withInputs is₁).mon.input n) = s.mon.input n := by
    rw [firsts n inside, if_neg (by omega)]
  have changed := State.sampleInput_change (s := s.withInputs is₁) (n := n) (v := !pins.getLsbD n)
    (by rw [here, levels n inside, if_pos rfl, Bool.not_not]) (by rw [here]; exact last)
  obtain ⟨is, inputs, changed⟩ : ∃ is, (∀ k < 6, (s.withInputs is).mon.input k =
      if k = n then { level := some (!pins.getLsbD n), count := 0, sample := none }
      else if k < n ∧ s.samples k = true then { s.mon.input k with count := 0 } else s.mon.input k) ∧
      (s.withInputs is₁).sampleInput n (!pins.getLsbD n) =
        ((s.withInputs is).handInput n (!pins.getLsbD n)).reportInput n (!pins.getLsbD n) := by
    refine ⟨is₁.setIfInBounds n { level := some (!pins.getLsbD n), count := 0, sample := none }, fun k high => ?_, changed⟩
    refine (Monitor.input_set (m := (s.withInputs is₁).mon) inside).trans ?_
    split
    · rfl
    · rw [firsts k high]
      exact if_congr (by constructor <;> rintro ⟨_, h⟩ <;> exact ⟨by omega, h⟩) rfl rfl
  have kept := kept is
  have later := later is
  refine ⟨is, ?_⟩
  generalize (s.withInputs is).handInput n (!pins.getLsbD n) = u at changed kept later ⊢
  have input : ∀ k, (u.reportInput n (!pins.getLsbD n)).mon.input k = u.mon.input k := fun k => by
    rw [State.reportInput_mon]
  have samples : ∀ k, (u.reportInput n (!pins.getLsbD n)).samples k = u.samples k := State.samples_reportInput u
  obtain ⟨js, after, lasts⟩ := State.sampleInputs_through pins 0 m (u.reportInput n (!pins.getLsbD n)) (by omega)
    fun k low high _ => by
      rw [input, kept k (by omega), inputs k (by omega), if_neg (by omega), if_neg (by omega), levels k (by omega), if_neg (by omega)]
  rw [Nat.zero_add] at after lasts
  refine ⟨js, ?_, inputs, fun k high => ?_⟩
  · rw [before]
    change State.sampleInputs (if ((s.withInputs is₁).samples (5 - m)) = true then _ else _) pins m = _
    have number : 5 - m = n := by omega
    rw [number, if_pos (by exact sampled), changed, after]
    rfl
  · refine (lasts k high).trans ?_
    rw [samples, input]
    by_cases behind : n < k
    · rw [later k behind high]
      exact if_congr (by constructor <;> rintro ⟨_, h⟩ <;> exact ⟨by omega, h⟩) rfl rfl
    · rw [if_neg (by omega), if_neg (by omega)]

/-! ### Rounds and transactions (R126 to R128) -/

theorem exec_roundStart {d : Nat} (due : s.mon.nextRound = some d) :
    exec .roundStart s = .next (s.at d).startRound.settled := by
  change execRoundStart s = _
  unfold execRoundStart
  rw [due]

theorem exec_converterTransactionEnd {tr : Transaction} (running : s.mon.transaction = some tr) (raw : Byte) :
    exec (.converterTransactionEnd raw) s = .next ((s.at tr.endsAt).transactionOver tr raw).settled := by
  change execConverterTransactionEnd raw s = _
  unfold execConverterTransactionEnd
  rw [running]

theorem exec_inputSample {d : Nat} (due : s.mon.nextSample = some d) (pins : BitVec 6) :
    exec (.inputSample pins) s = .next ((s.at d).inputsNow pins).settled := by
  change execInputSample pins s = _
  unfold execInputSample
  rw [due]

/-- R128: a sample of the band's class, or the second of a pending one, leaves that class as the band and nothing pending. -/
theorem AnalogRec.classed_confirmed {r : AnalogRec} {c : Level} (known : r.band = some c ∨ r.pending = some c) :
    r.classed c = { r with band := some c, pending := none } := by
  unfold AnalogRec.classed
  by_cases same : r.band = some c
  · rw [if_pos same, ← same]
  · rw [if_neg same, if_pos (known.resolve_left same)]

/-- The record of a channel after an unsaturated sample that confirms the class of its value. -/
def AnalogRec.sampled (value : Nat) (c : Level) : AnalogRec :=
  { value := value, valid := true, band := some c, pending := none, saturated := false }

/-- R127, R128: an unsaturated sample of a channel behind channel 0 that confirms the class of its value stores it, and where
that is a change of band reports it unless masked. -/
theorem State.takeSample_confirmed {ch raw : Nat} {masked : Bool} {c : Level} (inside : 0 < ch ∧ ch < 8)
    (low : 0 ≤ (raw : Int) + s.tables.sensorOffset ch) (high : (raw : Int) + s.tables.sensorOffset ch ≤ 255)
    (class_eq : classify (s.tables.sensorLow ch) (s.tables.sensorHigh ch) (sampleValue raw (s.tables.sensorOffset ch)) = c)
    (known : (s.mon.channel ch).band = some c ∨ (s.mon.channel ch).pending = some c) :
    let value := sampleValue raw (s.tables.sensorOffset ch)
    let taken := s.withChannel ch (AnalogRec.sampled value c)
    s.takeSample ch raw masked =
      if (s.mon.channel ch).band = some c ∨ masked = true then taken else taken.raise (.sensorBand ch (some c) value) := by
  intro value taken
  have within : sampleSaturated raw (s.tables.sensorOffset ch) = false := by
    unfold sampleSaturated
    simp only [decide_eq_false_iff_not]
    omega
  have stored : taken.mon.channel ch = AnalogRec.sampled value c := by
    change (s.mon.analog.setIfInBounds ch _)[ch]?.getD _ = _
    rw [Vector.getElem?_setIfInBounds_self_of_lt inside.2]
    rfl
  unfold State.takeSample
  dsimp only
  rw [class_eq, within, AnalogRec.classed_confirmed (r := { s.mon.channel ch with value := _, valid := true, saturated := false })
    (by exact known)]
  rw [if_neg (c := (false = true ∧ _)) (by simp)]
  by_cases same : (s.mon.channel ch).band = some c
  · rw [if_neg (by simp [same]), if_pos (.inl same)]
    rfl
  · rw [if_pos (by simpa using Ne.symm same)]
    change taken.bandChanged ch masked = _
    unfold State.bandChanged
    dsimp only
    rw [if_neg (Nat.pos_iff_ne_zero.1 inside.1), stored]
    by_cases mute : masked = true
    · rw [if_pos mute, if_pos (.inr mute)]
    · rw [if_neg mute, if_neg (by simp [same, mute])]
      rfl

/-- R126: behind channel 7's transaction the round has ended. -/
theorem State.goRound_ended (unqueued : s.mon.roundQueued = false) : s.goRound 0 = s := by
  unfold State.goRound
  exact if_neg (by simp [State.visit, unqueued])

theorem Transaction.sends_eq {c e : Nat} {k : Bool} (channel : c < 8) :
    ({ channel := c, endsAt := e, masked := k } : Transaction).sends.toNat = 128 + c := by
  have each : ∀ c < 8, (0x80#8 ||| BitVec.ofNat 8 (c % 8)).toNat = 128 + c := by decide
  exact each c channel

theorem roundStart_first {d : Nat} (pending : s.power.sleepPending = none) (due : s.mon.nextRound = some d)
    (idle : s.mon.transaction = none) (enabled : s.tables.sensorEnabled 0 = true)
    (awake : s.power.state = .run ∨ s.power.state = .standby) :
    ∃ t, exec .roundStart s = .next t ∧ t = { s with
      now := max s.now d
      mon := { s.mon with
        transaction := some { channel := 0, endsAt := max s.now d + 200, masked := s.tables.sensorMasked 0 }
        lastRound := some { start := max s.now d, period := s.tables.p Param.sensorPeriod }
        nextRound := some (max s.now d +
          20000 * ((if s.power.state = .standby then 8 else 1) * s.tables.p Param.sensorPeriod)) }
      power := s.power.timed t.power } := by
  have period : (s.at d).roundPeriod = _ := State.roundPeriod_eq (s := s.at d) awake
  have step := exec_roundStart due
  rw [State.startRound_first (s := s.at d) idle enabled, period] at step
  refine ⟨_, next_settled step pending, ?_⟩
  simp only [Config.ms, Nat.mul_comm 20000]
  rfl

/-- The monitor behind channel 7's transaction of the given result. -/
abbrev Monitor.lastTaken (m : Monitor) (r : AnalogRec) : Monitor :=
  { m with transaction := none, analog := m.analog.setIfInBounds 7 r }

theorem transactionEnd_last {d : Nat} {raw : Byte} {k : Bool} {c : Level}
    (running : s.mon.transaction = some { channel := 7, endsAt := d, masked := k }) (unqueued : s.mon.roundQueued = false)
    (low : 0 ≤ (raw.toNat : Int) + s.tables.sensorOffset 7) (high : (raw.toNat : Int) + s.tables.sensorOffset 7 ≤ 255)
    (class_eq : classify (s.tables.sensorLow 7) (s.tables.sensorHigh 7) (sampleValue raw.toNat (s.tables.sensorOffset 7)) = c)
    (known : (s.mon.channel 7).band = some c ∨ (s.mon.channel 7).pending = some c) :
    let value := sampleValue raw.toNat (s.tables.sensorOffset 7)
    let taken := (s.at d).withMon (s.mon.lastTaken (AnalogRec.sampled value c))
    exec (.converterTransactionEnd raw) s = .next (if (s.mon.channel 7).band = some c ∨ k = true then taken
      else taken.raise (.sensorBand 7 (some c) value)).settled := by
  intro value taken
  refine (exec_converterTransactionEnd running raw).trans ?_
  unfold State.transactionOver
  have sample := State.takeSample_confirmed (s := (s.at d).withMon { s.mon with transaction := none }) (masked := k)
    (by omega) low high class_eq known
  refine (congrArg (fun x : State => Host.Outcome.next (x.goRound 0).settled) sample).trans ?_
  refine congrArg (fun x : State => Host.Outcome.next x.settled) (State.goRound_ended ?_)
  split
  · exact unqueued
  · rw [State.raise_mon]
    exact unqueued

theorem inputSample_quiet {d : Nat} {pins : BitVec 6} (pending : s.power.sleepPending = none)
    (due : s.mon.nextSample = some d) (run : s.power.state = .run) (resting : s.motS.moving = false)
    (same : ∀ n < 6, (s.mon.input n).level = some (!pins.getLsbD n)) :
    ∃ t, exec (.inputSample pins) s = .next t ∧ t = { s with
      now := max s.now d
      mon := { s.mon with
        inputs := s.mon.inputs.map fun r => { r with count := 0 }
        nextSample := some (max s.now d + 20000) }
      power := s.power.timed t.power } := by
  obtain ⟨is, taken, inputs⟩ := State.sampleInputs_through pins 0 6
    ((s.at d).withMon { s.mon with nextSample := some ((s.at d).now + Config.ms 1) }) (le_refl 6) fun k _ high _ => same k high
  have all : is = s.mon.inputs.map fun r => { r with count := 0 } := by
    apply Vector.ext
    intro k high
    have here := inputs k high
    rw [if_pos ⟨by omega, by simp [State.samples, run, resting]⟩] at here
    simpa [Monitor.input, high] using here
  subst all
  have step := (exec_inputSample due pins).trans (congrArg (fun x : State => Host.Outcome.next x.settled) taken)
  exact ⟨_, next_settled step pending, rfl⟩

/-- Settles O56. -/
theorem sensorRounds : Obligations.SensorRounds := by
  refine ⟨fun c e k channel => ⟨Transaction.sends_eq channel, fun m => ?_⟩, fun d s pending => ⟨?_, ?_, ?_⟩⟩
  · rw [Monitor.spiSelect, Option.isSome_iff_ne_none]
  · exact roundStart_first pending
  · intro raw k running unqueued sum value level taken low high
    have class_eq : classify (s.tables.sensorLow 7) (s.tables.sensorHigh 7)
      (sampleValue raw.toNat (s.tables.sensorOffset 7)) = level :=
      rfl
    refine ⟨fun same => ?_, fun other known room => ?_⟩
    · have step := transactionEnd_last running unqueued low high class_eq (.inl same)
      dsimp only at step
      rw [if_pos (.inl same)] at step
      exact ⟨_, next_settled step pending, rfl⟩
    · have step := transactionEnd_last running unqueued low high class_eq (.inr known)
      dsimp only at step
      by_cases mute : k = true
      · rw [if_pos (.inr mute)] at step
        refine ⟨_, next_settled step pending, ?_⟩
        rw [if_pos mute]
        rfl
      · rw [if_neg (by simp [other, mute])] at step
        obtain ⟨t, stepped, told⟩ := next_reports step (State.Reports.one (by exact room)) pending
        refine ⟨t, stepped, told.trans ?_⟩
        rw [if_neg mute]
        rfl
  · intro pins
    exact inputSample_quiet pending

end

end Sys2Proof.Machine

/-! # The filters of the Sensor Monitor, and what a change of level does (O57) -/

namespace Sys2Proof.Machine

section

variable {s t x u : State}

/-! ### The filters (R128, R131, R132) -/

/-- R128: a sample of another class than the band's and the pending one waits for a second of it. -/
theorem AnalogRec.classed_other {r : AnalogRec} {c : Level} (band : r.band ≠ some c) (pending : r.pending ≠ some c) :
    r.classed c = { r with pending := some c } := by
  unfold AnalogRec.classed
  rw [if_neg band, if_neg pending]

theorem AnalogRec.classed_twice {r : AnalogRec} {c : Level} (band : r.band ≠ some c) : ((r.classed c).classed c).band = some c := by
  by_cases pending : r.pending = some c
  · rw [AnalogRec.classed_confirmed (.inr pending), AnalogRec.classed_confirmed (.inl rfl)]
  · rw [AnalogRec.classed_other band pending, AnalogRec.classed_confirmed (.inr rfl)]

/-- R131: samples in succession of a settled input that differ from its level are counted. -/
theorem InputRec.take_differing {need : Nat} {v : Bool} : ∀ {n : Nat}, n < need →
    (InputRec.take need v)^[n] { level := some !v, count := 0, sample := none } = { level := some !v, count := n, sample := none }
  | 0, _ => rfl
  | n + 1, few => by
    rw [Function.iterate_succ_apply', InputRec.take_differing (by omega)]
    simp [InputRec.take, Nat.not_le.2 few]

/-- R132: equal samples in succession of an unsettled input are counted. -/
theorem InputRec.take_equal {need : Nat} {v : Bool} : ∀ {n : Nat}, n < need →
    (InputRec.take need v)^[n] InputRec.unsettled =
      { level := none, count := n, sample := if n = 0 then none else some v }
  | 0, _ => rfl
  | n + 1, few => by
    rw [Function.iterate_succ_apply', InputRec.take_equal (by omega)]
    rcases Nat.eq_zero_or_pos n with rfl | later
    · simp [InputRec.take, InputRec.settling, Nat.not_le.2 few]
    · simp [InputRec.take, InputRec.settling, Nat.not_le.2 few, Nat.pos_iff_ne_zero.1 later]

theorem InputRec.take_last_differing {need : Nat} {v : Bool} (some_ : 0 < need) :
    ((InputRec.take need v)^[need] { level := some !v, count := 0, sample := none }).level = some v := by
  obtain ⟨n, rfl⟩ := Nat.exists_eq_succ_of_ne_zero some_.ne'
  rw [Function.iterate_succ_apply', InputRec.take_differing (Nat.lt_succ_self n)]
  simp [InputRec.take]

theorem InputRec.take_last_equal {need : Nat} {v : Bool} (some_ : 0 < need) :
    ((InputRec.take need v)^[need] InputRec.unsettled).level = some v := by
  obtain ⟨n, rfl⟩ := Nat.exists_eq_succ_of_ne_zero some_.ne'
  rw [Function.iterate_succ_apply', InputRec.take_equal (Nat.lt_succ_self n)]
  rcases Nat.eq_zero_or_pos n with rfl | later
  · simp [InputRec.take, InputRec.settling]
  · simp [InputRec.take, InputRec.settling, Nat.pos_iff_ne_zero.1 later]

/-! ### A sample that changes one level (R131, R134) -/

theorem State.Reports.withInputs {es : List Event} (is : Vector InputRec 6) (reports : x.Reports es u) :
    (x.withInputs is).Reports es (u.withInputs is) := by
  obtain ⟨c, rfl⟩ := reports
  exact ⟨c, rfl⟩

/-- R134: a change is reported behind the events so far, unless it is masked. -/
theorem State.Reports.input {es : List Event} {n : Nat} {v : Bool} (so_far : x.Reports es u) (room : x.link.room (es.length + 1)) :
    x.Reports (if (x.tables.p Param.masks % 256).testBit n = true then es else es ++ [.inputChange n v]) (u.reportInput n v) := by
  have tables : u.tables = x.tables := by
    obtain ⟨c, rfl⟩ := so_far
    rfl
  unfold State.reportInput Tables.inputMasked
  rw [tables]
  split
  · exact so_far
  · exact so_far.raise room

/-- The state in which an INPUT_SAMPLE due at `d` takes its samples. -/
abbrev State.atSample (s : State) (d : Nat) : State :=
  (s.at d).withMon { s.mon with nextSample := some (max s.now d + 20000) }

/-- R131, R134: an INPUT_SAMPLE that changes the level of input n. The change makes `x` of the part, but for its events `es`. -/
theorem inputSample_change {d n : Nat} {pins : BitVec 6} {es : List Event} {x : Vector InputRec 6 → State}
    (due : s.mon.nextSample = some d) (inside : n < 6) (sampled : s.samples n = true)
    (last : s.tables.p Param.debounce ≤ (s.mon.input n).count + 1)
    (levels : ∀ k < 6, (s.mon.input k).level = some (if k = n then pins.getLsbD k else !pins.getLsbD k))
    (reports : ∀ is, (x is).Reports es (((s.atSample d).withInputs is).handInput n (!pins.getLsbD n)))
    (kept : ∀ is, ∀ k < 6, ((x is).mon.input k).level = ((s.withInputs is).mon.input k).level)
    (later : ∀ is k, n < k → k < 6 → (x is).samples k = s.samples k)
    (room : ∀ is, (x is).link.room (es.length + 1)) (pending : ∀ is, (x is).power.sleepPending = none) :
    ∃ is t, exec (.inputSample pins) s = .next t ∧
      (∀ k < 6, (s.withInputs is).mon.input k =
        if k = n then { level := some (!pins.getLsbD n), count := 0, sample := none }
        else if k < n ∧ s.samples k = true then { s.mon.input k with count := 0 } else s.mon.input k) ∧
      (∀ k < 6, t.mon.input k = if n < k ∧ s.samples k = true then
        { (x is).mon.input k with count := 0 } else (x is).mon.input k) ∧
      t = { x is with
        mon := { (x is).mon with inputs := t.mon.inputs }
        link :=
          if ((x is).tables.p Param.masks % 256).testBit n = true then (x is).link.reported es t.link.chosen
          else (x is).link.reported (es ++ [.inputChange n (!pins.getLsbD n)]) t.link.chosen
        power := (x is).power.timed t.power } := by
  have records : ∀ is k, (((s.atSample d).withInputs is).handInput n (!pins.getLsbD n)).mon.input k = (x is).mon.input k := by
    intro is k
    obtain ⟨c, reported⟩ := reports is
    rw [reported]
  have samples : ∀ is k, (((s.atSample d).withInputs is).handInput n (!pins.getLsbD n)).samples k = (x is).samples k := by
    intro is k
    obtain ⟨c, reported⟩ := reports is
    rw [reported]
    rfl
  obtain ⟨is, js, taken, before, after⟩ := State.sampleInputs_change (s := s.atSample d) inside sampled last levels
    (fun is k high => (congrArg InputRec.level (records is k)).trans (kept is k high))
    (fun is k low high => (samples is k).trans (later is k low high))
  have step := (exec_inputSample due pins).trans (congrArg (fun y : State => Host.Outcome.next y.settled) taken)
  obtain ⟨t, stepped, told⟩ := next_reports step (((reports is).input (room is)).withInputs js) (pending is)
  obtain rfl : js = t.mon.inputs := (congrArg (·.mon.inputs) told).symm
  refine ⟨is, t, stepped, before, fun k high => (after k high).trans ?_, ?_⟩
  · rw [records]
    rfl
  by_cases masked : ((x is).tables.p Param.masks % 256).testBit n = true
  · rw [if_pos masked] at told ⊢
    exact told
  · rw [if_neg masked] at told ⊢
    exact told

/-- The same where the change leaves the inputs' records alone and every input is sampled. -/
theorem inputSample_changeAll {d n : Nat} {pins : BitVec 6} {es : List Event} {x : Vector InputRec 6 → State}
    (due : s.mon.nextSample = some d) (inside : n < 6) (sampled : ∀ k < 6, s.samples k = true)
    (last : s.tables.p Param.debounce ≤ (s.mon.input n).count + 1)
    (levels : ∀ k < 6, (s.mon.input k).level = some (if k = n then pins.getLsbD k else !pins.getLsbD k))
    (reports : ∀ is, (x is).Reports es (((s.atSample d).withInputs is).handInput n (!pins.getLsbD n)))
    (kept : ∀ is k, (x is).mon.input k = (s.withInputs is).mon.input k)
    (later : ∀ is k, n < k → k < 6 → (x is).samples k = s.samples k)
    (room : ∀ is, (x is).link.room (es.length + 1)) (pending : ∀ is, (x is).power.sleepPending = none) :
    ∃ is t, exec (.inputSample pins) s = .next t ∧
      (∀ k < 6, t.mon.input k =
        if k = n then { level := some (!pins.getLsbD n), count := 0, sample := none } else { s.mon.input k with count := 0 }) ∧
      t = { x is with
        mon := { (x is).mon with inputs := t.mon.inputs }
        link :=
          if ((x is).tables.p Param.masks % 256).testBit n = true then (x is).link.reported es t.link.chosen
          else (x is).link.reported (es ++ [.inputChange n (!pins.getLsbD n)]) t.link.chosen
        power := (x is).power.timed t.power } := by
  obtain ⟨is, t, step, before, after, told⟩ := inputSample_change due inside (sampled n inside) last levels reports
    (fun is k _ => congrArg InputRec.level (kept is k)) later room pending
  refine ⟨is, t, step, fun k high => ?_, told⟩
  rw [after k high, kept, before k high]
  rcases Nat.lt_trichotomy k n with low | rfl | above
  · rw [if_neg (by omega), if_neg (by omega), if_pos ⟨low, sampled k high⟩, if_neg (by omega)]
  · rw [if_neg (by omega), if_pos rfl, if_pos rfl]
  · rw [if_pos ⟨above, sampled k high⟩, if_neg (by omega), if_neg (by omega), if_neg (by omega)]

/-! ### What a change does (R85, R86, R134, R135) -/

/-- R134: a change that no block acts on. -/
theorem State.handInput_none {n : Nat} {v : Bool} (run : s.power.state = .run) (quiet : v = false ∨ n ≠ 2 ∧ n ≠ 3) :
    s.handInput n v = s := by
  have unseen : ∀ w, s.wakeSeen w = s := by
    intro w
    unfold State.wakeSeen
    rw [run]
  unfold State.handInput
  rcases quiet with rfl | ⟨paper, cover⟩
  · exact if_pos rfl
  · by_cases still : v = false
    · exact if_pos still
    · rw [if_neg still, if_neg (by exact cover), if_neg (by exact paper)]
      cases wakeSourceOf n with
      | none => rfl
      | some w => exact ite_eq_right_iff.2 fun _ => unseen w

theorem State.handInput_watched {n : Nat} {v : Bool} {w : WakeSource} (on : v = true) (source : wakeSourceOf n = some w)
    (number : n ≠ 2 ∧ n ≠ 3)
    (watched : s.watched n = true) : s.handInput n v = s.wakeSeen w := by
  unfold State.handInput
  rw [if_neg (by simp [on]), if_neg (by exact number.2), if_neg (by exact number.1), source]
  exact if_pos watched

theorem State.handInput_paper {v : Bool} (on : v = true) : s.handInput 2 v = s.printPaper := by
  unfold State.handInput
  rw [if_neg (by simp [on]), if_neg (by decide), if_pos (by decide)]

theorem State.handInput_cover {v : Bool} (on : v = true) : s.handInput 3 v = s.coverOpened := by
  unfold State.handInput
  rw [if_neg (by simp [on]), if_pos (by decide)]

/-! ### Paper and cover (R85, R86, R120) -/

theorem Dram.disown_eq (p : Request → Bool) (d : Dram) : d.disown p = { d with current := (d.disown p).current } := by
  unfold Dram.disown
  split
  · split <;> rfl
  · rfl

/-- R30: the withdrawal of a class of which no request waits. -/
theorem Dram.withdraw_none {c : ReqClass} {d : Dram} (absent : ∀ q ∈ d.waiting, q.cls ≠ c) : d.withdraw c = d := by
  unfold Dram.withdraw
  rw [List.filter_eq_self.2 fun q member => by simpa using absent q member]

/-- R87: with no fetch waiting, the buffers are emptied and the cursor of a KEEP page's entry goes to its start. -/
theorem State.resetCursor_keep {e : PrintEntry} {es : List PrintEntry} (queue : s.print.queue = e :: es)
    (keep : (s.page e.page).mode = some .keep) (absent : ∀ q ∈ s.dram.waiting, q.cls ≠ .printFetch) :
    ∃ c, s.resetCursor = { s with
      dram := { s.dram with current := c }
      print := { s.print with
        queue := { e with cursor := 0 } :: es
        copy := { s.print.copy with shift := ShiftBuf.none, fetch := FetchBuf.none } } } := by
  have withdrawn : s.withdraw .printFetch = s := by
    unfold State.withdraw
    rw [Dram.withdraw_none absent]
    rfl
  refine ⟨(s.dram.disown fun r => r.cls == .printFetch).current, ?_⟩
  unfold State.resetCursor State.dropFetch State.disown
  rw [withdrawn, Dram.disown_eq]
  simp only [State.withCopy, State.withPrint, State.withDram, State.withEntry, queue]
  rw [if_neg (by
    change ¬(s.page e.page).mode = _
    rw [keep]
    decide)]
  rfl

/-- R117: a stop asked of a channel that moves for its owner is pending. -/
theorem Channel.askStop_moving {c : Channel} {own : Owner} (moving : c.moving = true) (owner : c.owner = own) (held : c.held = none) :
    c.askStop own = ({ c with stop := if c.stop = .nostop then .pending else c.stop }, false) := by
  unfold Channel.askStop
  rw [held, if_neg (by simp), if_neg (by simp [owner])]
  have states : c.state = .accel ∨ c.state = .run ∨ c.state = .decel := by
    simpa [Channel.moving, or_assoc] using moving
  rcases states with state | state | state <;> rw [state]

/-- R85: PAPER_OUT becomes active during a copy of a KEEP page that moves. -/
theorem State.handInput_paperMoving {v : Bool} (on : v = true) {e : PrintEntry} {es : List PrintEntry}
    (queue : s.print.queue = e :: es)
    (keep : (s.page e.page).mode = some .keep) (printing : s.print.copy.state = .printing) (kept : s.print.copy.abandon = .kept)
    (going : s.print.copy.cancelPending = false) (free : s.print.copy.heldMove = none) (rested : s.print.copy.rested = false)
    (moving : s.motP.moving = true) (owner : s.motP.owner = .print) (held : s.motP.held = none)
    (absent : ∀ q ∈ s.dram.waiting, q.cls ≠ .printFetch) :
    ∃ c, State.Reports { s with
      dram := { s.dram with current := c }
      motP := { s.motP with stop := if s.motP.stop = .nostop then .pending else s.motP.stop }
      print := { s.print with
        queue := { e with cursor := 0 } :: es
        copy := { s.print.copy with
          abandon := .paper
          stopping := true
          shift := ShiftBuf.none
          fetch := FetchBuf.none } } } [] (s.handInput 2 v) := by
  obtain ⟨c, reset⟩ := State.resetCursor_keep (s := s.withCopy { s.print.copy with abandon := .paper, stopping := true })
    queue keep absent
  refine ⟨c, s.link.chosen, ?_⟩
  unfold Link.reported
  rw [State.handInput_paper on, List.append_nil]
  unfold State.printPaper
  dsimp only
  rw [if_neg (by simp [going, kept]), printing]
  dsimp only
  rw [← printing, reset]
  unfold State.stopAbandoned State.requestStop
  dsimp only
  rw [if_neg (by simp [State.withCopy, free, rested])]
  have asked : State.mot _ .p = s.motP := rfl
  rw [Channel.askStop_moving (by exact moving) (by exact owner) (by exact held), if_neg (by simp)]
  rfl

theorem Channel.halt_moving (c : Channel) : c.halt.moving = false := by
  unfold Channel.halt
  split
  · next off => simp [Channel.moving, off]
  · rfl

/-- R133: a change of DOC_EDGE's sampling mode changes no level. -/
theorem Monitor.edgeModeChanged_level {m : Monitor} (k : Nat) : (m.edgeModeChanged.input k).level = (m.input k).level := by
  refine (congrArg InputRec.level (Monitor.input_set (m := m) (n := Input.docEdge) (by decide))).trans ?_
  split
  · next same => rw [same]; rfl
  · rfl

/-- R120, R133: both channels are halted; DOC_EDGE's sampling mode changes with channel S. -/
theorem State.haltBoth_eq : s.haltBoth = { s with
    motS := s.motS.halt
    motP := s.motP.halt
    mon := if s.motS.moving = true then s.mon.edgeModeChanged else s.mon } := by
  unfold State.haltBoth
  change State.withMotP (if s.motS.moving = s.motS.halt.moving then _ else _) _ = _
  rw [Channel.halt_moving]
  by_cases moving : s.motS.moving = true
  · rw [if_neg (by simp [moving]), if_pos moving]
    rfl
  · rw [if_pos (by simpa using moving), if_neg moving]
    rfl

theorem State.Reports.haltBoth {es : List Event} (reports : x.Reports es u) : x.haltBoth.Reports es u.haltBoth := by
  obtain ⟨c, rfl⟩ := reports
  exact ⟨c, by rw [State.haltBoth_eq, State.haltBoth_eq]⟩

theorem State.haltBoth_still (still : s.motS.moving = false) :
    s.haltBoth = { s with motS := s.motS.halt, motP := s.motP.halt } := by
  rw [State.haltBoth_eq, if_neg (by simp [still])]

theorem State.haltBoth_level {k : Nat} : (s.haltBoth.mon.input k).level = (s.mon.input k).level := by
  rw [State.haltBoth_eq]
  dsimp only
  split
  · exact Monitor.edgeModeChanged_level k
  · rfl

theorem State.haltBoth_monRest (is : Vector InputRec 6) :
    ({ s.haltBoth.mon with inputs := is } : Monitor) = { s.mon with inputs := is } := by
  rw [State.haltBoth_eq]
  dsimp only
  split <;> rfl

/-- R69: with no scan job, no readout and no calibration the Scan Unit has nothing to do at a cover opening. -/
theorem State.scanCover_idle (idle : s.scan.job.state = .idle) (none_ : s.scan.readouts = [])
    (uncalibrated : s.scan.calibration = none) :
    s.scanCover = s := by
  have cut : s.scan.cutReadouts = s.scan := by
    unfold ScanUnit.cutReadouts
    rw [none_, List.foldl_nil, ← none_]
  unfold State.scanCover
  rw [idle]
  dsimp only
  rw [cut, State.withScan_scan, uncalibrated]
  rfl

/-- R86: the copy record that a cover opening leaves. -/
def CopyRec.covered (c : CopyRec) : CopyRec :=
  { c with
    state := .suspended
    pause := none
    suspend := some .cover
    stopping := false
    abandon := .kept
    shift := ShiftBuf.none
    fetch := FetchBuf.none
    rested := false
    startEnds := none
    cutEnds := none }

/-- R86: COVER_OPEN becomes active during a copy of a KEEP page, with no cancellation pending and no move held. -/
theorem State.printCover_copying {e : PrintEntry} {es : List PrintEntry} (queue : s.print.queue = e :: es)
    (keep : (s.page e.page).mode = some .keep)
    (copying : s.print.copy.state = .lead ∨ s.print.copy.state = .printing ∨ s.print.copy.state = .paused)
    (going : s.print.copy.cancelPending = false) (free : s.print.copy.heldMove = none)
    (absent : ∀ q ∈ s.dram.waiting, q.cls ≠ .printFetch) (room : s.link.room 1) :
    ∃ c, State.Reports { s with
      dram := { s.dram with current := c }
      print := { s.print with
        queue := { e with cursor := 0 } :: es
        hpwr := false
        cutter := false
        seq := .idle
        seqEnds := none
        copy := s.print.copy.covered } } [.printSuspended e.page .cover] s.printCover := by
  have cut : s.cutHead = s.withPrint { s.print with
      hpwr := false
      cutter := false
      seq := .idle
      seqEnds := none
      copy := { s.print.copy with heldMove := none } } := by
    unfold State.cutHead
    rw [free]
  have covered : s.printCover = (s.cutHead.resetCursor).suspend .cover := by
    unfold State.printCover
    dsimp only
    rcases copying with state | state | state <;> rw [state] <;> dsimp only <;> rw [if_neg (by simp [going])]
  obtain ⟨c, reset⟩ := State.resetCursor_keep (s := s.cutHead) (by rw [cut]; exact queue) (by rw [cut]; exact keep)
    (by rw [cut]; exact absent)
  refine ⟨c, ?_⟩
  rw [covered, reset, cut]
  have held : s.print.copy.covered = { s.print.copy.covered with heldMove := none } := by
    rw [← free]
    rfl
  rw [held]
  exact State.Reports.one (by exact room)

/-- R86, R120: the cover opens during a copy with the Scan Unit idle. -/
theorem State.handInput_coverCopying {v : Bool} (on : v = true) {e : PrintEntry} {es : List PrintEntry}
    (queue : s.print.queue = e :: es) (keep : (s.page e.page).mode = some .keep)
    (copying : s.print.copy.state = .lead ∨ s.print.copy.state = .printing ∨ s.print.copy.state = .paused)
    (going : s.print.copy.cancelPending = false) (free : s.print.copy.heldMove = none)
    (idle : s.scan.job.state = .idle) (uncalibrated : s.scan.calibration = none) (none_ : s.scan.readouts = [])
    (absent : ∀ q ∈ s.dram.waiting, q.cls ≠ .printFetch) (room : s.link.room 1) :
    ∃ c, State.Reports (State.haltBoth { s with
      dram := { s.dram with current := c }
      print := { s.print with
        queue := { e with cursor := 0 } :: es
        hpwr := false
        cutter := false
        seq := .idle
        seqEnds := none
        copy := s.print.copy.covered } }) [.printSuspended e.page .cover] (s.handInput 3 v) := by
  obtain ⟨c, reports⟩ := State.printCover_copying queue keep copying going free absent room
  refine ⟨c, ?_⟩
  rw [State.handInput_cover on, State.coverOpened, State.scanCover_idle idle none_ uncalibrated]
  exact reports.haltBoth

theorem PageRec.close_unfilled {r : PageRec} (truncated : Bool) (unfilled : r.filling = false) :
    r.close truncated = { r with state := .closed, writer := none, truncated := truncated } := by
  unfold PageRec.close
  rw [if_neg (by simp [unfilled]), ← unfilled]

theorem PageRec.returned_unfilled {r : PageRec} (unfilled : r.filling = false) : r.returned = [] := by
  unfold PageRec.returned
  rw [unfilled]
  rfl

/-- R7: the close of a page whose last band holds lines. -/
theorem State.shutPage_unfilled {p : Nat} {truncated : Bool} (unfilled : (s.page p).filling = false) :
    ∃ c, s.shutPage p truncated = { s with
      store := s.store.withPage p { s.page p with state := .closed, writer := none, truncated := truncated }
      dram := { s.dram with current := c } } := by
  obtain ⟨c, shut⟩ := State.shutPage_eq (s := s) p truncated
  rw [PageRec.returned_unfilled unfilled, List.append_nil, PageRec.close_unfilled truncated unfilled] at shut
  exact ⟨c, shut⟩

/-- R67, R69: the Scan Unit with its captures cut short and no write of a line in transfer. -/
def ScanUnit.emptied (u : ScanUnit) : ScanUnit :=
  { u with
    writes := []
    readouts := []
    slotA := { u.slotA with use := .free }
    slotB := { u.slotB with use := .free } }

theorem State.endCaptures_cut (ending : s.dram.ending .scanWrite = none) (absent : ∀ q ∈ s.dram.waiting, q.cls ≠ .scanWrite) :
    s.endCaptures true = s.withScan s.scan.emptied := by
  have withdrawn : s.withdraw .scanWrite = s := by
    unfold State.withdraw
    rw [Dram.withdraw_none absent]
    rfl
  unfold State.endCaptures
  rw [withdrawn]
  unfold ScanUnit.release
  dsimp only
  rw [ending]
  rfl

/-- R69: a cover opening aborts a scan into a KEEP page that keeps its page, with nobody to be told of its close. -/
theorem State.scanAbort_retained {p : Nat} {why : AbortReason} (page : s.scan.job.page = some p) (inside : p < 32)
    (standing : s.scan.job.pageClosed = false) (ending : s.dram.ending .scanWrite = none)
    (absent : ∀ q ∈ s.dram.waiting, q.cls ≠ .scanWrite) (unattended : s.unattended) (keep : (s.page p).mode = some .keep)
    (retained : (s.page p).retain = some true) (unfilled : (s.page p).filling = false) (room : s.link.room 2) :
    ∃ c, State.Reports { s with
      store := s.store.withPage p { s.page p with state := .closed, writer := none, truncated := true }
      dram := { s.dram with current := c }
      scan := { s.scan.emptied with job := ScanJob.idle, lamp := false } }
      [.pageClosed p (s.page p).committed true (s.page p).label, .scanAborted p why] (s.scanAbort why true) := by
  have quiet : ({ s.store with memoryLow := false, scanWaits := false } : PageStore) = s.store := by
    obtain ⟨waits, low, _⟩ := unattended
    have same : s.store = { s.store with memoryLow := s.store.memoryLow, scanWaits := s.store.scanWaits } := rfl
    rw [low, waits] at same
    exact same.symm
  have aborted : s.scanAbort why true =
      (((s.withScan { s.scan.emptied with job := ScanJob.idle, lamp := false }).closePage p true).raise
        (.scanAborted p why)).lookLink := by
    unfold State.scanAbort
    dsimp only
    rw [page, standing, State.endCaptures_cut ending absent]
    change (((State.withStore _ { s.store with memoryLow := false, scanWaits := false }).closePage p true).raise _).lookLink = _
    rw [quiet]
    rfl
  have closed := State.closePage_retained (truncated := true) (s := s.withScan { s.scan.emptied with job := ScanJob.idle, lamp := false })
    inside keep retained unattended (Link.room.mono room (by omega))
  obtain ⟨c, shut⟩ := State.shutPage_unfilled (truncated := true)
    (s := s.withScan { s.scan.emptied with job := ScanJob.idle, lamp := false }) unfilled
  rw [shut] at closed
  have both := closed.raise (e := .scanAborted p why) room
  obtain ⟨l, told⟩ := both
  refine ⟨c, l, ?_⟩
  rw [aborted, told]
  obtain ⟨_, _, wait, _⟩ := unattended
  unfold State.lookLink
  change (match s.store.poolWait with | none => _ | some w => _) = _
  rw [wait]
  rfl

theorem State.printCover_idle (idle : s.print.copy.state = .idle) : s.printCover = s := by
  unfold State.printCover
  dsimp only
  rw [idle]

/-- R69, R120: the cover opens during a scan into a KEEP page that keeps its page, with no copy. -/
theorem State.handInput_coverScanning {v : Bool} (on : v = true) {p : Nat} (job : s.scan.job.state ≠ .idle)
    (notEject : s.scan.job.state ≠ .eject) (copy : s.print.copy.state = .idle) (page : s.scan.job.page = some p) (inside : p < 32)
    (standing : s.scan.job.pageClosed = false) (ending : s.dram.ending .scanWrite = none)
    (absent : ∀ q ∈ s.dram.waiting, q.cls ≠ .scanWrite) (unattended : s.unattended) (keep : (s.page p).mode = some .keep)
    (retained : (s.page p).retain = some true) (unfilled : (s.page p).filling = false) (room : s.link.room 2) :
    ∃ c, State.Reports (State.haltBoth { s with
      store := s.store.withPage p { s.page p with state := .closed, writer := none, truncated := true }
      dram := { s.dram with current := c }
      scan := { s.scan.emptied with job := ScanJob.idle, lamp := false } })
      [.pageClosed p (s.page p).committed true (s.page p).label, .scanAborted p .cover] (s.handInput 3 v) := by
  obtain ⟨c, reports⟩ := State.scanAbort_retained (why := .cover) page inside standing ending absent unattended keep retained
    unfilled room
  have aborted : s.scanCover = s.scanAbort .cover true := by
    unfold State.scanCover
    split
    · next idle => exact absurd idle job
    · next eject => exact absurd eject notEject
    all_goals rfl
  have copying : (s.scanAbort .cover true).print.copy.state = .idle := by
    obtain ⟨l, told⟩ := reports
    rw [told]
    exact copy
  refine ⟨c, ?_⟩
  rw [State.handInput_cover on, State.coverOpened, aborted, State.printCover_idle copying]
  exact reports.haltBoth

/-! ### The changes of R134 as they are handed on -/

/-- R135: in RUN and STANDBY every input is sampled while channel S stands, and in a sleep entry. -/
theorem State.samples_all {k : Nat} (still : s.motS.moving = false) (awake : s.power.state = .run ∨ s.power.state = .enteringSleep) :
    s.samples k = true := by
  unfold State.samples
  rw [if_neg (by simp [still])]
  rcases awake with state | state <;> rw [state]

theorem State.samples_behindEdge {k : Nat} (behind : 1 < k) (run : s.power.state = .run) : s.samples k = true := by
  unfold State.samples
  rw [if_neg fun h => absurd behind (by rw [h.1]; decide), run]

/-- R135: the wake source that a watched input is. -/
theorem wakeSourceOf_watched {n : Nat} (watched : n = 0 ∨ n = 4 ∨ n = 5) :
    wakeSourceOf n = some (if n = 0 then .docIn else if n = 4 then .ring else .key) := by
  rcases watched with rfl | rfl | rfl <;> rfl

theorem State.watched_iff {n : Nat} (number : n = 0 ∨ n = 4 ∨ n = 5) (on : (s.tables.p Param.masks / 256).testBit n = true) :
    s.watched n = true := by
  unfold State.watched Tables.wakeMask
  rw [on, Bool.and_true]
  rcases number with rfl | rfl | rfl <;> rfl

theorem sensorFilters_inputs (need n : Nat) (v : Bool) (some_ : 0 < need) :
    let settled : InputRec := { level := some !v, count := 0, sample := none }
    (n < need → ((InputRec.take need v)^[n] settled).level = some !v) ∧
      ((InputRec.take need v)^[need] settled).level = some v ∧
      (n < need → ((InputRec.take need v)^[n] InputRec.unsettled).level = none) ∧
      ((InputRec.take need v)^[need] InputRec.unsettled).level = some v ∧
      (n < need → InputRec.take need (!v) ((InputRec.take need v)^[n] settled) = settled) := by
  refine ⟨fun few => ?_, InputRec.take_last_differing some_, fun few => ?_, InputRec.take_last_equal some_, fun few => ?_⟩
  · rw [InputRec.take_differing few]
  · rw [InputRec.take_equal few]
  · rw [InputRec.take_differing few]
    simp [InputRec.take]

/-- Settles O57: the filters by the number of samples, and each clause of R134 by what the change hands on. -/
theorem sensorFilters : Obligations.SensorFilters := by
  refine ⟨fun r c => ⟨fun same => ?_, fun band pending => ?_, AnalogRec.classed_twice⟩, sensorFilters_inputs,
    fun d n pins s due inside still pending last levels => ⟨fun run room => ⟨?quiet, ?paper, ?cover⟩, ?falling, ?asleep⟩, ?scan⟩
  · rw [AnalogRec.classed_confirmed (.inl same)]
    exact ⟨rfl, rfl⟩
  · rw [AnalogRec.classed_other band pending]
    exact ⟨rfl, rfl⟩
  case quiet =>
    intro quiet
    have calm : (!pins.getLsbD n) = false ∨ n ≠ 2 ∧ n ≠ 3 := quiet
    obtain ⟨is, t, step, inputs, told⟩ := inputSample_changeAll (es := []) (x := (s.atSample d).withInputs) due inside
      (fun k _ => State.samples_all still (.inl run)) last levels
      (fun is => by
        rw [State.handInput_none (by exact run) calm]
        exact State.Reports.none _)
      (fun _ _ => rfl) (fun _ _ _ _ => rfl) (fun _ => Link.room.mono room (by decide)) (fun _ => pending)
    exact ⟨t, step, inputs, told⟩
  case paper =>
    rintro e es rfl active queue keep printing kept going free rested moving owner held absent
    choose c reports using fun is => State.handInput_paperMoving (s := (s.atSample d).withInputs is) active queue keep printing kept
      going free rested moving owner held absent
    obtain ⟨is, t, step, inputs, told⟩ := inputSample_changeAll due inside (fun k _ => State.samples_all still (.inl run)) last levels
      reports (fun _ _ => rfl) (fun _ _ _ _ => rfl) (fun _ => Link.room.mono room (by decide)) (fun _ => pending)
    have current : t.dram.current = c is := congrArg (·.dram.current) told
    rw [← current] at told
    exact ⟨t, step, inputs, told⟩
  case cover =>
    rintro e es rfl active queue keep copying going free idle uncalibrated none_ absent
    choose c reports using fun is => State.handInput_coverCopying (s := (s.atSample d).withInputs is) active queue keep copying going
      free idle uncalibrated none_ absent (Link.room.mono room (by decide))
    obtain ⟨is, t, step, inputs, told⟩ := inputSample_changeAll due inside (fun k _ => State.samples_all still (.inl run)) last levels
      reports (fun _ _ => by rw [State.haltBoth_still (by exact still)]; rfl)
      (fun _ k behind _ => (State.samples_behindEdge (by omega) (by rw [State.haltBoth_power]; exact run)).trans
        (State.samples_behindEdge (by omega) run).symm)
      (fun _ => by
        rw [State.haltBoth_still (by exact still)]
        exact Link.room.mono room (by simp))
      (fun _ => by
        rw [State.haltBoth_still (by exact still)]
        exact pending)
    rw [State.haltBoth_still (by exact still)] at told
    have current : t.dram.current = c is := congrArg (·.dram.current) told
    rw [← current] at told
    exact ⟨t, step, inputs, told⟩
  case falling =>
    intro entering unheld watched active room
    obtain ⟨number, on⟩ := watched
    have reports : ∀ is, State.Reports (((s.atSample d).withInputs is).withPower { s.power with
        heldWake := some (if n = 0 then .docIn else if n = 4 then .ring else .key) }) []
        (((s.atSample d).withInputs is).handInput n (!pins.getLsbD n)) := by
      intro is
      rw [State.handInput_watched (s := (s.atSample d).withInputs is) active (wakeSourceOf_watched number) (by omega)
        (State.watched_iff number on)]
      unfold State.wakeSeen
      dsimp only
      rw [show ((s.atSample d).withInputs is).power = s.power from rfl, entering]
      dsimp only
      rw [if_pos unheld]
      exact State.Reports.none _
    obtain ⟨is, t, step, inputs, told⟩ := inputSample_changeAll due inside (fun k _ => State.samples_all still (.inr entering)) last
      levels reports (fun _ _ => rfl) (fun _ _ _ _ => rfl) (fun _ => room) (fun _ => pending)
    exact ⟨t, step, inputs, told⟩
  case asleep =>
    rintro asleep selfRefresh cause rfl watched active room
    obtain ⟨number, on⟩ := watched
    have reports : ∀ is, State.Reports (((s.atSample d).withInputs is).startWaking .key) []
        (((s.atSample d).withInputs is).handInput 5 (!pins.getLsbD 5)) := by
      intro is
      rw [State.handInput_watched (s := (s.atSample d).withInputs is) active (wakeSourceOf_watched number) (by omega)
        (State.watched_iff number on)]
      unfold State.wakeSeen
      rw [show ((s.atSample d).withInputs is).power = s.power from rfl, asleep]
      exact State.Reports.none _
    have woken : ∀ is, ((s.atSample d).withInputs is).startWaking .key = { (s.atSample d).withInputs is with
        dram := { s.dram with
          state := .srExit
          stateEnds := some (max s.now d + 20 * s.tables.p Param.srExitTime)
          exitAsked := false
          wakeExit := true }
        power := { s.power with
          state := .waking
          wakeSource := some .key
          heldWake := none
          wakeTimer := none } } := by
      intro is
      have exit : ∀ now time, s.dram.wake now time = { s.dram.beginExit now time with wakeExit := true } := fun _ _ =>
        if_pos ⟨selfRefresh, cause⟩
      exact congrArg (State.withDram _) (exit _ _)
    have watched : s.samples 5 = true := by
      unfold State.samples
      rw [if_neg fun h => absurd h.1 (by decide), asleep]
      exact State.watched_iff number on
    obtain ⟨is, t, step, before, inputs, told⟩ := inputSample_change due inside watched last levels reports (fun _ _ _ => rfl)
      (by omega) (fun _ => room) (fun _ => pending)
    rw [woken] at told
    have level : ∀ k < 6, (t.mon.input k).level = ((s.withInputs is).mon.input k).level := by
      intro k high
      rw [inputs k high, if_neg (by omega)]
      rfl
    refine ⟨t, step, told, ?_, fun k low => ?_⟩
    · rw [level 5 inside, before 5 inside, if_pos rfl]
      exact congrArg some active
    · rw [level k (by omega), before k (by omega), if_neg (by omega)]
      split <;> rfl
  case scan =>
    intro d p pins s due last levels active pending run room job notEject page bound standing ending absent unattended copy keep
      retained unfilled
    have low : (!pins.getLsbD 3) = true := by rw [active]; rfl
    choose c reports using fun is => State.handInput_coverScanning (s := (s.atSample d).withInputs is) low job notEject copy page bound
      standing ending absent unattended keep retained unfilled (Link.room.mono room (by decide))
    obtain ⟨is, t, step, before, inputs, told⟩ := inputSample_change
      (es := [.pageClosed p (s.page p).committed true (s.page p).label, .scanAborted p .cover]) due (by decide)
      (State.samples_behindEdge (by decide) run) last levels reports
      (fun is k _ => by
        rw [State.haltBoth_level]
        rfl)
      (fun _ k behind _ => (State.samples_behindEdge (by omega) (by rw [State.haltBoth_power]; exact run)).trans
        (State.samples_behindEdge (by omega) run).symm)
      (fun _ => by
        rw [State.haltBoth_eq]
        exact room)
      (fun _ => by
        rw [State.haltBoth_eq]
        exact pending)
    have level : ∀ k < 6, (t.mon.input k).level = ((s.withInputs is).mon.input k).level := by
      intro k high
      rw [inputs k high, apply_ite InputRec.level, ite_self, State.haltBoth_level]
      rfl
    refine ⟨t, step, fun k high => ?_, ?_⟩
    · rw [level k high, before k high]
      rcases eq_or_ne k 3 with rfl | other
      · rfl
      · rw [if_neg other, apply_ite InputRec.level, ite_self, levels k high, if_neg other]
    · rw [low, State.haltBoth_monRest, State.haltBoth_eq] at told
      have current : t.dram.current = c is := congrArg (·.dram.current) told
      rw [← current] at told
      exact told

end

end Sys2Proof.Machine

/-! # Pages opened, and the queries (O34, O36, O37) -/

namespace Sys2Proof.Machine

section

variable {s t : State}

/-! ### OPEN PAGE (R4, R159, R167) -/

theorem exec_openPage {tag page kind mode : Byte} {width : Half} {resolution retain : Byte} {label : Half}
    (takes : s.takesCommand = true) : exec (.openPage tag page kind mode width resolution retain label) s =
      .next (s.doOpenPage tag page kind mode width resolution retain label) :=
  congrArg Host.Outcome.next (if_pos takes)

/-- R159, R167: the fields of an IMAGE KEEP page that are in range. -/
theorem openFields_image {page resolution retain : Byte} {width label : Half} {res : Resolution} (inside : page.toNat < 32)
    (least : 512 ≤ width.toNat) (most : width.toNat ≤ 2048) (multiple : width.toNat % 64 = 0)
    (known : resolutionOf resolution = some res) (flag : retain = 0#8 ∨ retain = 1#8) :
    openFields page 0#8 0#8 width resolution retain label = some
      { page := page.toNat, kind := .image, mode := .keep, width := width.toNat, res := res, retain := retain == 1#8,
        label := label } := by
  have retained : flagOf retain = some (retain == 1#8) := by
    rcases flag with rfl | rfl <;> rfl
  unfold openFields
  have kinds : kindOf 0#8 = some .image ∧ modeOf 0#8 = some .keep := ⟨rfl, rfl⟩
  simp only [kinds, retained, known]
  rw [if_pos]
  · rfl
  · refine ⟨by omega, .inr ⟨?_, rfl⟩, .inr rfl⟩
    simp [widthOk, least, most, multiple]

/-- R159, R167: the width, resolution and retain flag of a BLOCK STREAM page are not checked. -/
theorem openFields_block {page resolution retain : Byte} {width label : Half} (inside : page.toNat < 32) :
    openFields page 1#8 1#8 width resolution retain label = some
      { page := page.toNat, kind := .block, mode := .stream, width := width.toNat, res := (resolutionOf resolution).getD .std,
        retain := (flagOf retain).getD false, label := label } := by
  unfold openFields
  have kinds : kindOf 1#8 = some .block ∧ modeOf 1#8 = some .stream := ⟨rfl, rfl⟩
  simp only [kinds]
  exact if_pos ⟨by omega, .inl trivial, .inl trivial⟩

theorem openFields_width {page mode resolution retain : Byte} {width label : Half} (other : width.toNat % 64 ≠ 0) :
    openFields page 0#8 mode width resolution retain label = none := by
  unfold openFields
  have kind : kindOf 0#8 = some .image := rfl
  rw [kind]
  cases modeOf mode with
  | none => rfl
  | some m => exact if_neg fun h => by simp [widthOk, other] at h

/-- R4, R167: an OPEN PAGE in range opens a FREE page, and is refused for any other. -/
theorem State.doOpenPage_fields {tag page kind mode : Byte} {width : Half} {resolution retain : Byte} {label : Half} {f : OpenFields}
    (fields : openFields page kind mode width resolution retain label = some f) :
    ∃ c, s.doOpenPage tag page kind mode width resolution retain label =
      if (s.page f.page).state ≠ .free then { s with link := s.link.replied tag 0x01#8 .pageInUse [] c }
      else { s with
        store := s.store.withPage f.page (PageRec.opened f.kind f.mode .link f.width f.res f.retain f.label)
        link := s.link.replied tag 0x01#8 .accepted [] c } := by
  unfold State.doOpenPage State.refuse State.accept
  rw [fields]
  dsimp only
  split
  · exact State.answer_replies
  · obtain ⟨c, answered⟩ := State.answer_replies (s := s) (tag := tag) (kind := 0x01#8) (code := .accepted) (data := [])
    exact ⟨c, by rw [answered]; rfl⟩

/-- Settles O34. -/
theorem openPage : Obligations.OpenPage := by
  intro tag page kind mode width resolution retain label s takes inside p c
  have step : exec c s = _ := exec_openPage takes
  refine ⟨fun res free image keep least most multiple known flag => ?_, fun free block stream => ?_, fun used block stream => ?_,
    fun image other => ?_⟩
  · subst image keep
    obtain ⟨chosen, opened⟩ := State.doOpenPage_fields (s := s) (tag := tag)
      (openFields_image (label := label) inside least most multiple known flag)
    rw [opened, if_neg (by simpa using free)] at step
    exact ⟨_, step, rfl⟩
  · subst block stream
    obtain ⟨chosen, opened⟩ := State.doOpenPage_fields (s := s) (tag := tag)
      (openFields_block (width := width) (resolution := resolution) (retain := retain) (label := label) inside)
    rw [opened, if_neg (by simpa using free)] at step
    exact ⟨_, step, rfl⟩
  · subst block stream
    obtain ⟨chosen, opened⟩ := State.doOpenPage_fields (s := s) (tag := tag)
      (openFields_block (width := width) (resolution := resolution) (retain := retain) (label := label) inside)
    rw [opened, if_pos used] at step
    exact ⟨_, step, rfl⟩
  · subst image
    have refused : s.doOpenPage tag page 0#8 mode width resolution retain label = s.refuse tag 0x01#8 .badParameter := by
      unfold State.doOpenPage
      rw [openFields_width other]
    obtain ⟨chosen, answered⟩ := State.answer_replies (s := s) (tag := tag) (kind := 0x01#8) (code := .badParameter) (data := [])
    rw [refused, State.refuse, answered] at step
    exact ⟨_, step, rfl⟩

/-! ### QUERY MEMORY (R36, R169) -/

theorem exec_queryMemory (takes : s.takesCommand = true) (tag : Byte) :
    exec (.queryMemory tag) s = .next (s.doQueryMemory tag) := congrArg Host.Outcome.next (if_pos takes)

theorem State.doQueryMemory_eq (tag : Byte) : ∃ c, s.doQueryMemory tag = { s with
    dram := s.dram.clearCounters
    link := s.link.replied tag 0x20#8 .accepted s.dram.report c } := by
  obtain ⟨c, answered⟩ := State.answer_replies (s := s) (tag := tag) (kind := 0x20#8) (code := .accepted) (data := s.dram.report)
  exact ⟨c, by rw [State.doQueryMemory, answered]; rfl⟩

/-- The counters of R36 are the same. -/
def Dram.SameCounters (d e : Dram) : Prop :=
  e.hits = d.hits ∧ e.misses = d.misses ∧ e.evictions = d.evictions ∧ e.overruns = d.overruns

theorem Dram.SameCounters.trans {d e f : Dram} (h : d.SameCounters e) (k : e.SameCounters f) : d.SameCounters f := by
  obtain ⟨hits, misses, evictions, overruns⟩ := h
  obtain ⟨hits', misses', evictions', overruns'⟩ := k
  exact ⟨hits'.trans hits, misses'.trans misses, evictions'.trans evictions, overruns'.trans overruns⟩

theorem State.raiseAll_dram : ∀ (es : List Event) (x : State), (x.raiseAll es).dram = x.dram
  | [], _ => rfl
  | e :: es, x => (State.raiseAll_dram es (x.raise e)).trans (State.raise_dram x e)

theorem State.startAuto_counters (s : State) : s.dram.SameCounters s.startAuto.dram := by
  unfold State.startAuto Dram.startAuto
  rw [State.withDram_dram]
  split
  · exact ⟨rfl, rfl, rfl, rfl⟩
  · exact ⟨rfl, rfl, rfl, rfl⟩

theorem State.restartPower_counters (s : State) : s.dram.SameCounters s.restartPower.dram := by
  unfold State.restartPower
  dsimp only
  split
  · exact State.startAuto_counters _
  · exact ⟨rfl, rfl, rfl, rfl⟩

theorem Dram.warmReset_counters (d : Dram) : d.SameCounters d.warmReset := by
  unfold Dram.warmReset Dram.slotless
  rw [Dram.disown_eq]
  split <;> exact ⟨rfl, rfl, rfl, rfl⟩

/-- R36, R176: a RESTART leaves the counters as they are. -/
theorem State.doRestart_counters (s : State) (tag : Byte) : s.dram.SameCounters (s.doRestart tag).settled.dram := by
  have awake : (s.doRestart tag).power.sleepPending = none := by
    unfold State.doRestart State.restartBlocks State.restartPower
    rw [State.raiseAll_power, State.answer_power]
    dsimp only
    split
    · rfl
    · rfl
  have warm : s.warmBlocks.dram = s.dram.warmReset := by simp [State.warmBlocks, State.resetBoth]
  have blocks : s.restartBlocks.dram.SameCounters (s.doRestart tag).settled.dram := by
    rw [State.settled_eq awake]
    unfold State.doRestart
    dsimp only
    rw [State.raiseAll_dram]
    exact ⟨rfl, rfl, rfl, rfl⟩
  have power : s.dram.warmReset.SameCounters s.restartBlocks.dram := by
    rw [← warm]
    exact State.restartPower_counters _
  exact (s.dram.warmReset_counters.trans power).trans blocks

/-- R36: the report of counters at 0. -/
theorem Dram.clearCounters_report (d : Dram) : d.clearCounters.report = List.replicate 8 0#8 := by
  change twoBytes 0 ++ twoBytes 0 ++ twoBytes 0 ++ twoBytes 0 = _
  decide

/-- Settles O37. -/
theorem queryMemory : Obligations.QueryMemory := by
  intro tag s takes
  obtain ⟨c, answered⟩ := State.doQueryMemory_eq (s := s) tag
  refine ⟨⟨_, (exec_queryMemory takes tag).trans (congrArg Host.Outcome.next answered), rfl, fun tag' u takes' again => ?_⟩,
    fun ok n member => ?_, _, congrArg Host.Outcome.next (if_pos takes), State.doRestart_counters s tag⟩
  · rw [exec_queryMemory takes'] at again
    obtain ⟨c', second⟩ := State.doQueryMemory_eq tag'
    rw [second] at again
    cases again
    exact congrArg (fun data => s.link.replies ++ [_] ++ [{ tag := tag', kind := 0x20#8, code := .accepted, data := data }])
      (Dram.clearCounters_report s.dram)
  · obtain ⟨_, _, _, hits, misses, evictions, overruns⟩ := ok
    have bound : n ≤ 65535 := by
      simp only [List.mem_cons, List.not_mem_nil, or_false] at member
      omega
    exact ⟨bound, by rw [BitVec.toNat_ofNat]; omega⟩

end

end Sys2Proof.Machine

/-! # The queries' reports (O36) -/

namespace Sys2Proof.Machine

section

variable {s : State}

/-! ### The codes of 13.4 -/

theorem twoBytes_eq (n : Nat) : twoBytes n = [BitVec.ofNat 8 (n / 256), BitVec.ofNat 8 n] := by
  unfold twoBytes halfBytes
  simp only [List.cons.injEq, and_true]
  refine ⟨BitVec.eq_of_toNat_eq ?_, BitVec.eq_of_toNat_eq ?_⟩
  all_goals
    simp only [BitVec.extractLsb'_toNat, BitVec.toNat_ofNat, Nat.shiftRight_eq_div_pow]
    omega

theorem threeBytes_eq (n : Nat) :
    threeBytes n = [BitVec.ofNat 8 (n / 65536), BitVec.ofNat 8 (n / 256), BitVec.ofNat 8 n] := by
  unfold threeBytes offsetBytes
  simp only [List.cons.injEq, and_true]
  refine ⟨BitVec.eq_of_toNat_eq ?_, BitVec.eq_of_toNat_eq ?_, BitVec.eq_of_toNat_eq ?_⟩
  all_goals
    simp only [BitVec.extractLsb'_toNat, BitVec.toNat_ofNat, Nat.shiftRight_eq_div_pow]
    omega

theorem halfBytes_eq (h : Half) : halfBytes h = [BitVec.ofNat 8 (h.toNat / 256), BitVec.ofNat 8 h.toNat] := by
  rw [← twoBytes_eq, twoBytes, BitVec.ofNat_toNat, BitVec.setWidth_eq]

theorem PageState.code_eq (x : PageState) : x.code = [PageState.free, .opened, .closed].idxOf x := by
  cases x <;> rfl

theorem PageKind.code_eq (x : Option PageKind) : codeOf PageKind.code x = [PageKind.image, .block].idxOf (x.getD .image) := by
  rcases x with _ | _ | _ <;> rfl

theorem PageMode.code_eq (x : Option PageMode) : codeOf PageMode.code x = [PageMode.keep, .stream].idxOf (x.getD .keep) := by
  rcases x with _ | _ | _ <;> rfl

theorem Writer.code_eq (x : Option Writer) : codeOf Writer.code x = [none, some Writer.scan, some .link].idxOf x := by
  rcases x with _ | _ | _ <;> rfl

theorem Resolution.code_eq (x : Option Resolution) :
    codeOf Resolution.code x = [Resolution.std, .fine, .sfine].idxOf (x.getD .std) := by
  rcases x with _ | _ | _ | _ <;> rfl

theorem Reader.code_eq (x : Option Reader) : codeOf Reader.code x = [none, some Reader.print, some .link].idxOf x := by
  rcases x with _ | _ | _ <;> rfl

theorem PowerState.code_eq (x : PowerState) :
    x.code = [PowerState.boot, .run, .standby, .enteringSleep, .sleep, .waking].idxOf x := by
  cases x <;> rfl

theorem BootOutcome.code_eq (x : BootOutcome) : x.code = [BootOutcome.ok, .noSource, .noDevice, .sum, .format].idxOf x := by
  cases x <;> rfl

theorem DramState.code_eq (x : DramState) : x.code = [DramState.init, .active, .srEntry, .selfRefresh, .srExit].idxOf x := by
  cases x <;> rfl

theorem SrCause.code_eq (x : Option SrCause) : codeOf SrCause.code x = [none, some SrCause.auto, some .sleep].idxOf x := by
  rcases x with _ | _ | _ <;> rfl

theorem ScanState.code_eq (x : ScanState) :
    x.code = [ScanState.idle, .starting, .feedIn, .offset, .capture, .stalled, .tail, .eject].idxOf x := by
  cases x <;> rfl

theorem CopyState.code_eq (x : CopyState) :
    x.code = [CopyState.idle, .starting, .lead, .printing, .paused, .trail, .cut, .suspended].idxOf x := by
  cases x <;> rfl

theorem CopyRec.reasonCode_eq {c : CopyRec} (one : c.pause = none ∨ c.suspend = none) :
    c.reasonCode = [(none, none), (some PauseReason.data, none), (some .heat, none), (none, some SuspendReason.paper),
      (none, some .cover)].idxOf (c.pause, c.suspend) := by
  unfold CopyRec.reasonCode
  rcases one with absent | absent
  · rw [absent]
    rcases c.suspend with _ | _ | _ <;> rfl
  · rw [absent]
    rcases c.pause with _ | _ | _ <;> rfl

theorem ChanState.code_eq (x : ChanState) : x.code = [ChanState.off, .settle, .hold, .accel, .run, .decel].idxOf x := by
  cases x <;> rfl

theorem Owner.code_eq (x : Owner) : x.code = [Owner.nobody, .scan, .print, .feed].idxOf x := by
  cases x <;> rfl

theorem bandCode_eq (x : Option Level) : bandCode x = [none, some Level.low, some .normal, some .high].idxOf x := by
  rcases x with _ | _ | _ | _ <;> rfl

theorem ParserState.code_eq (x : ParserState) : x.code = [ParserState.hunt, .header, .payload, .held].idxOf x := by
  cases x <;> rfl

/-- Bits collected one by one. -/
theorem foldl_bits (a : Nat → Bool) {n : Nat} (inside : n < 8) : ∀ k,
    ((List.range k).foldl (fun b i => if a i then b ||| (1#8 <<< i) else b) 0#8).getLsbD n = (decide (n < k) && a n)
  | 0 => by simp
  | k + 1 => by
    rw [List.range_succ, List.foldl_append, List.foldl_cons, List.foldl_nil]
    have before := foldl_bits a inside k
    by_cases same : n = k
    · subst same
      by_cases on : a n = true
      · rw [if_pos on, BitVec.getLsbD_or, before]
        simp [on, inside]
      · rw [if_neg on, before]
        simp [on]
    · have order : n < k + 1 ↔ n < k := by omega
      have other : (1#8 <<< k).getLsbD n = false := by
        rw [BitVec.getLsbD_shiftLeft, BitVec.getLsbD_one]
        by_cases below : n < k
        · simp [below]
        · have apart : n - k ≠ 0 := by omega
          simp [apart]
      rw [← decide_eq_decide.2 order] at before
      split
      · rw [BitVec.getLsbD_or, before, other, Bool.or_false]
      · exact before

/-- R137: bit n of the input set is input n's level. -/
theorem State.inputSet_bit {n : Nat} (inside : n < 8) :
    s.inputSet.getLsbD n = decide (n < 6 ∧ (s.mon.input n).level = some true) := by
  unfold State.inputSet
  rw [foldl_bits s.active inside 6, Bool.decide_and]
  refine congrArg (_ && ·) ?_
  unfold State.active Monitor.input
  rcases (s.mon.inputs[n]?.getD InputRec.unsettled).level with _ | _ | _ <;> rfl

/-! ### The reports, byte by byte -/

theorem Monitor.analog_toList (m : Monitor) : m.analog.toList = (List.range 8).map m.channel := by
  apply List.ext_getElem
  · simp
  · intro n low high
    simp [Monitor.channel, (by simpa using low : n < 8)]

/-- 13.4: the reports of the analog channels, in order. -/
def Monitor.report (m : Monitor) : List Byte := (List.range 8).flatMap fun n => (m.channel n).report

theorem State.statusReport_eq : s.statusReport =
    s.powerReport ++ s.unitReport ++ s.motS.report ++ s.motP.report ++ s.mon.report ++ [s.inputSet] ++ s.linkReport := by
  unfold State.statusReport Monitor.report
  rw [Monitor.analog_toList, List.flatMap_map]

theorem State.statusReport_length : s.statusReport.length = 90 := by
  rw [State.statusReport_eq]
  rfl

theorem exec_queryPage (takes : s.takesCommand = true) (tag page : Byte) :
    exec (.queryPage tag page) s = .next (s.doQueryPage tag page) := congrArg Host.Outcome.next (if_pos takes)

theorem exec_queryPool (takes : s.takesQuery = true) (tag : Byte) :
    exec (.queryPool tag) s = .next (s.doQueryPool tag) := congrArg Host.Outcome.next (if_pos takes)

theorem exec_queryStatus (takes : s.takesQuery = true) (tag : Byte) :
    exec (.queryStatus tag) s = .next (s.doQueryStatus tag) := congrArg Host.Outcome.next (if_pos takes)

/-- R158: a command whose meaning is its reply alone. -/
theorem next_answer {i : Instr} {tag kind : Byte} {code : ResultCode} {data : List Byte}
    (step : exec i s = .next (s.answer tag kind code data)) :
    ∃ t, exec i s = .next t ∧ t = { s with link := s.link.replied tag kind code data t.link.chosen } := by
  obtain ⟨c, answered⟩ := State.answer_replies (s := s) (tag := tag) (kind := kind) (code := code) (data := data)
  rw [answered] at step
  exact ⟨_, step, rfl⟩

theorem queries_answer (tag page : Byte) (s : State) :
    (s.takesCommand = true → page.toNat < 32 →
      ∃ t, exec (.queryPage tag page) s = .next t ∧
        t = { s with link := s.link.replied tag 0x04#8 .accepted (s.page page.toNat).report t.link.chosen } ∧
        (s.page page.toNat).report.length = 27) ∧
    (s.takesCommand = true → 32 ≤ page.toNat →
      ∃ t, exec (.queryPage tag page) s = .next t ∧
        t = { s with link := s.link.replied tag 0x04#8 .badParameter [] t.link.chosen }) ∧
    (s.takesQuery = true →
      ∃ t, exec (.queryPool tag) s = .next t ∧ t = { s with
        link := s.link.replied tag 0x05#8 .accepted
          (twoBytes s.store.poolSize ++ twoBytes s.store.freeList.length ++
            [if s.scan.job.state = .idle then 0#8 else 2#8, if s.store.poolWait = none then 0#8 else 1#8])
          t.link.chosen }) ∧
    (s.takesQuery = true →
      ∃ t, exec (.queryStatus tag) s = .next t ∧
        t = { s with link := s.link.replied tag 0x1E#8 .accepted s.statusReport t.link.chosen } ∧
        s.statusReport.length = 90) := by
  refine ⟨fun takes inside => ?_, fun takes beyond => ?_, fun takes => ?_, fun takes => ?_⟩
  · obtain ⟨t, step, told⟩ := next_answer ((exec_queryPage takes tag page).trans (congrArg Host.Outcome.next (if_neg (by omega))))
    exact ⟨t, step, told, rfl⟩
  · exact next_answer ((exec_queryPage takes tag page).trans (congrArg Host.Outcome.next (if_pos (by omega))))
  · have report : s.poolReport = twoBytes s.store.poolSize ++ twoBytes s.store.freeList.length ++
        [if s.scan.job.state = .idle then 0#8 else 2#8, if s.store.poolWait = none then 0#8 else 1#8] := by
      unfold State.poolReport State.reserve
      split <;> cases s.store.poolWait <;> rfl
    rw [← report]
    exact next_answer (exec_queryPool takes tag)
  · obtain ⟨t, step, told⟩ := next_answer (exec_queryStatus takes tag)
    exact ⟨t, step, told, State.statusReport_length⟩

/-- The byte of a code. -/
theorem byte_of_code {m n : Nat} (same : m = n) : [byteOf m] = [BitVec.ofNat 8 n] := by
  rw [same]
  rfl

theorem flag_bytes (b : Bool) : (if b = true then [1#8] else [0#8] : List Byte) = [flagByte b] := by
  cases b <;> rfl

theorem State.sleepTenths_eq {d : Nat} (pending : s.power.sleepPending = some d) :
    s.sleepTenths = (d - s.now + 1999999) / 2000000 := by
  have tenth : Config.tenths 1 = 2000000 := by decide
  unfold State.sleepTenths ceilDiv
  rw [pending]
  dsimp only
  rw [tenth, show d - s.now + 2000000 - 1 = d - s.now + 1999999 by omega]

theorem State.sleepTenths_none (pending : s.power.sleepPending = none) : s.sleepTenths = 0 := by
  unfold State.sleepTenths
  rw [pending]

theorem State.mpwr_eq : s.mpwr = decide (s.motS.state ≠ .off ∨ s.motP.state ≠ .off) := by
  unfold State.mpwr
  cases s.motS.state <;> cases s.motP.state <;> rfl

theorem ScanUnit.occupied_eq (u : ScanUnit) : u.occupied = [u.slotA.use, u.slotB.use].countP (· ≠ .free) := by
  unfold ScanUnit.occupied
  cases u.slotA.use <;> cases u.slotB.use <;> rfl

theorem Link.eventCount_eq (l : Link) : l.eventCount = l.events.length + if l.overflow = none then 0 else 1 := by
  unfold Link.eventCount
  cases l.overflow <;> rfl

/-- 13.4: the seven bytes of a channel. -/
theorem Channel.report_eq (c : Channel) : c.report =
    [BitVec.ofNat 8 ([ChanState.off, .settle, .hold, .accel, .run, .decel].idxOf c.state)] ++
      [BitVec.ofNat 8 ([Owner.nobody, .scan, .print, .feed].idxOf c.owner)] ++ [BitVec.ofNat 8 c.index] ++ [BitVec.ofNat 8 c.position] ++
      [BitVec.ofNat 8 (c.remaining.getD 0 / 256), BitVec.ofNat 8 (c.remaining.getD 0)] ++ [BitVec.ofNat 8 c.phase] := by
  unfold Channel.report
  rw [twoBytes_eq, ChanState.code_eq, Owner.code_eq]
  rfl

/-- 13.4: the four bytes of an analog channel. -/
theorem AnalogRec.report_eq (r : AnalogRec) : r.report =
    [BitVec.ofNat 8 r.value] ++ (if r.valid = true then [1#8] else [0#8]) ++
      [BitVec.ofNat 8 ([none, some Level.low, some .normal, some .high].idxOf r.band)] ++
      (if r.saturated = true then [1#8] else [0#8]) := by
  unfold AnalogRec.report
  rw [bandCode_eq, flag_bytes, flag_bytes]
  rfl

/-- R172: the reports of the analog channels stand behind the first 41 bytes. -/
theorem State.analogReport_at {n : Nat} (inside : n < 8) :
    ((s.powerReport ++ s.unitReport ++ s.motS.report ++ s.motP.report ++ s.mon.report ++ [s.inputSet] ++ s.linkReport).drop
      (41 + 4 * n)).take 4 = (s.mon.channel n).report := by
  have before : (s.powerReport ++ s.unitReport ++ s.motS.report ++ s.motP.report).length = 41 := rfl
  rw [List.append_assoc _ [s.inputSet], List.append_assoc _ s.mon.report, ← List.drop_drop, List.drop_left' before]
  have each : ∀ m, m = 0 ∨ m = 1 ∨ m = 2 ∨ m = 3 ∨ m = 4 ∨ m = 5 ∨ m = 6 ∨ m = 7 →
      ((s.mon.report ++ ([s.inputSet] ++ s.linkReport)).drop (4 * m)).take 4 = (s.mon.channel m).report := by
    rintro m (rfl | rfl | rfl | rfl | rfl | rfl | rfl | rfl) <;> rfl
  exact each n (by omega)

/-- R172: the Stream Link's report stands behind the first 74 bytes. -/
theorem State.linkReport_at (o : Nat) {bytes : List Byte} (here : (s.linkReport.drop o).take bytes.length = bytes) :
    ((s.powerReport ++ s.unitReport ++ s.motS.report ++ s.motP.report ++ s.mon.report ++ [s.inputSet] ++ s.linkReport).drop
      (74 + o)).take bytes.length = bytes := by
  have before : (s.powerReport ++ s.unitReport ++ s.motS.report ++ s.motP.report ++ s.mon.report ++ [s.inputSet]).length = 74 := rfl
  rw [← List.drop_drop, List.drop_left' before]
  exact here

/-- R137, R172: the input set stands at byte 73. -/
theorem State.inputSet_at :
    (s.powerReport ++ s.unitReport ++ s.motS.report ++ s.motP.report ++ s.mon.report ++ [s.inputSet] ++ s.linkReport)[73]? =
      some s.inputSet := rfl

/-- Settles O36: each field of the reports is a code, a count or a flag of its own bytes. -/
theorem queriesReport : Obligations.QueriesReport := by
  unfold Obligations.QueriesReport
  intro byte two three flag
  refine ⟨queries_answer, fun r => ?page, fun s => ?status⟩
  case page =>
    refine ⟨rfl, byte_of_code (PageState.code_eq _), byte_of_code (PageKind.code_eq _), byte_of_code (PageMode.code_eq _),
      byte_of_code (Writer.code_eq _), twoBytes_eq _, byte_of_code (Resolution.code_eq _), ?_, halfBytes_eq _, threeBytes_eq _,
      threeBytes_eq _, twoBytes_eq _, ?_, rfl, rfl, ?_, rfl, byte_of_code (Reader.code_eq _), threeBytes_eq _⟩
    all_goals
      simp only [flag, flag_bytes]
      rfl
  case status =>
    rw [State.statusReport_eq]
    intro holds j c
    refine ⟨rfl, ⟨byte_of_code (PowerState.code_eq _), ?_, fun awake => ?_, fun d asked => ?_, fun never => ?_, fun o n last => ?_,
        ?_, ?_, twoBytes_eq _, byte_of_code (DramState.code_eq _), byte_of_code (SrCause.code_eq _), rfl⟩,
      ⟨byte_of_code (ScanState.code_eq _), ?_, rfl, twoBytes_eq _, byte_of_code (ScanUnit.occupied_eq _),
        byte_of_code (CopyState.code_eq _), fun one => byte_of_code (CopyRec.reasonCode_eq one), rfl, fun empty => ?_,
        fun e es queue => ?_⟩,
      fun m => ?_, fun n inside => ?_, fun b at_ n inside => ?_,
      State.linkReport_at 0 (byte_of_code (ParserState.code_eq _)), State.linkReport_at 1 (twoBytes_eq _),
      State.linkReport_at 3 (twoBytes_eq _), State.linkReport_at 5 rfl, State.linkReport_at 6 (byte_of_code (Link.eventCount_eq _)),
      State.linkReport_at 7 rfl, ?_, fun empty => ?_, fun e es reads => ?_⟩
    · simp only [flag, flag_bytes]
      rfl
    · exact (twoBytes_eq s.sleepTenths).trans (by rw [State.sleepTenths_none awake])
    · exact (twoBytes_eq s.sleepTenths).trans (by rw [State.sleepTenths_eq asked])
    · change [byteOf (codeOf (fun b => b.1.code) s.power.lastBoot), byteOf (codeOf (fun b => b.2) s.power.lastBoot)] = [0#8, 0#8]
      rw [never]
      rfl
    · change [byteOf (codeOf (fun b => b.1.code) s.power.lastBoot), byteOf (codeOf (fun b => b.2) s.power.lastBoot)] = _
      rw [last, ← BootOutcome.code_eq]
      rfl
    · simp only [flag, flag_bytes]
      rfl
    · simp only [flag, flag_bytes, ← State.mpwr_eq]
      rfl
    · simp only [flag, flag_bytes]
      rfl
    · change [byteOf (codeOf (·.page) s.print.queue.head?), byteOf (codeOf (·.copies) s.print.queue.head?),
        byteOf (codeOf (·.done) s.print.queue.head?)] ++ twoBytes (codeOf (·.cursor) s.print.queue.head?) = _
      rw [empty]
      decide
    · change [byteOf (codeOf (·.page) s.print.queue.head?), byteOf (codeOf (·.copies) s.print.queue.head?),
        byteOf (codeOf (·.done) s.print.queue.head?)] ++ twoBytes (codeOf (·.cursor) s.print.queue.head?) = _
      rw [queue, twoBytes_eq]
      rfl
    · cases m
      · exact Channel.report_eq s.motS
      · exact Channel.report_eq s.motP
    · have here : holds (41 + 4 * n) (s.mon.channel n).report := State.analogReport_at inside
      rw [AnalogRec.report_eq] at here
      exact here
    · obtain rfl : s.inputSet = b := Option.some.inj (State.inputSet_at.symm.trans at_)
      exact State.inputSet_bit inside
    · have code : [byteOf s.writerCode] =
          if s.link.writer = none then [0#8] else if s.store.poolWait = none then [1#8] else [2#8] := by
        unfold State.writerCode
        cases s.link.writer <;> cases s.store.poolWait <;> rfl
      change holds (74 + 8) _
      rw [← code]
      exact State.linkReport_at 8 rfl
    · refine State.linkReport_at 9 ?_
      change [byteOf (codeOf (·.page) s.link.reads.head?)] ++ (threeBytes (codeOf (·.cursor) s.link.reads.head?) ++
        threeBytes (codeOf (·.placed) s.link.reads.head?)) = _
      rw [empty]
      decide
    · refine State.linkReport_at 9 ?_
      change [byteOf (codeOf (·.page) s.link.reads.head?)] ++ (threeBytes (codeOf (·.cursor) s.link.reads.head?) ++
        threeBytes (codeOf (·.placed) s.link.reads.head?)) = _
      rw [reads, threeBytes_eq, threeBytes_eq]
      rfl

end

end Sys2Proof.Machine

/-! # Every command is answered by one reply (O33) -/

namespace Sys2Proof.Machine

section

variable {s t : State}

/-- R158: what the delivery of a command comes to: one reply behind those of the queue `rs`, and where that is a refusal nothing
else. -/
def OneReply (s : State) (rs : List Reply) (tag kind : Byte) (t : State) : Prop :=
  ∃ r : Reply, t.link.replies = rs ++ [r] ∧ r.tag = tag ∧ r.kind = kind ∧ (r.code ≠ .accepted → t = s.refuse tag kind r.code)

theorem State.answer_queue (tag kind : Byte) (code : ResultCode) (data : List Byte) :
    (s.answer tag kind code data).link.replies =
      s.link.replies ++ [{ tag := tag, kind := kind, code := code, data := data }] := by
  rw [State.answer_eq]

theorem OneReply.of_answered {tag kind : Byte} (answered : Answered tag kind s t) : OneReply s s.link.replies tag kind t := by
  rcases answered with ⟨code, _, rfl⟩ | ⟨data, effect⟩
  · exact ⟨{ tag := tag, kind := kind, code := code, data := [] }, State.answer_queue tag kind code [], rfl, rfl, fun _ => rfl⟩
  · exact ⟨{ tag := tag, kind := kind, code := .accepted, data := data }, effect.replies.trans (State.answer_queue _ _ _ _), rfl,
      rfl, fun refused => absurd rfl refused⟩

/-- R166: a LOAD TABLE is answered once, whatever it loads. -/
theorem State.doLoadTable_oneReply (tag table : Byte) (start : Half) (entries : List Byte) :
    OneReply s s.link.replies tag 0x18#8 (s.doLoadTable tag table start entries) := by
  unfold State.doLoadTable
  split
  · exact OneReply.of_answered (Answered.refused (by decide))
  · exact OneReply.of_answered (Answered.refused (by decide))
  · next written clamped _ =>
    exact ⟨{ tag := tag, kind := 0x18#8, code := .accepted, data := twoBytes written ++ twoBytes clamped },
      (congrArg Link.replies (State.applyLoad_loadFrame _ _ _ _).link).trans (State.answer_queue _ _ _ _), rfl, rfl, fun refused => absurd rfl refused⟩

/-- R156, R176: a RESTART empties the reply queue before its own reply. -/
theorem State.doRestart_oneReply (tag : Byte) : OneReply s [] tag 0x1F#8 (s.doRestart tag) := by
  refine ⟨{ tag := tag, kind := 0x1F#8, code := .accepted, data := [byteOf s.link.replies.length] }, ?_, rfl, rfl,
    fun refused => absurd rfl refused⟩
  have empty : s.restartBlocks.link.replies = [] := by
    unfold State.restartBlocks
    rw [State.restartPower_link]
    rfl
  refine (State.raiseAll_effect (Effect.refl _)).replies.trans ?_
  rw [State.answer_queue, empty]

/-- R158: each of the commands is answered by one reply. -/
theorem State.deliver_oneReply {i : Instr} {kind tag : Byte} {payload : List Byte}
    (record : commandRecord i = some (kind, tag, payload)) (command : recordClass kind = .command) :
    OneReply s (if kind = 0x1F#8 then [] else s.link.replies) tag kind (s.deliver i) := by
  cases i <;> cases record
  case openPage => exact OneReply.of_answered State.doOpenPage_answered
  case closePage => exact OneReply.of_answered State.doClosePage_answered
  case releasePage => exact OneReply.of_answered State.doReleasePage_answered
  case queryPage => exact OneReply.of_answered State.doQueryPage_answered
  case queryPool => exact OneReply.of_answered State.doQueryPool_answered
  case scan => exact OneReply.of_answered State.doScan_answered
  case cancelScan => exact OneReply.of_answered State.doCancelScan_answered
  case shade => exact OneReply.of_answered State.doShade_answered
  case print => exact OneReply.of_answered State.doPrint_answered
  case cancelPrint => exact OneReply.of_answered State.doCancelPrint_answered
  case resumePrint => exact OneReply.of_answered State.doResumePrint_answered
  case readPage => exact OneReply.of_answered State.doReadPage_answered
  case cancelRead => exact OneReply.of_answered State.doCancelRead_answered
  case feed => exact OneReply.of_answered State.doFeed_answered
  case loadTable => exact State.doLoadTable_oneReply _ _ _ _
  case readTable => exact OneReply.of_answered State.doReadTable_answered
  case standby => exact OneReply.of_answered State.doStandby_answered
  case sleep => exact OneReply.of_answered State.doSleep_answered
  case queryStatus => exact OneReply.of_answered State.doQueryStatus_answered
  case restart => exact State.doRestart_oneReply _
  case queryMemory => exact OneReply.of_answered State.doQueryMemory_answered
  case line => exact absurd command (by decide)
  case block => exact absurd command (by decide)

/-- R141, R192: a command handed on is delivered, and what may change a job's standing ends with the test of the timers. -/
theorem exec_command {i : Instr} {kind tag : Byte} {payload : List Byte} (record : commandRecord i = some (kind, tag, payload))
    (command : recordClass kind = .command) (takes : s.takes i = true) :
    exec i s = .next (s.deliver i) ∨ exec i s = .next (s.deliver i).settled := by
  cases i <;> cases record
  case openPage | releasePage | queryPage | queryPool | loadTable | readTable | standby | sleep | queryStatus | queryMemory =>
    exact .inl (congrArg Host.Outcome.next (if_pos takes))
  case line | block => exact absurd command (by decide)
  all_goals exact .inr (congrArg Host.Outcome.next (if_pos takes))

/-- A refusal on the whole state. -/
theorem State.refuse_replied (tag kind : Byte) (code : ResultCode) :
    s.refuse tag kind code = { s with link := s.link.replied tag kind code [] (s.refuse tag kind code).link.chosen } :=
  State.answer_eq

/-- Settles O33: by the command's delivery, which the settling of the timers leaves as it is but for the standby timer. -/
theorem oneReplyPerCommand : Obligations.OneReplyPerCommand := by
  intro i kind tag payload s record command takes
  obtain ⟨r, replies, same_tag, same_kind, refused⟩ := State.deliver_oneReply (s := s) record command
  have frame (no : r.code ≠ .accepted) : s.deliver i = { s with
      link := s.link.replied tag kind r.code [] (s.deliver i).link.chosen } := by
    rw [refused no]
    exact State.refuse_replied tag kind r.code
  rcases exec_command record command takes with step | step
  · refine ⟨_, r, step, replies, same_tag, same_kind, frame, fun no _ => (frame no).trans ?_⟩
    have power : (s.deliver i).power = s.power := by rw [frame no]
    rw [power]
  · refine ⟨_, r, step, ?_, same_tag, same_kind, frame, fun no awake => ?_⟩
    · rw [(State.settled_effect (Effect.refl _)).replies, replies]
    · rw [refused no]
      rw [State.refuse_replied tag kind r.code]
      generalize (s.refuse tag kind r.code).link.chosen = c
      rw [State.settled_eq (s := { s with link := s.link.replied tag kind r.code [] c }) awake]

end

end Sys2Proof.Machine

/-! # CLOSE PAGE and RELEASE PAGE (O35) -/

namespace Sys2Proof.Machine

section

variable {s t : State}

/-! ### Releases (R12, R20 to R22) -/

/-- R22: the page is FREE and its bands are at the tail of the free list; the write its writer may have in transfer is no longer
wanted, which `c` stands for. -/
abbrev State.released (s : State) (p : Nat) (c : Option Activity) : State :=
  { s with
    store := ({ s.store with freeList := s.store.freeList ++ (s.page p).chain } : PageStore).withPage p PageRec.freed
    dram := { s.dram with current := c } }

/-- What is left in progress when a page's writes are no longer wanted. -/
abbrev Dram.withoutWrites (d : Dram) (p : Nat) : Option Activity :=
  (d.disown fun r => r.page == p && (r.cls == .scanWrite || r.cls == .linkWrite)).current

/-- R12, R22: a release, before those that wait for bands are looked at. -/
theorem State.releasePage_eq (p : Nat) :
    s.releasePage p =
      ((s.released p (s.dram.withoutWrites p)).raise (.pageReleased p (s.page p).label)).lookWaiting := by
  unfold State.releasePage State.disownWrites State.disown
  dsimp only
  rw [State.withPage_dram]
  rw [Dram.disown_eq]
  rfl

/-- R22: a release with nothing waiting for bands. -/
theorem State.releasePage_quiet {p : Nat} (scan : s.store.scanWaits = false) (low : s.store.memoryLow = false)
    (wait : s.store.poolWait = none) (room : s.link.room 1) :
    ∃ c, (s.released p c).Reports [.pageReleased p (s.page p).label] (s.releasePage p) := by
  refine ⟨s.dram.withoutWrites p, ?_⟩
  rw [State.releasePage_eq]
  have raised := State.Reports.one (s := s.released p (s.dram.withoutWrites p)) (e := .pageReleased p (s.page p).label) room
  rwa [State.lookWaiting_idle (by rw [State.raise_store]; exact scan) (by rw [State.raise_store]; exact low)
    (by rw [State.raise_store]; exact wait)]

/-- R20, R21: the page is released. -/
theorem State.autoRelease_released {p : Nat} (released : (s.page p).mayRelease = true) : s.autoRelease p = s.releasePage p :=
  if_pos released

/-! ### The scan job that waits for a band (R12, R59) -/

theorem State.lowCheck_low (low : s.store.memoryLow = true) : s.lowCheck = s :=
  if_neg fun h => absurd (low.symm.trans h.2) (by decide)

/-- R59: the scan line write of a held slot, in a band already granted or begun, is requested. -/
theorem State.scanAdvance_banded {q : Nat} {w : ScanWrite} {b : Band} {a : Activity} {width : Option Nat} (n : Nat)
    (page : s.scan.job.page = some q)
    (writes : s.scan.writes = [w]) (fresh : w.requested = false) (begun : w.index % 32 = 0 → w.banded = true)
    (held : (s.scan.slot w.slot).use = .held)
    (granted : s.store.scanWaits = false) (band : (s.page q).bandOfLine w.index = some b)
    (wide : (s.page q).width = width) (active : s.dram.state = .active)
    (busy : s.dram.current = some a) :
    s.scanAdvance (n + 1) = { s with
      scan := { s.scan with writes := [{ w with requested := true }] }
      dram := { s.dram with
        waiting := s.dram.waiting ++
          [{ lineRequest .scanWrite q w.index (width.getD 0) b (s.scan.slot w.slot).dots (some w.slot) with
              afterOrder := s.dram.sleepOrder }]
        autoTimer := none } } := by
  have next : s.scan.nextWrite = some w := by
    unfold ScanUnit.nextWrite
    rw [writes]
    simp [fresh]
  have may : s.scan.mayRequest w = true := by
    unfold ScanUnit.mayRequest
    rw [writes]
    simp [fresh, held]
  have requested : s.requestScanWrite w = { s with
      scan := { s.scan with writes := [{ w with requested := true }] }
      dram := { s.dram with
        waiting := s.dram.waiting ++
          [{ lineRequest .scanWrite q w.index (width.getD 0) b (s.scan.slot w.slot).dots (some w.slot) with
              afterOrder := s.dram.sleepOrder }]
        autoTimer := none } } := by
    unfold State.requestScanWrite
    dsimp only
    rw [page, Option.getD_some, band, wide]
    unfold State.submit
    dsimp only
    rw [State.withScan_dram, Dram.submit_busy _ _ _ active busy]
    unfold ScanUnit.setWrite
    rw [writes]
    simp
    rfl
  unfold State.scanAdvance
  rw [next]
  dsimp only
  rw [if_neg (by simp [may, granted]), if_neg (fun h => absurd (begun h.1) (by simp [h.2])), requested]
  cases n with
  | zero => rfl
  | succ n =>
    unfold State.scanAdvance ScanUnit.nextWrite
    rfl

/-- R9, R12, R59: the scan job that waits for a band is granted the head of the free list, and its line is requested. -/
theorem State.grantScanWaiting_held {q : Nat} {w : ScanWrite} {b : Band} {rest : List Band} {a : Activity} {r : PageRec}
    (waits : s.store.scanWaits = true) (bands : s.store.freeList = b :: rest) (low : s.store.memoryLow = true)
    (page : s.scan.job.page = some q) (inside : q < 32) (record : s.page q = r) (opened : r.state = .opened)
    (writes : s.scan.writes = [w])
    (fresh : w.requested = false) (held : (s.scan.slot w.slot).use = .held) (base : r.base ≤ w.index)
    (chain : r.chain.length = w.index / 32 - r.base / 32) (active : s.dram.state = .active)
    (busy : s.dram.current = some a) :
    s.grantScanWaiting = { s with
      store := ({ s.store with freeList := rest, scanWaits := false } : PageStore).withPage q
        { r with chain := r.chain ++ [b], filling := true }
      scan := { s.scan with writes := [{ w with banded := true, requested := true }] }
      dram := { s.dram with
        waiting := s.dram.waiting ++
          [{ lineRequest .scanWrite q w.index (r.width.getD 0) b (s.scan.slot w.slot).dots (some w.slot) with
              afterOrder := s.dram.sleepOrder }]
        autoTimer := none } } := by
  subst record
  have next : s.scan.nextWrite = some w := by
    unfold ScanUnit.nextWrite
    rw [writes]
    simp [fresh]
  have set_ : s.scan.setWrite { w with banded := true } = { s.scan with writes := [{ w with banded := true }] } := by
    unfold ScanUnit.setWrite
    rw [writes]
    simp
  unfold State.grantScanWaiting
  rw [waits, bands, next]
  dsimp only
  rw [page, Option.getD_some,
    State.grantBand_eq (s := s.withStore { s.store with scanWaits := false }) (free := rest) bands (by exact opened), set_,
    State.lowCheck_low (by exact low)]
  have record := State.page_withPage (s := s.withStore { s.store with freeList := rest, scanWaits := false })
    { s.page q with chain := (s.page q).chain ++ [b], filling := true } inside
  exact State.scanAdvance_banded (w := { w with banded := true }) 2 page rfl fresh (fun _ => rfl) held rfl
    ((congrArg (fun r : PageRec => r.bandOfLine w.index) record).trans (PageRec.bandOfLine_granted base chain))
    ((congrArg PageRec.width record).trans rfl) active busy

/-! ### The two commands -/

theorem exec_closePage (takes : s.takesCommand = true) (tag page : Byte) :
    exec (.closePage tag page) s = .next (s.doClosePage tag page).settled := congrArg Host.Outcome.next (if_pos takes)

theorem exec_releasePage (takes : s.takesCommand = true) (tag page : Byte) :
    exec (.releasePage tag page) s = .next (s.doReleasePage tag page) := congrArg Host.Outcome.next (if_pos takes)

/-- R164: a CLOSE PAGE that is accepted. -/
theorem State.doClosePage_opened {tag page : Byte} (inside : page.toNat < 32) (opened : (s.page page.toNat).state = .opened)
    (writer : (s.page page.toNat).writer = some .link) :
    s.doClosePage tag page = (s.accept tag 0x02#8).closePage page.toNat false := by
  unfold State.doClosePage
  dsimp only
  rw [if_neg (by omega), if_neg (by simp [opened]), if_neg (by simp [opened, writer])]

/-- R19, R175: a RELEASE PAGE that is accepted. -/
theorem State.doReleasePage_closed {tag page : Byte} (inside : page.toNat < 32) (closed : (s.page page.toNat).state = .closed)
    (unprinted : (s.page page.toNat).printHold = 0) (unread : (s.page page.toNat).linkHold = 0) :
    s.doReleasePage tag page = (s.accept tag 0x03#8).releasePage page.toNat := by
  unfold State.doReleasePage
  dsimp only
  rw [if_neg (by omega), if_neg (by simp [closed]), if_neg (by omega), if_neg (by simp [closed])]

/-- R7, R20, R21: a close that releases the page at once. -/
theorem State.closePage_released {p : Nat} {truncated : Bool} (inside : p < 32) (unprinted : (s.page p).printHold = 0)
    (unread : (s.page p).linkHold = 0)
    (free : ((s.page p).mode = some .keep ∧ (s.page p).retain = some false) ∨
      ((s.page p).mode = some .stream ∧ (s.page p).committed ≤ (s.page p).mark))
    (unattended : s.unattended) (room : s.link.room 2) :
    ∃ c, State.Reports { s with
        store := ({ s.store with
          freeList := s.store.freeList ++ ((s.page p).returned ++ ((s.page p).close truncated).chain) } : PageStore).withPage p
          PageRec.freed
        dram := { s.dram with current := c } }
      [.pageClosed p (s.page p).committed truncated (s.page p).label, .pageReleased p (s.page p).label] (s.closePage p truncated) := by
  obtain ⟨c, shut⟩ := State.shutPage_eq (s := s) p truncated
  rw [State.closePage_unattended p truncated unattended]
  have closed := State.Reports.one (s := s.shutPage p truncated) (e := .pageClosed p (s.page p).committed truncated (s.page p).label)
    (by rw [shut]; exact room.mono (by decide))
  generalize s.shutPage p truncated = y at shut closed ⊢
  generalize y.raise _ = z at closed ⊢
  obtain ⟨l, told⟩ := closed
  rw [shut] at told
  have page : z.page p = (s.page p).close truncated := by
    rw [told]
    exact State.page_withPage _ inside
  have may : (z.page p).mayRelease = true := by
    rw [page]
    rcases free with ⟨keep, unretained⟩ | ⟨stream, passed⟩
    · simp [PageRec.mayRelease, PageRec.close, unprinted, unread, keep, unretained]
    · simp [PageRec.mayRelease, PageRec.close, unprinted, unread, stream, passed]
  obtain ⟨waits, low, wait, _⟩ := unattended
  obtain ⟨c', l', released⟩ := State.releasePage_quiet (s := z) (p := p) (by rw [told]; exact waits) (by rw [told]; exact low)
    (by rw [told]; exact wait) (by rw [told]; exact ⟨room.1, by have := room.2; simp; omega⟩)
  refine ⟨c', l', ?_⟩
  rw [State.autoRelease_released may, released]
  have store : (z.released p c').store = ({ s.store with
      freeList := s.store.freeList ++ ((s.page p).returned ++ ((s.page p).close truncated).chain) } : PageStore).withPage p
        PageRec.freed := by
    rw [State.released, page, told, ← List.append_assoc]
    exact PageStore.withPage_withPage
      { s.store with freeList := s.store.freeList ++ (s.page p).returned ++ ((s.page p).close truncated).chain } p _ _
  have link : z.link.reported [.pageReleased p (z.page p).label] l' = s.link.reported
      [.pageClosed p (s.page p).committed truncated (s.page p).label, .pageReleased p (s.page p).label] l' := by
    rw [page, told]
    unfold Link.reported
    rw [List.append_assoc]
    rfl
  rw [store, link, told]

/-- R12, R22: a release while a scan job waits for a band, with too few bands for the memory-available test. -/
theorem State.releasePage_scanWaits {p q : Nat} {w : ScanWrite} {b : Band} {rest : List Band} (chain : (s.page p).chain = b :: rest)
    (few : rest.length < 4) (empty : s.store.freeList = []) (waits : s.store.scanWaits = true) (low : s.store.memoryLow = true)
    (wait : s.store.poolWait = none) (room : s.link.room 1) (page : s.scan.job.page = some q) (inside : q < 32) (other : q ≠ p)
    (opened : (s.page q).state = .opened) (writes : s.scan.writes = [w]) (fresh : w.requested = false)
    (held : (s.scan.slot w.slot).use = .held) (base : (s.page q).base ≤ w.index)
    (next : (s.page q).chain.length = w.index / 32 - (s.page q).base / 32) (active : s.dram.state = .active)
    (busy : ∃ x, s.dram.current = some (.refresh x)) :
    State.Reports { s with
      store := (({ s.store with freeList := rest, scanWaits := false } : PageStore).withPage p PageRec.freed).withPage q
        { s.page q with chain := (s.page q).chain ++ [b], filling := true }
      scan := { s.scan with writes := [{ w with banded := true, requested := true }] }
      dram := { s.dram with
        waiting := s.dram.waiting ++
          [{ lineRequest .scanWrite q w.index ((s.page q).width.getD 0) b (s.scan.slot w.slot).dots (some w.slot) with
              afterOrder := s.dram.sleepOrder }]
        autoTimer := none } } [.pageReleased p (s.page p).label] (s.releasePage p) := by
  obtain ⟨x, busy⟩ := busy
  have current : s.dram.withoutWrites p = s.dram.current := by
    unfold Dram.withoutWrites Dram.disown
    rw [busy]
    exact busy
  have raised := State.Reports.one (s := s.released p s.dram.current) (e := .pageReleased p (s.page p).label) room
  rw [State.releasePage_eq, current]
  generalize State.raise _ _ = z at raised ⊢
  obtain ⟨l, rfl⟩ := raised
  have record : (s.released p s.dram.current).page q = s.page q :=
    State.page_withPage_ne (s := s.withStore { s.store with freeList := s.store.freeList ++ (s.page p).chain }) _ other.symm
  have granted := State.grantScanWaiting_held (s := { s.released p s.dram.current with
      link := (s.released p s.dram.current).link.reported [.pageReleased p (s.page p).label] l }) (b := b) (rest := rest) waits
    (by rw [← chain]; exact congrArg (· ++ (s.page p).chain) empty) low page inside record opened writes fresh held base next active busy
  refine ⟨l, ?_⟩
  unfold State.lookWaiting
  rw [granted]
  have looked : ∀ y : State, y.store.poolWait = none → y.lookLink = y := fun y none_ => by
    unfold State.lookLink
    rw [none_]
  rw [looked _ (by exact wait)]
  refine (if_neg (by
    change ¬(_ ∧ 4 ≤ rest.length)
    omega)).trans rfl

/-- Settles O35. -/
theorem closeAndReleasePage : Obligations.CloseAndReleasePage := by
  intro tag page s takes inside awake p r
  obtain ⟨c, closing⟩ := State.answer_replies (s := s) (tag := tag) (kind := 0x02#8) (code := .accepted) (data := [])
  obtain ⟨c', releasing⟩ := State.answer_replies (s := s) (tag := tag) (kind := 0x03#8) (code := .accepted) (data := [])
  refine ⟨fun unattended room opened writer keep retained => ?closed, fun unattended room closed unprinted unread => ?released,
    fun closed used => ?held, fun unattended room opened writer unprinted unread free => ?closedAndReleased,
    fun q w b rest closed unprinted unread chain few empty waits low wait room job bound other opened writes fresh unbanded held base
      next active busy => ?scanWaits⟩
  case closed =>
    have step := exec_closePage takes tag page
    rw [State.doClosePage_opened inside opened writer, State.accept, closing] at step
    obtain ⟨d, shut⟩ := State.shutPage_eq (s := { s with link := s.link.replied tag 0x02#8 .accepted [] c }) p false
    have reports := State.closePage_retained (truncated := false)
      (s := { s with link := s.link.replied tag 0x02#8 .accepted [] c }) inside keep retained unattended room
    rw [shut] at reports
    obtain ⟨l, reported⟩ := reports
    rw [reported] at step
    exact ⟨_, next_settled step awake, rfl⟩
  case released =>
    have step := exec_releasePage takes tag page
    rw [State.doReleasePage_closed inside closed unprinted unread, State.accept, releasing] at step
    obtain ⟨waits, low, wait, _⟩ := unattended
    obtain ⟨d, l, reported⟩ := State.releasePage_quiet (p := p)
      (s := { s with link := s.link.replied tag 0x03#8 .accepted [] c' }) waits low wait room
    rw [reported] at step
    exact ⟨_, step, rfl⟩
  case held =>
    have refused : s.doReleasePage tag page = s.refuse tag 0x03#8 .pageHeld := by
      unfold State.doReleasePage
      dsimp only
      rw [if_neg (by omega), if_neg (by simp [r, p] at closed; simp [closed]), if_pos used]
    exact next_answer ((exec_releasePage takes tag page).trans (congrArg Host.Outcome.next refused))
  case closedAndReleased =>
    have step := exec_closePage takes tag page
    rw [State.doClosePage_opened inside opened writer, State.accept, closing] at step
    obtain ⟨d, l, reported⟩ := State.closePage_released (truncated := false) (p := p)
      (s := { s with link := s.link.replied tag 0x02#8 .accepted [] c }) inside unprinted unread free unattended room
    rw [reported] at step
    have bands : r.returned ++ (r.close false).chain =
        if r.filling = true then r.chain.getLast?.toList ++ r.chain.dropLast else r.chain := by
      unfold PageRec.returned PageRec.close
      split <;> rfl
    refine ⟨_, next_settled step awake, ?_⟩
    rw [← bands]
    rfl
  case scanWaits =>
    have step := exec_releasePage takes tag page
    rw [State.doReleasePage_closed inside closed unprinted unread, State.accept, releasing] at step
    obtain ⟨l, reported⟩ := State.releasePage_scanWaits (p := p)
      (s := { s with link := s.link.replied tag 0x03#8 .accepted [] c' }) chain few empty waits low wait room job bound other opened
      writes fresh held base next active busy
    rw [reported] at step
    exact ⟨_, step, rfl⟩

end

end Sys2Proof.Machine

/-! # The upstream assembler's records (O29) -/

namespace Sys2Proof.Machine

section

variable {s t u x : State}

/-! ### Placing a record (R152, R153) -/

theorem exec_upstreamRecordPlaced {c : UpClass} (chosen : s.link.chosen = some c) (works : s.power.upstreamWorks = true)
    (fits : s.link.up.length + (s.link.chosenRecord c).length ≤ 2048) :
    exec .upstreamRecordPlaced s = .next (s.place c).settled := by
  change execUpstreamRecordPlaced s = _
  unfold execUpstreamRecordPlaced
  rw [chosen]
  exact congrArg Host.Outcome.next (if_pos ⟨works, decide_eq_true fits⟩)

theorem State.choose_free (works : s.power.upstreamWorks = true) (free : s.link.chosen = none) :
    s.choose = s.withLink { s.link with chosen := s.link.pick } :=
  congrArg s.withLink (if_pos ⟨works, free⟩)

theorem Reply.record_eq (r : Reply) : r.record =
    [0x5A#8, 0x80#8, r.tag] ++ twoBytes (r.data.length + 2) ++ [r.kind, byteOf r.code.code] ++ r.data := by
  have length : r.payload.length = r.data.length + 2 := by simp [Reply.payload]
  unfold Reply.record headerBytes
  rw [length]
  simp [Reply.payload, twoBytes, syncByte]

theorem Event.record_eq (payload : List Byte) :
    eventRecord payload = [0x5A#8, 0x81#8, 0x00#8] ++ twoBytes payload.length ++ payload := by
  simp [eventRecord, headerBytes, twoBytes, syncByte]

theorem twoBytes_length (n : Nat) : (twoBytes n).length = 2 := rfl

/-! ### Reports through a change of pages and memory -/

theorem State.Reports.choose {es : List Event} (reports : x.Reports es u) : x.Reports es u.choose := by
  obtain ⟨c, rfl⟩ := reports
  exact ⟨_, State.choose_eq⟩

theorem State.Reports.reads {es : List Event} (reports : x.Reports es u) : u.link.reads = x.link.reads := by
  obtain ⟨c, rfl⟩ := reports
  rfl

/-- Events reported before and after a release of a page. -/
theorem State.Reports.released {p : Nat} {c : Option Activity} {es fs : List Event} (before : x.Reports es u)
    (after : (u.released p c).Reports fs t) : (x.released p c).Reports (es ++ fs) t := by
  obtain ⟨l, rfl⟩ := before
  obtain ⟨l', rfl⟩ := after
  refine ⟨l', ?_⟩
  unfold Link.reported
  rw [← List.append_assoc]
  rfl

/-! ### The last record of a read (R150) -/

/-- R150: the link with a read's last record placed and no read left. -/
abbrev Link.lastPlaced (l : Link) : Link :=
  { l with up := l.up ++ l.readBuf.record, reads := [], readBuf := ReadBuf.none, chosen := none }

/-- R15, R18: a page that a link read leaves. -/
def PageRec.leftByRead (r : PageRec) : PageRec :=
  { r with linkHold := r.linkHold - 1, consumer := if r.mode = some .stream then none else r.consumer }

theorem PageRec.leftByRead_keep {r : PageRec} (keep : r.mode = some .keep) :
    r.leftByRead = { r with linkHold := r.linkHold - 1 } := by
  unfold PageRec.leftByRead
  rw [if_neg (by rw [keep]; decide)]

/-- R150: a read completes as its last record is placed, with `y` what the report of its position (R17) makes of the state. -/
theorem State.place_last {e : ReadEntry} {y : State} (reads : s.link.reads = [e]) (some_ : e.count ≠ 0)
    (whole : e.count = e.placed + (s.link.readBuf.stop - s.link.readBuf.first))
    (consumed : (if (s.page e.page).mode = some .stream then
        (s.withLink { s.link.lastPlaced with reads := [{ e with placed := e.count }] }).raiseMark e.page s.link.readBuf.stop
      else s.withLink { s.link.lastPlaced with reads := [{ e with placed := e.count }] }) = y)
    (unread : y.link.reads = [{ e with placed := e.count }]) :
    s.place .data = (((((y.withReads []).dropHold e.page .link).raise (.readDone e.page e.count false)).autoRelease e.page).readOn).choose := by
  have short : ({ e with placed := e.count } : ReadEntry).short = false := by simp [ReadEntry.short]
  have size : e.placed + s.link.readBuf.size = e.count := whole.symm
  have begun : s.place .data = ((if e.count ≠ 0 ∧ e.count ≤ e.count then y.completeRead else y).readOn).choose := by
    rw [← consumed]
    unfold State.place State.readPlaced
    dsimp only [State.withLink_link]
    rw [reads]
    dsimp only
    rw [size]
    rfl
  rw [begun, if_pos ⟨some_, le_refl _⟩]
  unfold State.completeRead
  rw [unread]
  dsimp only
  rw [short]

/-- The state with its last read gone. -/
abbrev State.readLeft (s : State) (p : Nat) : State :=
  { s with store := s.store.withPage p (s.page p).leftByRead, link := s.link.lastPlaced }

theorem State.readLeft_page {p : Nat} (inside : p < 32) : (s.readLeft p).page p = (s.page p).leftByRead :=
  State.page_withPage (s := s) _ inside

/-- R150: where a KEEP page is read, its position bears on nothing. -/
theorem State.place_lastKeep {e : ReadEntry} (reads : s.link.reads = [e]) (some_ : e.count ≠ 0)
    (whole : e.count = e.placed + (s.link.readBuf.stop - s.link.readBuf.first)) (keep : (s.page e.page).mode = some .keep) :
    s.place .data = ((((s.readLeft e.page).raise (.readDone e.page e.count false)).autoRelease e.page).readOn).choose := by
  have left : ((s.withLink { s.link.lastPlaced with reads := [{ e with placed := e.count }] }).withReads []).dropHold e.page .link =
      s.readLeft e.page := rfl
  rw [← left]
  exact State.place_last reads some_ whole (if_neg (by simp [keep])) rfl

/-- The rest of the step, once the page is released or not: no read is left to go on with. -/
theorem State.Reports.readsOver {es : List Event} (reports : x.Reports es u) (unread : x.link.reads = []) :
    x.Reports es u.readOn.choose := by
  rw [State.readOn_unread (reports.reads.trans unread)]
  exact reports.choose

/-- R150, R20: a read of a retained KEEP page completes. -/
theorem State.place_lastRetained {e : ReadEntry} (reads : s.link.reads = [e]) (some_ : e.count ≠ 0)
    (whole : e.count = e.placed + (s.link.readBuf.stop - s.link.readBuf.first)) (inside : e.page < 32)
    (keep : (s.page e.page).mode = some .keep) (retained : (s.page e.page).retain = some true) (room : s.link.room 1) :
    (s.readLeft e.page).Reports [.readDone e.page e.count false] (s.place .data) := by
  have raised := State.Reports.one (e := .readDone e.page e.count false) (s := s.readLeft e.page) room
  have page : ((s.readLeft e.page).raise (.readDone e.page e.count false)).page e.page = (s.page e.page).leftByRead := by
    obtain ⟨c, told⟩ := raised
    rw [told]
    exact State.readLeft_page inside
  rw [State.place_lastKeep reads some_ whole keep, State.autoRelease_retained (by rw [page]; exact keep)
    (by rw [page]; exact retained)]
  exact raised.readsOver rfl

/-- R150, R21: a read whose page is released with it, with `z` the state in which it is left. -/
theorem State.Reports.releasedRead {z : State} {p : Nat} {r : PageRec} {es : List Event} (before : z.Reports es u)
    (page : z.page p = r) (may : r.mayRelease = true) (unread : z.link.reads = []) (scan : z.store.scanWaits = false)
    (low : z.store.memoryLow = false) (wait : z.store.poolWait = Option.none) (room : z.link.room (es.length + 1)) :
    ∃ c, (z.released p c).Reports (es ++ [.pageReleased p r.label]) (u.autoRelease p).readOn.choose := by
  subst page
  obtain ⟨l, rfl⟩ := before
  obtain ⟨c, released⟩ := State.releasePage_quiet (s := { z with link := z.link.reported es l }) (p := p) scan low wait
    ⟨room.1, by have := room.2; rw [List.length_append]; omega⟩
  rw [State.autoRelease_released (by exact may)]
  have whole : (z.released p c).Reports (es ++ [.pageReleased p (z.page p).label]) _ := State.Reports.released ⟨l, rfl⟩ released
  exact ⟨c, whole.readsOver unread⟩

/-- R150, R20: a read of a CLOSED KEEP page that is not retained completes and releases the page. -/
theorem State.place_lastReleased {e : ReadEntry} (reads : s.link.reads = [e]) (some_ : e.count ≠ 0)
    (whole : e.count = e.placed + (s.link.readBuf.stop - s.link.readBuf.first)) (inside : e.page < 32)
    (closed : (s.page e.page).state = .closed) (unprinted : (s.page e.page).printHold = 0) (one : (s.page e.page).linkHold = 1)
    (keep : (s.page e.page).mode = some .keep) (unretained : (s.page e.page).retain = some false)
    (scan : s.store.scanWaits = false) (low : s.store.memoryLow = false) (wait : s.store.poolWait = none) (room : s.link.room 2) :
    ∃ c, ((s.readLeft e.page).released e.page c).Reports
      [.readDone e.page e.count false, .pageReleased e.page (s.page e.page).label] (s.place .data) := by
  rw [State.place_lastKeep reads some_ whole keep]
  have raised := State.Reports.one (e := .readDone e.page e.count false) (s := s.readLeft e.page) (room.mono (by decide))
  refine raised.releasedRead (r := (s.page e.page).leftByRead) (State.readLeft_page (s := s) inside) ?_ rfl scan low wait room
  simp [PageRec.mayRelease, PageRec.leftByRead, closed, unprinted, one, keep, unretained]

/-! ### STREAM pages (R16, R17, R21) -/

/-- R17: nothing is consumed where the head band is not yet whole or not yet passed. -/
theorem State.consume_stop {p : Nat} (short : (s.page p).committed < (s.page p).base + (s.page p).bandUnit ∨
    (s.page p).mark < (s.page p).base + (s.page p).bandUnit) : ∀ n, s.consume p n = s
  | 0 => rfl
  | n + 1 => by
    unfold State.consume
    dsimp only
    split
    · rfl
    · exact if_neg fun h => by
        obtain ⟨_, _, passed, whole⟩ := h
        omega

/-- R17: the head band of an IMAGE page, whole and passed, is consumed, and the one behind it is not. -/
theorem State.consume_one {p : Nat} {r : PageRec} {b : Band} {rest : List Band} (inside : p < 32) (record : s.page p = r)
    (stream : r.mode = some .stream) (image : r.kind = some .image) (consumer : r.consumer ≠ none) (chain : r.chain = b :: rest)
    (passed : r.base + 32 ≤ r.mark) (whole : r.base + 32 ≤ r.committed) (short : r.mark < r.base + 64)
    (scan : s.store.scanWaits = false) (low : s.store.memoryLow = false) (wait : s.store.poolWait = none) :
    s.consumeAll p = (s.withPage p { r with chain := rest, base := r.base + 32 }).addBands [b] := by
  subst record
  have unit : (s.page p).bandUnit = 32 := if_neg (by simp [image])
  unfold State.consumeAll
  rw [chain, List.length_cons]
  unfold State.consume
  dsimp only
  rw [chain]
  dsimp only
  rw [unit, if_pos ⟨stream, consumer, passed, whole⟩, State.lookWaiting_idle (by exact scan) (by exact low) (by exact wait)]
  have page : ((s.withPage p { s.page p with chain := rest, base := (s.page p).base + 32 }).addBands [b]).page p =
      { s.page p with chain := rest, base := (s.page p).base + 32 } := State.page_withPage _ inside
  refine State.consume_stop (.inr ?_) _
  rw [page]
  exact short.trans_eq (congrArg ((s.page p).base + 32 + ·) unit).symm

theorem State.page_put {y : PageStore} {p : Nat} {r : PageRec} (inside : p < 32) (store : s.store = y.withPage p r) :
    s.page p = r := by
  unfold State.page
  rw [store]
  exact State.page_withPage (s := { s with store := y }) r inside

/-- R22: a release of a page whose record has just been put. -/
theorem State.released_put {y : PageStore} {p : Nat} {r : PageRec} {c : Option Activity} (inside : p < 32)
    (store : s.store = y.withPage p r) : s.released p c = { s with
      store := ({ y with freeList := y.freeList ++ r.chain } : PageStore).withPage p PageRec.freed
      dram := { s.dram with current := c } } := by
  rw [State.released, State.page_put inside store, store]
  exact congrArg (fun x : PageStore => { s with store := x, dram := { s.dram with current := c } })
    (PageStore.withPage_withPage { y with freeList := y.freeList ++ r.chain } p _ _)

/-- R16, R17: the mark of a page whose last record has been placed. -/
theorem State.raiseMark_held {p pos : Nat} {y : PageRec} (inside : p < 32) (record : s.page p = y)
    (short : y.committed < y.base + y.bandUnit) (held : y.linkHold = 1) :
    s.raiseMark p pos = s.withPage p { y with mark := max y.mark pos } := by
  subst record
  have page := State.page_withPage (s := s) { s.page p with mark := max (s.page p).mark pos } inside
  unfold State.raiseMark State.consumeAll
  dsimp only
  rw [State.consume_stop (.inl (by rw [page]; exact short))]
  refine if_neg ?_
  rw [page]
  simp [PageRec.mayRelease, held]

/-- R15: a link read leaves a page whose record has just been put. -/
theorem State.dropHold_put {y : PageStore} {p : Nat} {r : PageRec} (inside : p < 32) (store : s.store = y.withPage p r) :
    s.dropHold p .link = s.withStore (y.withPage p r.leftByRead) := by
  have left : s.dropHold p .link = s.withStore (s.store.withPage p (s.page p).leftByRead) := rfl
  rw [left, State.page_put inside store, store, PageStore.withPage_withPage]

/-- The state with its last read gone from a page whose record is then `r`, the rest of the pool being `y`. -/
abbrev State.readGone (s : State) (y : PageStore) (p : Nat) (r : PageRec) : State :=
  { s with store := y.withPage p r.leftByRead, link := s.link.lastPlaced }

/-- R150: where a STREAM page is read, `r` is its record after the report of the position. -/
theorem State.place_lastMarked {e : ReadEntry} {y : PageStore} {r : PageRec} (reads : s.link.reads = [e]) (some_ : e.count ≠ 0)
    (whole : e.count = e.placed + (s.link.readBuf.stop - s.link.readBuf.first)) (inside : e.page < 32)
    (stream : (s.page e.page).mode = some .stream)
    (marked : (s.withLink { s.link.lastPlaced with reads := [{ e with placed := e.count }] }).raiseMark e.page s.link.readBuf.stop =
      (s.withLink { s.link.lastPlaced with reads := [{ e with placed := e.count }] }).withStore (y.withPage e.page r)) :
    s.place .data = ((((s.readGone y e.page r).raise (.readDone e.page e.count false)).autoRelease e.page).readOn).choose := by
  rw [State.place_last reads some_ whole ((if_pos stream).trans marked) rfl,
    State.dropHold_put (y := y) (r := r) inside rfl]
  rfl

/-- R150, R21: a read of a CLOSED STREAM page all read completes and releases the page. -/
theorem State.place_lastStream {e : ReadEntry} (reads : s.link.reads = [e]) (some_ : e.count ≠ 0)
    (whole : e.count = e.placed + (s.link.readBuf.stop - s.link.readBuf.first)) (inside : e.page < 32)
    (closed : (s.page e.page).state = .closed) (unprinted : (s.page e.page).printHold = 0) (one : (s.page e.page).linkHold = 1)
    (stream : (s.page e.page).mode = some .stream) (image : (s.page e.page).kind = some .image)
    (all : (s.page e.page).committed ≤ s.link.readBuf.stop) (short : (s.page e.page).committed < (s.page e.page).base + 32)
    (scan : s.store.scanWaits = false) (low : s.store.memoryLow = false) (wait : s.store.poolWait = none) (room : s.link.room 2) :
    ∃ c, State.Reports { s with
        store := ({ s.store with freeList := s.store.freeList ++ (s.page e.page).chain } : PageStore).withPage e.page PageRec.freed
        dram := { s.dram with current := c }
        link := s.link.lastPlaced }
      [.readDone e.page e.count false, .pageReleased e.page (s.page e.page).label] (s.place .data) := by
  have unit : (s.page e.page).bandUnit = 32 := if_neg (by simp [image])
  rw [State.place_lastMarked (y := s.store) (r := { s.page e.page with mark := max (s.page e.page).mark s.link.readBuf.stop })
    reads some_ whole inside stream
    (State.raiseMark_held (y := s.page e.page) inside rfl (by rw [unit]; exact short) one)]
  generalize marked : ({ s.page e.page with mark := max (s.page e.page).mark s.link.readBuf.stop } : PageRec) = r
  have may : r.leftByRead.mayRelease = true := by
    have passed : (s.page e.page).committed ≤ max (s.page e.page).mark s.link.readBuf.stop := le_max_of_le_right all
    subst marked
    simp [PageRec.mayRelease, PageRec.leftByRead, closed, unprinted, one, stream, passed]
  have raised := State.Reports.one (e := .readDone e.page e.count false) (s := s.readGone s.store e.page r) (room.mono (by decide))
  obtain ⟨c, released⟩ := raised.releasedRead (State.page_put inside rfl) may rfl scan low wait room
  rw [State.released_put (y := s.store) (r := r.leftByRead) inside rfl] at released
  subst marked
  exact ⟨c, released⟩

/-- R16, R17: the report of a position that passes the head band of an OPEN page. -/
theorem State.raiseMark_consumes {p pos : Nat} {r : PageRec} {b : Band} {rest : List Band} (inside : p < 32) (record : s.page p = r)
    (opened : r.state = .opened) (stream : r.mode = some .stream) (image : r.kind = some .image) (consumer : r.consumer ≠ none)
    (chain : r.chain = b :: rest) (behind : r.mark ≤ pos) (passed : pos = r.base + 32) (whole : r.base + 32 ≤ r.committed)
    (scan : s.store.scanWaits = false) (low : s.store.memoryLow = false) (wait : s.store.poolWait = none) :
    s.raiseMark p pos = s.withStore (({ s.store with freeList := s.store.freeList ++ [b] } : PageStore).withPage p
      { r with chain := rest, base := r.base + 32, mark := r.base + 32 }) := by
  subst record
  have unit : (s.page p).bandUnit = 32 := if_neg (by simp [image])
  have mark : max (s.page p).mark pos = (s.page p).base + 32 := by rw [max_eq_right behind, passed]
  have page := State.page_withPage (s := s) { s.page p with mark := (s.page p).base + 32 } inside
  have consumed := State.consume_one (r := { s.page p with mark := (s.page p).base + 32 }) inside page stream image consumer chain
    (le_refl _) whole (Nat.add_lt_add_left (by decide) _) scan low wait
  have again := PageStore.withPage_withPage { s.store with freeList := s.store.freeList ++ [b] } p
    { s.page p with mark := (s.page p).base + 32 } { s.page p with chain := rest, base := (s.page p).base + 32, mark := (s.page p).base + 32 }
  have stays : ∀ y : State, (y.page p).state = .opened → y.autoRelease p = y := fun y open_ =>
    if_neg (by simp [PageRec.mayRelease, open_])
  unfold State.raiseMark
  dsimp only
  rw [mark, consumed, stays]
  · exact congrArg s.withStore again
  · exact (congrArg PageRec.state (State.page_withPage _ inside)).trans opened

/-- R150, R17, R18: a read of a STREAM page still OPEN completes: the page loses its consumer and its head band. -/
theorem State.place_lastOpen {e : ReadEntry} {b : Band} {rest : List Band} (reads : s.link.reads = [e]) (some_ : e.count ≠ 0)
    (whole : e.count = e.placed + (s.link.readBuf.stop - s.link.readBuf.first)) (inside : e.page < 32)
    (opened : (s.page e.page).state = .opened) (stream : (s.page e.page).mode = some .stream)
    (image : (s.page e.page).kind = some .image) (consumer : (s.page e.page).consumer ≠ none)
    (chain : (s.page e.page).chain = b :: rest) (behind : (s.page e.page).mark ≤ s.link.readBuf.stop)
    (passed : s.link.readBuf.stop = (s.page e.page).base + 32) (enough : (s.page e.page).base + 32 ≤ (s.page e.page).committed)
    (scan : s.store.scanWaits = false) (low : s.store.memoryLow = false) (wait : s.store.poolWait = none) (room : s.link.room 1) :
    State.Reports { s with
        store := ({ s.store with freeList := s.store.freeList ++ [b] } : PageStore).withPage e.page
          { s.page e.page with
            base := (s.page e.page).base + 32
            chain := rest
            mark := (s.page e.page).base + 32
            linkHold := (s.page e.page).linkHold - 1
            consumer := none }
        link := s.link.lastPlaced }
      [.readDone e.page e.count false] (s.place .data) := by
  rw [State.place_lastMarked (y := { s.store with freeList := s.store.freeList ++ [b] }) reads some_ whole inside stream
    (State.raiseMark_consumes (s := s.withLink { s.link.lastPlaced with reads := [{ e with placed := e.count }] })
      (r := s.page e.page) inside rfl opened stream image consumer chain behind passed enough scan low wait)]
  have left : PageRec.leftByRead { s.page e.page with
      chain := rest, base := (s.page e.page).base + 32, mark := (s.page e.page).base + 32 } = { s.page e.page with
      base := (s.page e.page).base + 32
      chain := rest
      mark := (s.page e.page).base + 32
      linkHold := (s.page e.page).linkHold - 1
      consumer := none } := by
    unfold PageRec.leftByRead
    rw [if_pos (by exact stream)]
  rw [State.readGone, left]
  generalize marked : ({ s.page e.page with
      base := (s.page e.page).base + 32
      chain := rest
      mark := (s.page e.page).base + 32
      linkHold := (s.page e.page).linkHold - 1
      consumer := none } : PageRec) = r
  have raised := State.Reports.one (e := .readDone e.page e.count false) (s := { s with
    store := ({ s.store with freeList := s.store.freeList ++ [b] } : PageStore).withPage e.page r, link := s.link.lastPlaced }) room
  have stays : State.autoRelease (State.raise _ (.readDone e.page e.count false)) e.page = State.raise _ _ := if_neg (by
    obtain ⟨c, told⟩ := raised
    rw [told, State.page_put (y := { s.store with freeList := s.store.freeList ++ [b] }) (r := r) inside rfl]
    subst marked
    simp [PageRec.mayRelease, opened])
  rw [stays]
  exact raised.readsOver rfl

/-! ### A LINE that waits for a band (R10, R12) -/

/-- R10, R12: the link writer that waits is granted the head of the free list and requests its line. -/
theorem State.lookLink_granted {w : PoolWait} {j : LinkJob} {r : PageRec} {b : Band} {free : List Band} {a : Activity}
    (wait : s.store.poolWait = some w) (bands : s.store.freeList = b :: free) (more : s.reserve ≤ free.length) (inside : w.page < 32)
    (record : s.page w.page = r) (opened : r.state = .opened) (writer : s.link.writer = some j) (line : j.isLine = true)
    (same : j.page = w.page) (base : r.base ≤ j.next) (chain : r.chain.length = j.next / 32 - r.base / 32)
    (alone : s.dram.lingering .linkWrite = false) (active : s.dram.state = .active) (busy : s.dram.current = some a) :
    s.lookLink = { s with
      store := ({ s.store with freeList := free, poolWait := none } : PageStore).withPage w.page
        { r with chain := r.chain ++ [b], filling := true }
      dram := { s.dram with
        waiting := s.dram.waiting ++
          [{ lineRequest .linkWrite w.page j.next (r.width.getD 0) b j.data none with afterOrder := s.dram.sleepOrder }]
        autoTimer := none } } := by
  subst record
  have granted := State.grantBand_eq (s := s.withStore { s.store with poolWait := none }) (p := w.page) bands opened
  have page : ((s.withStore { s.store with poolWait := none }).grantBand w.page).page w.page =
      { s.page w.page with chain := (s.page w.page).chain ++ [b], filling := true } :=
    State.page_put (y := { s.store with freeList := free, poolWait := none }) inside (by rw [granted]; rfl)
  have requested := State.linkRequest_line (s := (s.withStore { s.store with poolWait := none }).grantBand w.page) (j := j) (b := b)
    (a := a) (by rw [granted]; exact writer) line (by rw [same, page]; exact PageRec.bandOfLine_granted base chain)
    (by rw [granted]; exact alone) (by rw [granted]; exact active) (by rw [granted]; exact busy)
  unfold State.lookLink
  rw [wait]
  dsimp only
  rw [if_pos (by rw [bands, List.length_cons]; omega), requested, same, page, granted]
  rfl

/-- R12, R22: a release while the link writer waits for a band. -/
theorem State.releasePage_linkWaits {p : Nat} {w : PoolWait} {j : LinkJob} {r : PageRec} {b : Band} {rest : List Band}
    (chain : (s.page p).chain = b :: rest) (empty : s.store.freeList = []) (scan : s.store.scanWaits = false)
    (low : s.store.memoryLow = false) (wait : s.store.poolWait = some w) (other : w.page ≠ p) (inside : w.page < 32)
    (writer : s.link.writer = some j) (line : j.isLine = true) (same : j.page = w.page) (record : s.page w.page = r)
    (opened : r.state = .opened) (base : r.base ≤ j.next) (next : r.chain.length = j.next / 32 - r.base / 32)
    (more : s.reserve ≤ rest.length) (active : s.dram.state = .active) (busy : ∃ x, s.dram.current = some (.refresh x))
    (room : s.link.room 1) :
    State.Reports { s with
      store := (({ s.store with freeList := rest, poolWait := none } : PageStore).withPage p PageRec.freed).withPage w.page
        { r with chain := r.chain ++ [b], filling := true }
      dram := { s.dram with
        waiting := s.dram.waiting ++
          [{ lineRequest .linkWrite w.page j.next (r.width.getD 0) b j.data none with afterOrder := s.dram.sleepOrder }]
        autoTimer := none } } [.pageReleased p (s.page p).label] (s.releasePage p) := by
  obtain ⟨x, busy⟩ := busy
  have current : s.dram.withoutWrites p = s.dram.current := by
    unfold Dram.withoutWrites Dram.disown
    rw [busy]
    exact busy
  have raised := State.Reports.one (s := s.released p s.dram.current) (e := .pageReleased p (s.page p).label) room
  rw [State.releasePage_eq, current]
  generalize State.raise _ _ = z at raised ⊢
  obtain ⟨l, rfl⟩ := raised
  have kept : (s.released p s.dram.current).page w.page = r :=
    (State.page_withPage_ne (s := s.withStore { s.store with freeList := s.store.freeList ++ (s.page p).chain }) _ other.symm).trans record
  have alone : s.dram.lingering .linkWrite = false := by
    unfold Dram.lingering
    rw [busy]
  have granted := State.lookLink_granted (s := { s.released p s.dram.current with
      link := (s.released p s.dram.current).link.reported [.pageReleased p (s.page p).label] l }) (b := b) (free := rest) wait
    (by rw [← chain]; exact congrArg (· ++ (s.page p).chain) empty) more inside kept opened writer line same base next alone active busy
  have scanned : ∀ y : State, y.store.scanWaits = false → y.grantScanWaiting = y := fun y none_ => by
    unfold State.grantScanWaiting
    rw [none_]
  refine ⟨l, ?_⟩
  unfold State.lookWaiting
  rw [scanned _ (by exact scan), granted]
  refine (if_neg fun h => ?_).trans rfl
  exact absurd (low.symm.trans h.1) (by decide)

/-- R150, R12: a read completes whose page's bands go to a LINE that waits. -/
theorem State.place_lastWaiting {e : ReadEntry} {w : PoolWait} {j : LinkJob} {b : Band} {rest : List Band}
    (reads : s.link.reads = [e]) (some_ : e.count ≠ 0)
    (whole : e.count = e.placed + (s.link.readBuf.stop - s.link.readBuf.first)) (bound : e.page < 32)
    (closed : (s.page e.page).state = .closed) (unprinted : (s.page e.page).printHold = 0) (one : (s.page e.page).linkHold = 1)
    (keep : (s.page e.page).mode = some .keep) (unretained : (s.page e.page).retain = some false)
    (chain : (s.page e.page).chain = b :: rest) (empty : s.store.freeList = []) (scan : s.store.scanWaits = false)
    (low : s.store.memoryLow = false) (wait : s.store.poolWait = some w) (other : w.page ≠ e.page) (inside : w.page < 32)
    (writer : s.link.writer = some j) (line : j.isLine = true) (same : j.page = w.page)
    (opened : (s.page w.page).state = .opened) (base : (s.page w.page).base ≤ j.next)
    (next : (s.page w.page).chain.length = j.next / 32 - (s.page w.page).base / 32)
    (more : s.reserve ≤ rest.length) (active : s.dram.state = .active) (busy : ∃ x, s.dram.current = some (.refresh x))
    (room : s.link.room 2) :
    State.Reports { s with
      store := (({ s.store with freeList := rest, poolWait := none } : PageStore).withPage e.page PageRec.freed).withPage w.page
        { s.page w.page with chain := (s.page w.page).chain ++ [b], filling := true }
      dram := { s.dram with
        waiting := s.dram.waiting ++
          [{ lineRequest .linkWrite w.page j.next ((s.page w.page).width.getD 0) b j.data none with
              afterOrder := s.dram.sleepOrder }]
        autoTimer := none }
      link := s.link.lastPlaced }
      [.readDone e.page e.count false, .pageReleased e.page (s.page e.page).label] (s.place .data) := by
  rw [State.place_lastKeep reads some_ whole keep]
  have raised := State.Reports.one (e := .readDone e.page e.count false) (s := s.readLeft e.page) (room.mono (by decide))
  generalize (s.readLeft e.page).raise (.readDone e.page e.count false) = z at raised ⊢
  obtain ⟨c, rfl⟩ := raised
  have left : State.page { s.readLeft e.page with
      link := (s.readLeft e.page).link.reported [.readDone e.page e.count false] c } e.page = (s.page e.page).leftByRead :=
    State.page_put (y := s.store) bound rfl
  have record : State.page { s.readLeft e.page with
      link := (s.readLeft e.page).link.reported [.readDone e.page e.count false] c } w.page = s.page w.page :=
    State.page_withPage_ne (s := s) _ other.symm
  have may : (s.page e.page).leftByRead.mayRelease = true := by
    simp [PageRec.mayRelease, PageRec.leftByRead, closed, unprinted, one, keep, unretained]
  have released := State.releasePage_linkWaits (s := { s.readLeft e.page with
      link := (s.readLeft e.page).link.reported [.readDone e.page e.count false] c }) (p := e.page)
    (by rw [left]; exact chain) empty scan low wait other inside writer line same record opened base next more active busy
    ⟨room.1, by have := room.2; rw [List.length_append, List.length_singleton]; omega⟩
  rw [State.autoRelease_released (by rw [left]; exact may)]
  refine State.Reports.readsOver ?_ rfl
  obtain ⟨l, released⟩ := released
  refine ⟨l, released.trans ?_⟩
  have again := PageStore.withPage_withPage { s.store with freeList := rest, poolWait := none } e.page (s.page e.page).leftByRead
    PageRec.freed
  have label : PageRec.label (State.page { s.readLeft e.page with
      link := (s.readLeft e.page).link.reported [.readDone e.page e.count false] c } e.page) = (s.page e.page).label :=
    (congrArg PageRec.label left).trans rfl
  rw [label]
  unfold Link.reported
  refine congrArg₂ (fun (x : PageStore) (y : List Event) => ({ s with
    store := x.withPage w.page { s.page w.page with chain := (s.page w.page).chain ++ [b], filling := true }
    dram := _
    link := { s.link.lastPlaced with events := y, chosen := l } } : State)) again ?_
  exact List.append_assoc ..

/-! ### Replies and events -/

theorem Link.chosenRecord_reply {l : Link} {r : Reply} {rs : List Reply} (head : l.replies = r :: rs) : l.chosenRecord .reply =
    [0x5A#8, 0x80#8, r.tag] ++ twoBytes (r.data.length + 2) ++ [r.kind, byteOf r.code.code] ++ r.data := by
  rw [← Reply.record_eq]
  unfold Link.chosenRecord
  rw [head]
  rfl

theorem Link.chosenRecord_event {l : Link} {e : Event} {es : List Event} (head : l.events = e :: es) :
    l.chosenRecord .event = [0x5A#8, 0x81#8, 0x00#8] ++ twoBytes e.payload.length ++ e.payload := by
  rw [← Event.record_eq]
  unfold Link.chosenRecord Link.headEvent
  rw [head]

theorem Link.chosenRecord_overflow {l : Link} {n : Nat} (bare : l.events = []) (lost : l.overflow = some n) :
    l.chosenRecord .event = [0x5A#8, 0x81#8, 0x00#8, 0x00#8, 0x03#8, 0x62#8, 0x00#8, byteOf n] := by
  unfold Link.chosenRecord Link.headEvent
  rw [bare, lost]
  have length : twoBytes (overflowPayload n).length = [0x00#8, 0x03#8] := (rfl : _ = twoBytes 3).trans (by decide)
  exact (Event.record_eq _).trans (by rw [length]; rfl)

theorem State.place_reply {r : Reply} {rs : List Reply} (works : s.power.upstreamWorks = true) (head : s.link.replies = r :: rs) :
    s.place .reply = s.withLink { s.link with
      up := s.link.up ++ s.link.chosenRecord .reply
      replies := rs
      chosen :=
        if rs ≠ [] then some .reply
        else if s.link.events ≠ [] ∨ s.link.overflow.isSome = true then some .event
        else if s.link.readBuf.status = .waiting then some .data
        else none } := by
  unfold State.place
  generalize s.link.chosenRecord .reply = bytes
  dsimp only [State.withLink_link]
  rw [head]
  exact (State.choose_free (by exact works) rfl).trans rfl

theorem State.place_event {e : Event} {es : List Event} (head : s.link.events = e :: es) :
    ∃ c, s.place .event = s.withLink { s.link with
      up := s.link.up ++ s.link.chosenRecord .event
      events := es
      chosen := c } := by
  unfold State.place
  generalize s.link.chosenRecord .event = bytes
  have popped : ∀ l : Link, l.events = e :: es → l.popEvent = { l with events := es } := fun l head => by
    unfold Link.popEvent
    rw [head]
  dsimp only
  rw [popped _ (by exact head)]
  exact ⟨_, State.choose_eq⟩

theorem State.place_overflow (bare : s.link.events = []) :
    ∃ c, s.place .event = s.withLink { s.link with
      up := s.link.up ++ s.link.chosenRecord .event
      overflow := none
      chosen := c } := by
  unfold State.place
  generalize s.link.chosenRecord .event = bytes
  have popped : ∀ l : Link, l.events = [] → l.popEvent = { l with overflow := none } := fun l bare => by
    unfold Link.popEvent
    rw [bare]
  dsimp only
  rw [popped _ (by exact bare)]
  exact ⟨_, State.choose_eq⟩

/-- Settles O29: R152, R153's placement of each class of record, and what completing a read makes of its page. -/
theorem upstreamRecordPlaced : Obligations.UpstreamRecordPlaced := by
  unfold Obligations.UpstreamRecordPlaced
  refine ⟨fun s works awake => ⟨?_, ?_, ?_, ?_⟩, ?_⟩
  case refine_1 =>
    intro r rs chosen head room
    have bytes := Link.chosenRecord_reply head
    have step := exec_upstreamRecordPlaced chosen works (by
      rw [bytes]
      simp only [List.length_append, List.length_cons, List.length_nil, twoBytes_length]
      omega)
    rw [State.place_reply works head, bytes] at step
    exact ⟨_, next_settled step awake, rfl⟩
  case refine_2 =>
    intro e es chosen head room
    have bytes := Link.chosenRecord_event head
    have step := exec_upstreamRecordPlaced chosen works (by
      rw [bytes]
      simp only [List.length_append, List.length_cons, List.length_nil, twoBytes_length]
      omega)
    obtain ⟨c, placed⟩ := State.place_event head
    rw [placed, bytes] at step
    exact ⟨_, next_settled step awake, rfl⟩
  case refine_3 =>
    intro n chosen bare lost room
    have bytes := Link.chosenRecord_overflow bare lost
    have step := exec_upstreamRecordPlaced chosen works (by rw [bytes]; exact room)
    obtain ⟨c, placed⟩ := State.place_overflow bare
    rw [placed, bytes] at step
    exact ⟨_, next_settled step awake, rfl⟩
  case refine_4 =>
    intro e chosen reads inside keep retained _ some_ whole fits room
    have step := exec_upstreamRecordPlaced chosen works fits
    obtain ⟨t, next, told⟩ :=
      next_reports step (State.place_lastRetained reads some_ whole inside keep retained room) awake
    refine ⟨t, next, told.trans ?_⟩
    rw [State.readLeft, PageRec.leftByRead_keep keep]
  case refine_5 =>
    intro e s works awake chosen reads inside _ some_ whole fits room _ scan low p r placed done
    have step := exec_upstreamRecordPlaced chosen works fits
    refine ⟨?_, ?_, ?_, ?_⟩
    · intro closed unprinted one keep unretained wait
      obtain ⟨c, released⟩ :=
        State.place_lastReleased reads some_ whole inside closed unprinted one keep unretained scan low wait room
      rw [State.released_put (y := s.store) (r := r.leftByRead) inside rfl] at released
      obtain ⟨t, next, told⟩ := next_reports step released awake
      have current : t.dram.current = c := congrArg (·.dram.current) told
      rw [← current] at told
      exact ⟨t, next, told⟩
    · intro closed unprinted one stream image all short wait
      obtain ⟨c, released⟩ :=
        State.place_lastStream reads some_ whole inside closed unprinted one stream image all short scan low wait room
      obtain ⟨t, next, told⟩ := next_reports step released awake
      have current : t.dram.current = c := congrArg (·.dram.current) told
      rw [← current] at told
      exact ⟨t, next, told⟩
    · intro b rest opened stream image consumer chain behind passed enough wait
      exact next_reports step (State.place_lastOpen reads some_ whole inside opened stream image (by rw [consumer]; decide) chain
        behind passed enough scan low wait (room.mono (by decide))) awake
    · intro w j b rest closed unprinted one keep unretained chain empty wait other below writer line same opened base next more
        active busy
      exact next_reports step (State.place_lastWaiting reads some_ whole inside closed unprinted one keep unretained chain empty
        scan low wait other below writer line same opened base next more active busy room) awake

end

end Sys2Proof.Machine

/-! # Table loads (O38, O39) -/

namespace Sys2Proof.Machine

/-! ### What a record writes (R183) -/

theorem Tables.get_putAll {id : Nat} (known : id < 9) {k j : Nat} : ∀ {vals : List Nat} {start : Nat} {t : Tables},
    start + vals.length ≤ (tableEntries id).getD 0 →
    (t.putAll id start vals).get k j =
      if k = id ∧ start ≤ j ∧ j < start + vals.length then clampEntry id j (vals[j - start]?.getD 0) else t.get k j
  | [], start, t, _ => (if_neg fun h => by
      obtain ⟨_, low, high⟩ := h
      exact absurd high (by simpa using low)).symm
  | v :: vs, start, t, inside => by
    rw [List.length_cons] at inside ⊢
    unfold Tables.putAll
    rw [Tables.get_putAll known (by omega), Tables.get_put _ _ _ _ _ _ known]
    rcases Nat.lt_trichotomy j start with below | here | above
    · rw [if_neg (by omega), if_neg (by omega), if_neg (by omega)]
    · subst here
      rw [if_neg (by omega)]
      by_cases same : k = id
      · rw [if_pos ⟨same, rfl, by omega⟩, if_pos ⟨same, le_refl _, by omega⟩, Nat.sub_self]
        rfl
      · rw [if_neg (by omega), if_neg (by omega)]
    · rw [if_neg (c := k = id ∧ j = start ∧ _) (by omega)]
      obtain ⟨d, rfl⟩ : ∃ d, j = start + 1 + d := ⟨j - (start + 1), by omega⟩
      have shifted : start + 1 + d - start = d + 1 := by omega
      rw [shifted, List.getElem?_cons_succ, Nat.add_sub_cancel_left]
      exact if_congr (by omega) rfl rfl

theorem Tables.get_raiseTotal {t : Tables} {id k j : Nat} : (t.raiseTotal id).get k j =
    if k = 0 ∧ j = Param.sensorTotal ∧ id = 0 then
      max (t.p Param.sensorTotal) (t.p Param.sensorLead + t.p Param.scanWidth) else t.get k j := by
  unfold Tables.raiseTotal
  by_cases raised : id = 0 ∧ t.p Param.sensorTotal < t.p Param.sensorLead + t.p Param.scanWidth
  · rw [if_pos raised, Tables.get_put _ _ _ _ _ _ (by decide), max_eq_right (le_of_lt raised.2)]
    exact if_congr ⟨fun h => ⟨h.1, h.2.1, raised.1⟩, fun h => ⟨h.1, h.2.1, by decide⟩⟩ rfl rfl
  · rw [if_neg raised]
    split
    · next h =>
      obtain ⟨rfl, rfl, zero⟩ := h
      exact (max_eq_left (not_lt.mp fun h => raised ⟨zero, h⟩)).symm
    · rfl

/-! ### The clamps (R184, R187) -/

theorem clampTo_eq {lo hi v : Nat} (range : lo ≤ hi) : clampTo lo hi v = if v < lo then lo else if hi < v then hi else v := by
  unfold clampTo
  split
  · omega
  · split <;> omega

theorem clampTo_zero {hi v : Nat} : clampTo 0 hi v = if hi < v then hi else v := by
  rw [clampTo_eq (Nat.zero_le hi), if_neg (Nat.not_lt_zero v)]

theorem min_eq_clamp {hi v : Nat} : min hi v = if hi < v then hi else v := by
  split <;> omega

/-- Bits 6 and 7 of each byte of the masks are cleared. -/
theorem testBit_maskBits (b : Nat) : Nat.testBit 0x3F3F b = (decide (b < 6) || decide (8 ≤ b ∧ b < 14)) := by
  by_cases low : b < 16
  · interval_cases b <;> rfl
  · rw [Nat.testBit_lt_two_pow (Nat.lt_of_lt_of_le (by decide) (Nat.pow_le_pow_right (by decide) (not_lt.mp low)))]
    symm
    rw [Bool.or_eq_false_iff, decide_eq_false_iff_not, decide_eq_false_iff_not]
    omega

theorem clampParam_scanWidth (v : Nat) :
    clampParam 1 v = if v < 512 then 512 else if 2048 < v then 2048 else v - v % 64 := by
  change clampTo 512 2048 v / 64 * 64 = _
  rw [clampTo_eq (by decide)]
  split
  · rfl
  · split
    · rfl
    · omega

/-- A row of a table of ranges is the range of a plain entry where every row of it is. -/
theorem paramRange_listed {rows : List (Nat × Nat × Nat)} {i lo hi : Nat}
    (agree : ∀ row ∈ rows, row.1 ≠ 1 ∧ row.1 ≠ 2 ∧ row.1 ≠ 51 ∧ paramRange row.1 = row.2) (row : (i, lo, hi) ∈ rows) (v : Nat) :
    clampParam i v = if v < lo then lo else if hi < v then hi else v := by
  obtain ⟨scanWidth, headWidth, mask, limits⟩ := agree _ row
  have ordered := (paramRange_le i).1
  rw [limits] at ordered
  exact (clampParam_plain scanWidth headWidth mask v).trans (by rw [limits]; exact clampTo_eq ordered)

/-- Settles O39: an induction over the record's values, and the clamp of each table's entries. -/
theorem loadWritesClampedEntries : Obligations.LoadWritesClampedEntries := by
  unfold Obligations.LoadWritesClampedEntries
  intro id start n vals t table inside u
  have known := tableEntries_lt table
  have fits : start + vals.length ≤ (tableEntries id).getD 0 := by rwa [table]
  have get : ∀ k j, u.get k j = if k = 0 ∧ j = Param.sensorTotal ∧ id = 0 then
      max ((t.putAll id start vals).p Param.sensorTotal)
        ((t.putAll id start vals).p Param.sensorLead + (t.putAll id start vals).p Param.scanWidth)
      else if k = id ∧ start ≤ j ∧ j < start + vals.length then clampEntry id j (vals[j - start]?.getD 0) else t.get k j :=
    fun k j => by rw [← Tables.get_putAll known fits]; exact Tables.get_raiseTotal
  refine ⟨?_, ?_, ?_, ?_, ?_⟩
  case refine_1 =>
    intro k below entry
    rw [get, if_neg (by omega), if_pos ⟨rfl, by omega, by omega⟩, Nat.add_sub_cancel_left]
  case refine_2 =>
    intro k j outside entry
    rw [get, if_neg (by omega), if_neg (by omega)]
  case refine_3 =>
    intro zero
    have kept : ∀ j, j ≠ Param.sensorTotal → u.p j = (t.putAll id start vals).p j := fun j other =>
      (Tables.get_raiseTotal (k := 0)).trans (if_neg fun h => other h.2.1)
    rw [kept Param.sensorLead (by decide), kept Param.scanWidth (by decide)]
    exact (get 0 _).trans (if_pos ⟨rfl, rfl, zero⟩)
  case refine_4 =>
    intro other
    rw [Tables.p_eq, get, if_neg fun h => other h.2.2, if_neg fun h => other h.1.symm]
    rfl
  case refine_5 =>
    intro i v
    refine ⟨?_, clampParam_scanWidth v, rfl, ?_, rfl, rfl, clampTo_zero, ?_, ?_, ?_⟩
    case refine_1 =>
      intro lo hi range
      exact paramRange_listed (by decide) range v
    case refine_2 =>
      intro b
      exact (Nat.testBit_and v 0x3F3F b).trans (by rw [testBit_maskBits])
    case refine_3 =>
      have ramp : (clampEntry 4 0 v = clampTo 1 48 v) ∧ (i ≠ 0 → clampEntry 4 i v = clampTo 100 65535 v) :=
        ⟨rfl, fun interval => if_neg interval⟩
      rw [clampTo_eq (by decide), clampTo_eq (by decide)] at ramp
      intro k either
      rcases List.mem_pair.mp either with rfl | rfl
      · exact ramp
      · exact ramp
    case refine_4 =>
      intro k either
      rcases List.mem_pair.mp either with rfl | rfl
      · exact min_eq_clamp
      · exact min_eq_clamp
    case refine_5 =>
      change (if i % 5 = 0 ∨ i % 5 = 4 then min 1 v else v) = _
      rw [min_eq_clamp]

end Sys2Proof.Machine

/-! # LOAD TABLE and READ TABLE (O38) -/

namespace Sys2Proof.Machine

section

variable {s t : State} {tag table : Byte} {start count : Half} {entries : List Byte}

theorem exec_loadTable (takes : s.takesCommand = true) :
    exec (.loadTable tag table start entries) s = .next (s.doLoadTable tag table start entries) :=
  congrArg Host.Outcome.next (if_pos takes)

theorem exec_readTable (takes : s.takesCommand = true) :
    exec (.readTable tag table start count) s = .next (s.doReadTable tag table start count) :=
  congrArg Host.Outcome.next (if_pos takes)

/-! ### What a load comes to (R166, R183) -/

theorem State.loadOutcome_inside {id first n : Nat} (entries_ : tableEntries id = some n) (some_ : loadValues id entries ≠ [])
    (inside : first + (loadValues id entries).length ≤ n) :
    s.loadOutcome id first entries =
      if s.loadable id first (loadValues id entries).length then
        .accepted (loadValues id entries).length (clampedCount s.tables id first (loadValues id entries))
      else .tableBusy := by
  unfold State.loadOutcome
  rw [entries_]
  exact if_neg fun h => h.elim some_ fun beyond => by omega

theorem State.loadOutcome_beyond {id first n : Nat} (entries_ : tableEntries id = some n)
    (beyond : n < first + (loadValues id entries).length) : s.loadOutcome id first entries = .badParameter := by
  unfold State.loadOutcome
  rw [entries_]
  exact if_pos (.inr beyond)

theorem Channel.redrive_state {c : Channel} {m : Motor} {now : Nat} {pattern : BitVec 4} {t : Tables} :
    (c.redrive t m now pattern).state = c.state := by
  unfold Channel.redrive
  dsimp only
  split <;> rfl

/-- R107: a channel's coils after a load of its phase table. -/
def Channel.reloaded (t : Tables) (m : Motor) (now : Nat) (c : Channel) : Channel :=
  if c.state = .hold then c.redrive t m now (t.phase m c.phase) else c

theorem State.redriveHold_s : s.redriveHold .s = { s with motS := s.motS.reloaded s.tables .s s.now } := by
  unfold State.redriveHold Channel.reloaded
  dsimp only [State.mot]
  split
  · have still := Channel.redrive_state (c := s.motS) (m := .s) (now := s.now) (pattern := s.tables.phase .s s.motS.phase)
      (t := s.tables)
    exact if_pos (by unfold Channel.moving; rw [still])
  · rfl

theorem State.redriveHold_p : s.redriveHold .p = { s with motP := s.motP.reloaded s.tables .p s.now } := by
  unfold State.redriveHold Channel.reloaded
  dsimp only [State.mot]
  split <;> rfl

theorem State.redriveHold_withLink (m : Motor) (l : Link) : (s.withLink l).redriveHold m = (s.redriveHold m).withLink l := by
  cases m
  · rw [State.redriveHold_s, State.redriveHold_s]
    rfl
  · rw [State.redriveHold_p, State.redriveHold_p]
    rfl

/-- R183: what a load does besides writing its tables does not depend on the link, and leaves it. -/
theorem State.replaceTables_withLink (t : Tables) (l : Link) : (s.withLink l).replaceTables t = (s.replaceTables t).withLink l := by
  have banks : ∀ x : State, (x.withLink l).banksChanged = x.banksChanged.withLink l := fun x => by
    unfold State.banksChanged
    dsimp only
    rw [State.withLink_store, apply_ite (State.withLink · l)]
    rfl
  have redriven : ∀ (x : State) (m : Motor) (a b : Vector Nat 8),
      (if a ≠ b then (x.withLink l).redriveHold m else x.withLink l) = (if a ≠ b then x.redriveHold m else x).withLink l :=
    fun x m a b => by rw [State.redriveHold_withLink, apply_ite (State.withLink · l)]
  have written : (s.withLink l).withTables t = (s.withTables t).withLink l := rfl
  unfold State.replaceTables
  dsimp only
  rw [State.withLink_tables, written, redriven, redriven, banks]
  simp only [apply_ite (State.withLink · l)]

/-- R166: the reply of an accepted load, and its effect. -/
theorem next_loaded {n : Nat} (takes : s.takesCommand = true) (entries_ : tableEntries table.toNat = some n)
    (some_ : loadValues table.toNat entries ≠ []) (inside : start.toNat + (loadValues table.toNat entries).length ≤ n)
    (may : s.loadable table.toNat start.toNat (loadValues table.toNat entries).length = true) :
    ∃ t, exec (.loadTable tag table start entries) s = .next t ∧
      t = (s.replaceTables (s.tables.load table.toNat start.toNat (loadValues table.toNat entries))).withLink
        (s.link.replied tag 0x18#8 .accepted (twoBytes (loadValues table.toNat entries).length ++
          twoBytes (clampedCount s.tables table.toNat start.toNat (loadValues table.toNat entries))) t.link.chosen) := by
  obtain ⟨c, answered⟩ := State.answer_replies (s := s) (tag := tag) (kind := 0x18#8) (code := .accepted)
    (data := twoBytes (loadValues table.toNat entries).length ++
      twoBytes (clampedCount s.tables table.toNat start.toNat (loadValues table.toNat entries)))
  have step := exec_loadTable (tag := tag) (table := table) (start := start) (entries := entries) takes
  unfold State.doLoadTable at step
  rw [State.loadOutcome_inside entries_ some_ inside, if_pos may] at step
  dsimp only at step
  rw [answered] at step
  exact ⟨_, step.trans (congrArg Host.Outcome.next (State.replaceTables_withLink _ _)), rfl⟩

/-- R183: a load whose users are busy. -/
theorem State.doLoadTable_busy {n : Nat} (entries_ : tableEntries table.toNat = some n)
    (some_ : loadValues table.toNat entries ≠ []) (inside : start.toNat + (loadValues table.toNat entries).length ≤ n)
    (may : s.loadable table.toNat start.toNat (loadValues table.toNat entries).length = false) :
    s.doLoadTable tag table start entries = s.answer tag 0x18#8 .tableBusy [] := by
  unfold State.doLoadTable
  rw [State.loadOutcome_inside entries_ some_ inside, may]
  rfl

/-- R166: a load beyond its table. -/
theorem State.doLoadTable_beyond {n : Nat} (entries_ : tableEntries table.toNat = some n)
    (beyond : n < start.toNat + (loadValues table.toNat entries).length) :
    s.doLoadTable tag table start entries = s.answer tag 0x18#8 .badParameter [] := by
  unfold State.doLoadTable
  rw [State.loadOutcome_beyond entries_ beyond]
  rfl

/-- R174: a READ TABLE within its table and 1016 bytes. -/
theorem State.doReadTable_inside {n w : Nat} (entries_ : tableEntries table.toNat = some n) (width : tableWidth table.toNat = some w)
    (some_ : 0 < count.toNat) (inside : start.toNat + count.toNat ≤ n) (short : w * count.toNat ≤ 1016) :
    s.doReadTable tag table start count = s.answer tag 0x19#8 .accepted
      ([table] ++ halfBytes start ++ halfBytes count ++ readEntries s.tables table.toNat w start.toNat count.toNat) := by
  unfold State.doReadTable
  rw [entries_, width]
  dsimp only
  rw [if_neg (by omega), if_neg (by omega)]

/-! ### Which tables a load leaves (R183) -/

theorem Tables.put_phases {t : Tables} {id i v : Nat} :
    (id ≠ 6 → (t.put id i v).phaseS = t.phaseS) ∧ (id ≠ 7 → (t.put id i v).phaseP = t.phaseP) := by
  unfold Tables.put
  constructor
  all_goals
    intro other
    split
    all_goals first | rfl | exact absurd rfl other

theorem Tables.putAll_phases {id : Nat} : ∀ {vals : List Nat} {i : Nat} {t : Tables},
    (id ≠ 6 → (t.putAll id i vals).phaseS = t.phaseS) ∧ (id ≠ 7 → (t.putAll id i vals).phaseP = t.phaseP)
  | [], _, _ => ⟨fun _ => rfl, fun _ => rfl⟩
  | _ :: vs, _, _ =>
    ⟨fun other => (Tables.putAll_phases (vals := vs).1 other).trans (Tables.put_phases.1 other),
      fun other => (Tables.putAll_phases (vals := vs).2 other).trans (Tables.put_phases.2 other)⟩

theorem Tables.raiseTotal_phases {t : Tables} {id : Nat} :
    (t.raiseTotal id).phaseS = t.phaseS ∧ (t.raiseTotal id).phaseP = t.phaseP := by
  unfold Tables.raiseTotal
  split <;> exact ⟨rfl, rfl⟩

theorem Tables.load_phaseS {t : Tables} {id first : Nat} {vals : List Nat} (other : id ≠ 6) :
    (t.load id first vals).phaseS = t.phaseS := Tables.raiseTotal_phases.1.trans (Tables.putAll_phases.1 other)

theorem Tables.load_phaseP {t : Tables} {id first : Nat} {vals : List Nat} (other : id ≠ 7) :
    (t.load id first vals).phaseP = t.phaseP := Tables.raiseTotal_phases.2.trans (Tables.putAll_phases.2 other)

theorem Tables.load_p {t : Tables} {id first n i : Nat} {vals : List Nat} (entries_ : tableEntries id = some n)
    (inside : first + vals.length ≤ n) (other : id ≠ 0) : (t.load id first vals).p i = t.p i := by
  have putAll := Tables.get_putAll (k := 0) (j := i) (vals := vals) (start := first) (t := t) (tableEntries_lt entries_)
    (by rwa [entries_])
  rw [if_neg fun h => other h.1.symm] at putAll
  exact (Tables.get_raiseTotal (k := 0)).trans ((if_neg fun h => other h.2.2).trans putAll)

/-! ### What a load does besides (R8, R37, R107) -/

theorem State.replaceTables_plain {t : Tables} (banks : t.p Param.banks = s.tables.p Param.banks)
    (phaseS : t.phaseS = s.tables.phaseS)
    (phaseP : t.phaseP = s.tables.phaseP) : s.replaceTables t = s.withTables t := by
  unfold State.replaceTables
  dsimp only
  rw [if_neg (not_not.mpr phaseS), if_neg (not_not.mpr phaseP), if_neg (not_not.mpr banks)]

/-- R8, R37: a load that changes BANKS. -/
theorem State.replaceTables_banks {t : Tables} (banks : t.p Param.banks ≠ s.tables.p Param.banks)
    (phaseS : t.phaseS = s.tables.phaseS) (phaseP : t.phaseP = s.tables.phaseP) :
    s.replaceTables t = { s with
      tables := t
      mem := s.mem.filter fun cell => cell.1 < 1048576 * t.p Param.banks
      store :=
        if s.store.poolSize = 0 then s.store
        else { s.store with
          poolSize := 128 * t.p Param.banks, freeList := (List.finRange 512).take (128 * t.p Param.banks) }
      dram :=
        if s.dram.state = .active ∧ s.dram.current = none then
          { s.dram with banks := t.p Param.banks, heldBanks := none, rowHold := [] }
        else { s.dram with heldBanks := some (t.p Param.banks) } } := by
  have below : s.mem.below (t.p Param.banks * Config.bankBytes) = s.mem.filter fun cell => cell.1 < 1048576 * t.p Param.banks := by
    rw [Nat.mul_comm]
    rfl
  unfold State.replaceTables
  dsimp only
  rw [if_neg (not_not.mpr phaseS), if_neg (not_not.mpr phaseP), if_pos banks]
  unfold State.banksChanged
  dsimp only [State.withTables_tables, State.withTables_mem]
  rw [below]
  split
  · next unbuilt =>
    rw [if_pos (by exact unbuilt)]
    rfl
  · next built =>
    rw [if_neg (by exact built)]
    rfl

theorem Channel.reloaded_free {c : Channel} {t : Tables} {m : Motor} {now : Nat} (free : c.state ≠ .hold) :
    c.reloaded t m now = c := if_neg free

/-- R107: a load that may change channel S's phase table. -/
theorem State.replaceTables_phaseS {t : Tables} (banks : t.p Param.banks = s.tables.p Param.banks)
    (phaseP : t.phaseP = s.tables.phaseP) (changed : s.motS.state = .hold → t.phaseS ≠ s.tables.phaseS) :
    s.replaceTables t = { s with tables := t, motS := s.motS.reloaded t .s s.now } := by
  unfold State.replaceTables
  dsimp only
  rw [if_neg (not_not.mpr phaseP), if_neg (not_not.mpr banks)]
  by_cases phaseS : t.phaseS = s.tables.phaseS
  · rw [if_neg (not_not.mpr phaseS), Channel.reloaded_free fun held => changed held phaseS]
    rfl
  · rw [if_pos phaseS]
    exact State.redriveHold_s

/-- R107: a load that may change channel P's phase table. -/
theorem State.replaceTables_phaseP {t : Tables} (banks : t.p Param.banks = s.tables.p Param.banks)
    (phaseS : t.phaseS = s.tables.phaseS) (changed : s.motP.state = .hold → t.phaseP ≠ s.tables.phaseP) :
    s.replaceTables t = { s with tables := t, motP := s.motP.reloaded t .p s.now } := by
  unfold State.replaceTables
  dsimp only
  rw [if_neg (not_not.mpr phaseS), if_neg (not_not.mpr banks)]
  by_cases phaseP : t.phaseP = s.tables.phaseP
  · rw [if_neg (not_not.mpr phaseP), Channel.reloaded_free fun held => changed held phaseP]
    rfl
  · rw [if_pos phaseP]
    exact State.redriveHold_p

/-! ### The conditions of R187 -/

theorem State.loadable_iff {id first n : Nat} : s.loadable id first n = true ↔
    ∀ i, first ≤ i → i < first + n → s.allows (loadRule id i) = true := by
  unfold State.loadable
  rw [List.all_eq_true]
  constructor
  · intro all i low high
    have at_ := all (i - first) (List.mem_range.mpr (by omega))
    rwa [Nat.add_sub_cancel' low] at at_
  · intro all k below
    exact all _ (Nat.le_add_right ..) (Nat.add_lt_add_left (List.mem_range.mp below) _)

theorem State.loadable_uniform {id first n : Nat} {r : LoadRule} (rule : ∀ i, loadRule id i = r) (some_ : 0 < n) :
    s.loadable id first n = true ↔ s.allows r = true := by
  rw [State.loadable_iff]
  constructor
  · intro all
    rw [← rule first]
    exact all first (le_refl _) (Nat.lt_add_of_pos_right some_)
  · intro allowed i _ _
    rwa [rule]

theorem paramRule_empty (i : Nat) : i = 0 ↔ paramRule i = .empty := by
  unfold paramRule
  split_ifs <;> simp <;> omega

theorem paramRule_scanIdle (i : Nat) : i = 1 ∨ 3 ≤ i ∧ i ≤ 14 ↔ paramRule i = .scanIdle := by
  unfold paramRule
  split_ifs <;> simp <;> omega

theorem paramRule_printIdle (i : Nat) : i = 2 ∨ 15 ≤ i ∧ i ≤ 17 ↔ paramRule i = .printIdle := by
  unfold paramRule
  split_ifs <;> simp <;> omega

theorem paramRule_atRestS (i : Nat) :
    i ∈ [25, 27, 29, 31, 33, 34, 35, 39] ↔ paramRule i = .sAtRest ∨ paramRule i = .bothAtRest := by
  unfold paramRule
  split_ifs <;> simp <;> omega

theorem paramRule_atRestP (i : Nat) :
    i ∈ [26, 28, 30, 32, 36, 37, 38, 39] ↔ paramRule i = .pAtRest ∨ paramRule i = .bothAtRest := by
  unfold paramRule
  split_ifs <;> simp <;> omega

theorem PageStore.directoryEmpty_iff : s.store.directoryEmpty = true ↔ ∀ p < 32, (s.page p).state = .free := by
  unfold PageStore.directoryEmpty State.page
  rw [List.all_eq_true]
  constructor
  · intro all p inside
    have free := all s.store.pages[p] (Vector.mem_toList_iff.mpr (Vector.getElem_mem inside))
    simpa [inside] using free
  · intro all r listed
    obtain ⟨p, inside, rfl⟩ := Vector.mem_iff_getElem.mp (Vector.mem_toList_iff.mp listed)
    simpa [inside] using all p inside

theorem State.allows_param (i : Nat) : s.allows (paramRule i) = true ↔
    (i = 0 → (∀ p < 32, (s.page p).state = .free) ∧ s.noJob = true) ∧
      (i = 1 ∨ 3 ≤ i ∧ i ≤ 14 → s.scan.isIdle = true) ∧ (i = 2 ∨ 15 ≤ i ∧ i ≤ 17 → s.print.isIdle = true) ∧
      (i ∈ [25, 27, 29, 31, 33, 34, 35, 39] → s.motS.atRest = true) ∧
      (i ∈ [26, 28, 30, 32, 36, 37, 38, 39] → s.motP.atRest = true) := by
  rw [paramRule_empty, paramRule_scanIdle, paramRule_printIdle, paramRule_atRestS, paramRule_atRestP,
    ← PageStore.directoryEmpty_iff]
  cases paramRule i <;> simp [State.allows]

/-- R187: the entries of a phase table may be loaded while their channel rests. -/
theorem State.loadable_phase {m : Motor} {first n : Nat} (rest : (s.mot m).atRest = true) :
    s.loadable (if m = .s then 6 else 7) first n = true :=
  State.loadable_iff.mpr fun _ _ _ => by cases m <;> exact rest

/-! ### A phase table's load (R107) -/

theorem Channel.reloaded_eq {t : Tables} {m : Motor} {now gap : Nat} {c : Channel} {pattern : BitVec 4}
    (wanted : t.phase m c.phase = pattern) (time : t.nonoverlap m = gap) :
    c.reloaded t m now =
      let newly := pattern &&& ~~~(c.coils ||| c.gaps.foldl (fun w g => w ||| g.coils) 0#4)
      let kept := (c.gaps.map fun g => { g with coils := g.coils &&& pattern }).filter fun g => g.coils ≠ 0#4
      if c.state ≠ .hold then c
      else if gap = 0 ∨ newly = 0#4 then { c with coils := (c.coils &&& pattern) ||| newly, gaps := kept }
      else { c with
        coils := c.coils &&& pattern
        gaps := insertGap { coils := newly, endsAt := now + 20 * gap } kept } := by
  subst wanted time
  have us : Config.us (t.nonoverlap m) = 20 * t.nonoverlap m := rfl
  unfold Channel.reloaded Channel.redrive Channel.waiting
  rw [us, ite_not]

/-- Settles O38: the checks of R166 and R183, and the effect of a load by the table it writes. -/
theorem loadAndReadTable : Obligations.LoadAndReadTable := by
  unfold Obligations.LoadAndReadTable
  intro tag table start count entries s takes id vals loaded
  refine ⟨?_, ?_, ?_, ?_, ?_, ?_, ?_⟩
  case refine_1 =>
    intro n entries_ some_ inside may banks phaseS phaseP
    have step := next_loaded (tag := tag) takes entries_ some_ inside may
    rw [State.replaceTables_plain banks phaseS phaseP] at step
    exact step
  case refine_2 =>
    intro n entries_ some_ inside may
    exact next_answer ((exec_loadTable takes).trans (congrArg _ (State.doLoadTable_busy entries_ some_ inside may)))
  case refine_3 =>
    intro n entries_ beyond
    exact next_answer ((exec_loadTable takes).trans (congrArg _ (State.doLoadTable_beyond entries_ beyond)))
  case refine_4 =>
    intro n w entries_ width some_ inside short
    exact next_answer ((exec_readTable takes).trans (congrArg _ (State.doReadTable_inside entries_ width some_ inside short)))
  case refine_5 =>
    intro n entries_ some_ inside may banks b
    have zero : id = 0 := by_contra fun other => banks (Tables.load_p entries_ inside other)
    have phaseS : loaded.phaseS = s.tables.phaseS := Tables.load_phaseS (by rw [zero]; decide)
    have phaseP : loaded.phaseP = s.tables.phaseP := Tables.load_phaseP (by rw [zero]; decide)
    have step := next_loaded (tag := tag) takes entries_ some_ inside may
    rw [State.replaceTables_banks banks phaseS phaseP] at step
    exact step
  case refine_6 =>
    intro m which some_ inside rest changed ch pattern waiting newly kept gap driven
    have entries_ : tableEntries id = some 8 := by rw [which]; cases m <;> rfl
    have other : id ≠ 0 := by rw [which]; cases m <;> decide
    have may : s.loadable id start.toNat vals.length = true := by rw [which]; exact State.loadable_phase rest
    have same : ∀ i, loaded.p i = s.tables.p i := fun i => Tables.load_p entries_ inside other
    have wanted : loaded.phase m ch.phase = pattern := by
      show _ = BitVec.ofNat 4 (loaded.get id _)
      rw [which]
      cases m <;> rfl
    have time : loaded.nonoverlap m = gap := by
      cases m <;> exact same _
    have coils : ch.reloaded loaded m s.now = driven := Channel.reloaded_eq wanted time
    rw [← coils]
    cases m with
    | s =>
      have six : id = 6 := which
      have change : s.motS.state = .hold → loaded.phaseS ≠ s.tables.phaseS := fun held alike => by
        obtain ⟨i, _, differs⟩ := changed held
        rw [six] at differs
        exact differs (congrArg (fun v : Vector Nat 8 => v[i]?.getD 0) alike)
      have phaseP : loaded.phaseP = s.tables.phaseP := Tables.load_phaseP (by rw [six]; decide)
      have step := next_loaded (tag := tag) takes entries_ some_ inside may
      rw [State.replaceTables_phaseS (same _) phaseP change] at step
      exact step
    | p =>
      have seven : id = 7 := which
      have change : s.motP.state = .hold → loaded.phaseP ≠ s.tables.phaseP := fun held alike => by
        obtain ⟨i, _, differs⟩ := changed held
        rw [seven] at differs
        exact differs (congrArg (fun v : Vector Nat 8 => v[i]?.getD 0) alike)
      have phaseS : loaded.phaseS = s.tables.phaseS := Tables.load_phaseS (by rw [seven]; decide)
      have step := next_loaded (tag := tag) takes entries_ some_ inside may
      rw [State.replaceTables_phaseP (same _) phaseS change] at step
      exact step
  case refine_7 =>
    intro n
    refine ⟨?_, fun some_ => ⟨State.loadable_uniform (r := .scanIdle) (fun _ => rfl) some_,
      State.loadable_uniform (r := .scanIdle) (fun _ => rfl) some_, ?_, ?_, ?_⟩⟩
    · rw [State.loadable_iff]
      exact forall_congr' fun i => imp_congr_right fun _ => imp_congr_right fun _ => State.allows_param i
    · intro k either
      rcases List.mem_pair.mp either with rfl | rfl
      all_goals exact State.loadable_uniform (r := .sAtRest) (fun _ => rfl) some_
    · intro k either
      rcases List.mem_pair.mp either with rfl | rfl
      all_goals exact State.loadable_uniform (r := .pAtRest) (fun _ => rfl) some_
    · intro k either
      rcases List.mem_pair.mp either with rfl | rfl
      all_goals exact (State.loadable_uniform (r := .always) (fun _ => rfl) some_).mpr rfl

end

end Sys2Proof.Machine

/-! # Job commands, and a scan's start (O40) -/

namespace Sys2Proof.Machine

section

variable {s t u : State} {tag kind : Byte}

/-! ### A job command accepted (R160, R194) -/

theorem State.accept_replies : ∃ c, s.accept tag kind = { s with link := s.link.replied tag kind .accepted [] c } :=
  State.answer_replies

/-- R192: the standby timer stopped by a job. -/
abbrev Power.busied (p : Power) : Power := { p with quiet := false, standbyTimer := none }

/-- R160: a job command with no sleep pending. -/
theorem State.jobAccepted_awake (awake : s.power.sleepPending = none) : s.jobAccepted =
    if s.power.state = .standby then (s.withPower s.power.busied).enterRun else s.withPower s.power.busied :=
  congrArg (fun x : State => if x.power.state = .standby then x.enterRun else x)
    (if_neg (by rw [State.withPower_power, awake]; exact Bool.false_ne_true))

/-- R160: in RUN, with no sleep pending, a job command stops the standby timer alone. -/
theorem State.jobAccepted_run (awake : s.power.sleepPending = none) (run : s.power.state = .run) :
    s.jobAccepted = s.withPower s.power.busied := by
  rw [State.jobAccepted_awake awake, if_neg (by rw [run]; decide)]

theorem Dram.runEntry_active {now exitTime : Nat} {d : Dram} (active : d.state = .active) :
    d.runEntry now exitTime = { d with autoTimer := none, autoDue := false } := by
  unfold Dram.runEntry
  dsimp only
  rw [active]

/-- R194: the part returned from STANDBY to RUN while a transaction of the round before runs. -/
abbrev State.returned (s : State) : State :=
  { s with
    dram := { s.dram with autoTimer := none, autoDue := false }
    mon := { s.mon with
      roundQueued := true
      lastRound := some { start := s.now, period := s.tables.p Param.sensorPeriod }
      nextRound := some (s.now + 20000 * s.tables.p Param.sensorPeriod) }
    power := { s.power.busied with state := .run, sleepTimer := none } }

/-- R194: a job command in STANDBY. -/
theorem State.jobAccepted_standby (awake : s.power.sleepPending = none) (standby : s.power.state = .standby)
    (converting : s.mon.transaction.isSome = true) (active : s.dram.state = .active) (room : s.link.room 1) :
    s.returned.Reports [.runEntered] s.jobAccepted := by
  have run : ∀ x : State, x.power.state = .run → x.roundPeriod = x.tables.p Param.sensorPeriod := fun x h =>
    if_neg (by simp [h])
  have entered : State.enterRun (s.withPower s.power.busied) = s.returned.raise .runEntered := by
    unfold State.enterRun
    dsimp only
    rw [State.startRound_queued (by exact converting), run _ rfl, Dram.runEntry_active (by exact active)]
    rfl
  rw [State.jobAccepted_awake awake, if_pos standby, entered]
  exact State.Reports.one room

theorem State.entering_false (awake : s.power.state ≠ .enteringSleep) : s.entering = false :=
  beq_eq_false_iff_ne.mpr awake

/-! ### Moves asked for at rest (R109) -/

theorem State.withMotS_inputs (c : Channel) : ∃ is, s.withMot .s c = { s with motS := c, mon := { s.mon with inputs := is } } := by
  unfold State.withMot
  dsimp only
  split
  · exact ⟨s.mon.inputs, rfl⟩
  · exact ⟨_, rfl⟩

theorem State.requestMove_rest {m : Motor} {n : Nat} {r : MoveReq} (rest : (s.mot m).atRest = true) :
    s.requestMove m n r = s.withMot m ((s.mot m).take s.tables m s.now n r) :=
  congrArg (s.withMot m) (if_pos rest)

theorem State.requestMoveS_rest {n : Nat} {r : MoveReq} (rest : s.motS.atRest = true) : ∃ is, s.requestMove .s n r = { s with
    motS := s.motS.take s.tables .s s.now n r
    mon := { s.mon with inputs := is } } := by
  rw [State.requestMove_rest (m := .s) rest]
  exact State.withMotS_inputs _

/-! ### SCAN (R47 to R49, R178) -/

section

variable {page resolution mode retain source pattern : Byte} {label lineCount : Half} {f : ScanFields}

theorem scanFields_sensor {n : Nat} (fields : scanFields n page resolution mode retain label source pattern lineCount = some f)
    (sensor : f.source = .sensor) : f.pattern = none ∧ f.lineCount = 0 := by
  unfold scanFields at fields
  split at fields
  case h_1 =>
    split at fields
    · cases fields
      have other : ¬_ = ScanSource.pattern := fun h => ScanSource.noConfusion (h.symm.trans sensor)
      exact ⟨if_neg other, if_neg other⟩
    · cases fields
  case h_2 => cases fields

/-- R47: the job of a SENSOR scan. -/
abbrev State.sensorJob (s : State) (f : ScanFields) : ScanJob :=
  { ScanJob.idle with
    page := some f.page
    source := some .sensor
    resolution := some f.res
    steps := f.res.scanSteps
    floor := s.tables.scanFloor f.res.scanSteps }

/-- R109: the move that a SENSOR scan asks of channel S. -/
abbrev State.sensorMove (s : State) (f : ScanFields) : MoveReq :=
  { owner := .scan
    ask := .open_
    steps := f.res.scanSteps
    cruise := s.tables.p f.res.cruiseS
    floor := s.tables.scanFloor f.res.scanSteps }

/-- R4: a page opened for a scan. -/
abbrev State.scanPage (s : State) (f : ScanFields) : PageRec :=
  { PageRec.freed with
    state := .opened
    kind := some .image
    mode := some f.mode
    writer := some .scan
    width := some (s.tables.p Param.scanWidth)
    resolution := some f.res
    retain := if f.mode = .keep then some f.retain else none
    label := f.label }

theorem exec_scan (takes : s.takesCommand = true) : exec (.scan tag page resolution mode retain label source pattern lineCount) s =
    .next (s.doScan tag page resolution mode retain label source pattern lineCount).settled :=
  congrArg Host.Outcome.next (if_pos takes)

theorem State.doScan_accepted
    (fields : scanFields (s.tables.p Param.maxDocLines) page resolution mode retain label source pattern lineCount = some f)
    (awake : s.entering = false) (idle : s.scan.isIdle = true) (rest : s.motS.atRest = true)
    (free : (s.page f.page).state = .free) (document : s.active Input.docIn = true) (shut : s.active Input.coverOpen = false) :
    s.doScan tag page resolution mode retain label source pattern lineCount = (s.accept tag 0x08#8).startScan f := by
  unfold State.doScan
  rw [fields]
  dsimp only
  rw [awake, if_neg (by exact Bool.false_ne_true), idle, rest, if_neg (by simp), if_neg (not_not.mpr free), document,
    if_neg (by simp), shut, if_neg (by exact Bool.false_ne_true)]

/-- R178: a SENSOR scan without a document. -/
theorem State.doScan_noMedia
    (fields : scanFields (s.tables.p Param.maxDocLines) page resolution mode retain label source pattern lineCount = some f)
    (sensor : f.source = .sensor) (awake : s.entering = false) (idle : s.scan.isIdle = true) (rest : s.motS.atRest = true)
    (free : (s.page f.page).state = .free) (document : s.active Input.docIn = false) :
    s.doScan tag page resolution mode retain label source pattern lineCount = s.answer tag 0x08#8 .noMedia [] := by
  unfold State.doScan
  rw [fields]
  dsimp only
  rw [awake, if_neg (by exact Bool.false_ne_true), idle, rest, if_neg (by simp), if_neg (not_not.mpr free), document,
    if_pos ⟨sensor, rfl⟩]
  rfl

/-- R47: the job stands in STARTING, the page opened. -/
abbrev State.scanWaits (s : State) (f : ScanFields) : State :=
  { s with
    store := s.store.withPage f.page (s.scanPage f)
    scan := { s.scan with
      job := { s.sensorJob f with state := .starting, startEnds := some (s.now + 20000 * s.tables.p Param.powerSettle) } } }

theorem State.newJob_sensor (sensor : f.source = .sensor) (plain : f.pattern = none ∧ f.lineCount = 0) : s.newJob f =
    { s.sensorJob f with state := .starting, startEnds := some (s.now + 20000 * s.tables.p Param.powerSettle) } := by
  obtain ⟨pattern, lines⟩ := plain
  unfold State.newJob
  rw [sensor, pattern, lines]
  rfl

/-- R48, R49: the end of STARTING. -/
theorem State.scanBegin_sensor {d : Option Nat} (job : s.scan.job = { s.sensorJob f with state := .starting, startEnds := d })
    (rest : s.motS.atRest = true) : ∃ is, s.scanBegin = { s with
      scan := { s.scan with lamp := true, job := { s.sensorJob f with state := .feedIn } }
      motS := s.motS.take s.tables .s s.now 0 (s.sensorMove f)
      mon := { s.mon with inputs := is } } := by
  have pattern : s.scan.job.source ≠ some .pattern := by simp [job]
  unfold State.scanBegin State.enterFeedIn
  rw [if_neg pattern, job]
  exact State.requestMoveS_rest (by exact rest)

theorem State.startScan_eq (sensor : f.source = .sensor) (plain : f.pattern = none ∧ f.lineCount = 0) : s.startScan f =
    if s.power.state = .standby then (s.scanWaits f).jobAccepted else (s.scanWaits f).jobAccepted.scanBegin := by
  unfold State.startScan
  dsimp only
  rw [State.newJob_sensor sensor plain]
  rfl

end

/-- Settles O40: the checks of R178, the job begun in RUN (R49) and put off in STANDBY (R48). -/
theorem scanStarts : Obligations.ScanStarts := by
  unfold Obligations.ScanStarts
  intro tag page resolution mode retain label source pattern lineCount f s fields sensor awake rest c floor job record moves
  have plain := scanFields_sensor fields sensor
  have executes : s.takesCommand = true →
      exec c s = .next (s.doScan tag page resolution mode retain label source pattern lineCount).settled := exec_scan
  refine ⟨?_, ?_, ?_, ?_⟩
  case refine_1 =>
    intro takes run idle inside free document shut
    have step := executes takes
    obtain ⟨l, accepted⟩ := State.accept_replies (s := s) (tag := tag) (kind := 0x08#8)
    rw [State.doScan_accepted fields (State.entering_false (by rw [run]; decide)) idle rest free document shut, accepted,
      State.startScan_eq sensor plain, if_neg (by simp [run]), State.jobAccepted_run (by exact awake) (by exact run)] at step
    obtain ⟨is, begun⟩ := State.scanBegin_sensor
      (s := State.withPower (State.scanWaits { s with link := s.link.replied tag 0x08#8 .accepted [] l } f) s.power.busied)
      (f := f) rfl (by exact rest)
    rw [begun] at step
    exact ⟨_, next_settled step awake, rfl, rfl⟩
  case refine_2 =>
    intro takes standby idle inside free document shut converting active room
    have step := executes takes
    obtain ⟨l, accepted⟩ := State.accept_replies (s := s) (tag := tag) (kind := 0x08#8)
    rw [State.doScan_accepted fields (State.entering_false (by rw [standby]; decide)) idle rest free document shut, accepted,
      State.startScan_eq sensor plain, if_pos (by exact standby)] at step
    exact next_reports step (State.jobAccepted_standby (by exact awake) (by exact standby) (by exact converting) (by exact active)
      (by exact room)) awake
  case refine_3 =>
    intro d waiting
    have step : exec .scanStartingEnd s = .next (s.at d).scanBegin := by
      change execScanStartingEnd s = _
      unfold execScanStartingEnd
      rw [waiting]
    obtain ⟨is, begun⟩ := State.scanBegin_sensor (s := s.at d) (f := f) waiting (by exact rest)
    rw [begun] at step
    exact ⟨_, step, rfl, rfl⟩
  case refine_4 =>
    intro takes run idle free document
    have step := executes takes
    obtain ⟨l, answered⟩ := State.answer_replies (s := s) (tag := tag) (kind := 0x08#8) (code := .noMedia) (data := [])
    rw [State.doScan_noMedia fields sensor (State.entering_false (by rw [run]; decide)) idle rest free document, answered] at step
    exact ⟨_, next_settled step awake, rfl⟩

end

end Sys2Proof.Machine

/-! # CANCEL SCAN (O41) -/

namespace Sys2Proof.Machine

section

variable {s t u : State} {tag : Byte}

theorem exec_cancelScan (takes : s.takesCommand = true) : exec (.cancelScan tag) s = .next (s.doCancelScan tag).settled :=
  congrArg Host.Outcome.next (if_pos takes)

/-- R59: a Scan Unit without a readout, a write of a line or a slot in use. -/
structure ScanUnit.Bare (u : ScanUnit) : Prop where
  writes : u.writes = []
  readouts : u.readouts = []
  slotA : u.slotA.use = .free
  slotB : u.slotB.use = .free

theorem ScanUnit.Bare.emptied_eq {u : ScanUnit} (bare : u.Bare) : u.emptied = u := by
  obtain ⟨writes, readouts, slotA, slotB⟩ := bare
  have same : u = { u with
    writes := u.writes
    readouts := u.readouts
    slotA := { u.slotA with use := u.slotA.use }
    slotB := { u.slotB with use := u.slotB.use } } := rfl
  rw [writes, readouts, slotA, slotB] at same
  exact same.symm

/-- R67: with no readout in progress there is none to run on. -/
theorem State.scanAbort_uncut {why : AbortReason} (readouts : s.scan.readouts = []) : s.scanAbort why false = s.scanAbort why true := by
  have ended : s.endCaptures false = s.endCaptures true := by
    unfold State.endCaptures
    dsimp only
    rw [State.withdraw, State.withDram_scan, readouts]
    rfl
  unfold State.scanAbort
  dsimp only
  rw [ended]

/-- R67, R117: an abort while channel S runs at the job's move. -/
theorem State.Reports.scanAbortStop {es : List Event} {x : State} {why : AbortReason} (aborted : x.Reports es (s.scanAbort why false))
    (moving : x.motS.moving = true) (owner : x.motS.owner = .scan) (held : x.motS.held = Option.none)
    (going : x.motS.stop = .nostop) :
    State.Reports { x with motS := { x.motS with stop := .pending } } es (s.scanAbortStop why) := by
  obtain ⟨c, aborted⟩ := aborted
  have asked := Channel.askStop_moving moving owner held
  rw [going, if_pos rfl] at asked
  unfold State.scanAbortStop State.requestStop
  dsimp only
  rw [aborted]
  refine ⟨c, ?_⟩
  change (if (x.motS.askStop .scan).2 = true then _ else _) = _
  rw [asked, if_neg (by exact Bool.false_ne_true)]
  change State.withMot _ .s (x.motS.askStop .scan).1 = _
  rw [asked]
  exact State.withMot_still rfl

/-- Settles O41. -/
theorem cancelScan : Obligations.CancelScan := by
  unfold Obligations.CancelScan
  intro tag s takes awake
  have step := exec_cancelScan (tag := tag) takes
  refine ⟨?_, ?_⟩
  case refine_1 =>
    intro p feeding page standing inside writes readouts slotA slotB ending absent running owner held going unattended room keep
      retained unfilled
    obtain ⟨l, accepted⟩ := State.accept_replies (s := s) (tag := tag) (kind := 0x09#8)
    have bare : s.scan.Bare := ⟨writes, readouts, slotA, slotB⟩
    obtain ⟨c, aborted⟩ := State.scanAbort_retained (s := { s with link := s.link.replied tag 0x09#8 .accepted [] l })
      (why := .cancel) page inside standing ending absent unattended keep retained unfilled room
    rw [← State.scanAbort_uncut (by exact readouts)] at aborted
    have stopped := State.Reports.scanAbortStop (s := { s with link := s.link.replied tag 0x09#8 .accepted [] l })
      aborted (by unfold Channel.moving; simp [running]) owner held going
    rw [bare.emptied_eq] at stopped
    have cancelled : s.doCancelScan tag = (s.accept tag 0x09#8).scanAbortStop .cancel := if_neg (by rw [feeding]; decide)
    rw [cancelled, accepted] at step
    obtain ⟨t, next, told⟩ := next_reports step stopped awake
    have current : t.dram.current = c := congrArg (·.dram.current) told
    rw [← current] at told
    exact ⟨t, next, told⟩
  case refine_2 =>
    intro idle
    obtain ⟨l, answered⟩ := State.answer_replies (s := s) (tag := tag) (kind := 0x09#8) (code := .wrongState) (data := [])
    have refused : s.doCancelScan tag = s.answer tag 0x09#8 .wrongState [] := if_pos idle
    rw [refused, answered] at step
    exact ⟨_, next_settled step awake, rfl⟩

end

end Sys2Proof.Machine

/-! # SHADE and its calibration (O42) -/

namespace Sys2Proof.Machine

section

variable {s t u : State} {tag : Byte}

theorem exec_shade (takes : s.takesCommand = true) : exec (.shade tag) s = .next (s.doShade tag).settled :=
  congrArg Host.Outcome.next (if_pos takes)

theorem State.doShade_accepted (awake : s.entering = false) (idle : s.scan.isIdle = true) (document : s.active Input.docIn = false)
    (shut : s.active Input.coverOpen = false) : s.doShade tag = (s.accept tag 0x0A#8).startShade := by
  unfold State.doShade
  rw [awake, idle, document, shut]
  rfl

theorem State.doShade_wrongState (awake : s.entering = false) (unfit : s.scan.isIdle = false ∨ s.active Input.docIn = true) :
    s.doShade tag = s.answer tag 0x0A#8 .wrongState [] := by
  unfold State.doShade
  rw [awake, if_neg (by exact Bool.false_ne_true), if_pos unfit]
  rfl

theorem State.doShade_coverOpen (awake : s.entering = false) (idle : s.scan.isIdle = true)
    (document : s.active Input.docIn = false) (open_ : s.active Input.coverOpen = true) :
    s.doShade tag = s.answer tag 0x0A#8 .coverOpen [] := by
  unfold State.doShade
  rw [awake, idle, document, open_]
  rfl

/-- R160: RUN and STANDBY are no sleep entry. -/
theorem State.entering_awake (state : s.power.state = .run ∨ s.power.state = .standby) : s.entering = false :=
  State.entering_false (by rcases state with state | state <;> rw [state] <;> decide)

/-- R65: a calibration that waits for POWER_SETTLE. -/
abbrev State.calibrationWaits (s : State) : State := s.withScan { s.scan with
  calibration := some
    { settleEnds := some (s.now + 20000 * s.tables.p Param.powerSettle), readoutEnds := none, readouts := 0, sums := [] } }

theorem State.startShade_eq : s.startShade =
    if s.power.state = .standby then s.calibrationWaits.jobAccepted else s.calibrationWaits.jobAccepted.beginReading := rfl

/-- R159: a refusal, whose step may yet move the standby timer. -/
theorem next_refusal {i : Instr} {kind : Byte} {code : ResultCode} {data : List Byte}
    (step : exec i s = .next (s.answer tag kind code data).settled) (awake : s.power.sleepPending = none) :
    ∃ t, exec i s = .next t ∧ t = { s with
      link := s.link.replied tag kind code data t.link.chosen
      power := s.power.timed t.power } := by
  obtain ⟨c, answered⟩ := State.answer_replies (s := s) (tag := tag) (kind := kind) (code := code) (data := data)
  rw [answered] at step
  exact ⟨_, next_settled step awake, rfl⟩

theorem exec_calibrationReadoutEnd {c : Calibration} {d : Nat} {samples : List Byte} (running : s.scan.calibration = some c)
    (due : c.readoutEnds = some d) :
    exec (.calibrationReadoutEnd samples) s = .next ((s.at d).calibrationReadout c samples).settled := by
  change execCalibrationReadoutEnd samples s = _
  unfold execCalibrationReadoutEnd
  rw [running]
  dsimp only
  rw [due]

/-- R65: a readout that is not the last. -/
theorem State.calibrationReadout_more {c : Calibration} {samples : List Byte} (more : c.readouts < 7) :
    s.calibrationReadout c samples = s.withScan { s.scan with
      syncEnds := some (s.now + s.tables.syncTime)
      calibration := some (Calibration.reading (s.now + s.tables.readoutTime) (c.readouts + 1)
        (addSamples samples (s.tables.p Param.sensorLead) c.sums)) } := if_pos (by omega)

/-- R65: the eighth readout. -/
theorem State.calibrationReadout_last {c : Calibration} {samples : List Byte} {gains : List Nat} (last : c.readouts = 7)
    (read : (addSamples samples (s.tables.p Param.sensorLead) c.sums).map (shadeGain (s.tables.p Param.shadeTarget)) = gains) :
    s.calibrationReadout c samples =
      State.raise { s with
        tables := s.tables.putAll 1 0 gains
        scan := { s.scan with lamp := false, calibration := none } } (.shadeDone (gains.foldl min 255) (gains.foldl max 0)) := by
  subst read
  exact if_neg (by omega)

/-- Settles O42: the checks of R179, and the calibration's readouts one by one. -/
theorem calibrationRuns : Obligations.CalibrationRuns := by
  unfold Obligations.CalibrationRuns
  intro tag s awake pulse reading
  have executes : s.takesCommand = true → exec (.shade tag) s = .next (s.doShade tag).settled := exec_shade
  refine ⟨?_, ?_, ?_, ?_, ?_, ?_⟩
  case refine_1 =>
    intro takes run idle document shut
    have step := executes takes
    obtain ⟨l, accepted⟩ := State.accept_replies (s := s) (tag := tag) (kind := 0x0A#8)
    rw [State.doShade_accepted (State.entering_awake (.inl run)) idle document shut, accepted, State.startShade_eq,
      if_neg (by simp [run]), State.jobAccepted_run (by exact awake) (by exact run)] at step
    exact ⟨_, next_settled step awake, rfl⟩
  case refine_2 =>
    intro takes standby idle document shut converting active room
    have step := executes takes
    obtain ⟨l, accepted⟩ := State.accept_replies (s := s) (tag := tag) (kind := 0x0A#8)
    rw [State.doShade_accepted (State.entering_awake (.inr standby)) idle document shut, accepted, State.startShade_eq,
      if_pos (by exact standby)] at step
    exact next_reports step (State.jobAccepted_standby (by exact awake) (by exact standby) (by exact converting) (by exact active)
      (by exact room)) awake
  case refine_3 =>
    intro takes state unfit
    have step := executes takes
    rw [State.doShade_wrongState (State.entering_awake state) unfit] at step
    exact next_refusal step awake
  case refine_4 =>
    intro takes state idle document open_
    have step := executes takes
    rw [State.doShade_coverOpen (State.entering_awake state) idle document open_] at step
    exact next_refusal step awake
  case refine_5 =>
    intro c d settling due
    have ends : s.scan.calibration.bind (·.settleEnds) = some d := by rw [settling]; exact due
    change execCalibrationSettleEnd s = _
    unfold execCalibrationSettleEnd
    rw [ends]
    rfl
  case refine_6 =>
    intro c d samples running due sample sums gain
    have step := exec_calibrationReadoutEnd (samples := samples) running due
    refine ⟨fun more => ?_, fun last room => ?_⟩
    · rw [State.calibrationReadout_more more] at step
      exact ⟨_, next_settled step awake, rfl⟩
    · rw [State.calibrationReadout_last (s := s.at d) (gains := sums.map gain) last rfl] at step
      exact next_reports step (State.Reports.one room) awake

end

end Sys2Proof.Machine

/-! # The print queue (O45) -/

namespace Sys2Proof.Machine

section

variable {s t u : State} {tag page copies : Byte}

/-- The state with a command's acceptance in its reply queue. -/
abbrev State.acked (s : State) (tag kind : Byte) (l : Option UpClass) : State :=
  { s with link := s.link.replied tag kind .accepted [] l }

/-! ### Readers of a page (R15, R16) -/

theorem State.addHold_printKeep {p start : Nat} {r : PageRec} (record : s.page p = r) (keep : r.mode = some .keep) :
    s.addHold p .print start = s.withPage p { r with printHold := r.printHold + 1 } := by
  subst record
  have other : (s.page p).mode ≠ some .stream := by rw [keep]; decide
  unfold State.addHold
  dsimp only
  rw [if_pos rfl, if_neg (by decide), if_neg other, if_neg other]

theorem State.addHold_printStream {p start : Nat} {r : PageRec} (record : s.page p = r) (stream : r.mode = some .stream) :
    s.addHold p .print start =
      s.withPage p { r with printHold := r.printHold + 1, consumer := some .print, mark := start } := by
  subst record
  unfold State.addHold
  dsimp only
  rw [if_pos rfl, if_neg (by decide), if_pos stream, if_pos stream]

theorem State.dropHold_printKeep {p : Nat} {r : PageRec} (record : s.page p = r) (keep : r.mode = some .keep) :
    s.dropHold p .print = s.withPage p { r with printHold := r.printHold - 1 } := by
  subst record
  have other : (s.page p).mode ≠ some .stream := by rw [keep]; decide
  unfold State.dropHold
  dsimp only
  rw [if_pos rfl, if_neg (by decide), if_neg other]

/-! ### PRINT (R72, R168) -/

theorem exec_print (takes : s.takesCommand = true) : exec (.print tag page copies) s = .next (s.doPrint tag page copies).settled :=
  congrArg Host.Outcome.next (if_pos takes)

/-- R159, R168: the checks of a PRINT that are the same for every mode of page. -/
theorem State.doPrint_image (inside : page.toNat < 32) (some_ : 1 ≤ copies.toNat) (most : copies.toNat ≤ 99)
    (awake : s.entering = false) (used : (s.page page.toNat).state ≠ .free) (image : (s.page page.toNat).kind = some .image) :
    s.doPrint tag page copies =
      if (s.page page.toNat).mode = some .stream ∧ copies.toNat ≠ 1 then s.answer tag 0x0C#8 .badParameter []
      else if (s.page page.toNat).mode = some .stream ∧ (s.page page.toNat).consumer.isSome = true then
        s.answer tag 0x0C#8 .wrongState []
      else if 8 ≤ s.print.queue.length then s.answer tag 0x0C#8 .queueFull []
      else (s.accept tag 0x0C#8).startPrint page.toNat copies.toNat := by
  unfold State.doPrint
  dsimp only
  rw [if_neg (by omega), awake, if_neg (by exact Bool.false_ne_true), if_neg used, if_neg (not_not.mpr image)]
  rfl

/-- R72: a PRINT of a KEEP page with room in the queue. -/
theorem State.doPrint_keep (inside : page.toNat < 32) (some_ : 1 ≤ copies.toNat) (most : copies.toNat ≤ 99)
    (awake : s.entering = false) (used : (s.page page.toNat).state ≠ .free) (image : (s.page page.toNat).kind = some .image)
    (keep : (s.page page.toNat).mode = some .keep) (room : s.print.queue.length < 8) :
    s.doPrint tag page copies = (s.accept tag 0x0C#8).startPrint page.toNat copies.toNat := by
  rw [State.doPrint_image inside some_ most awake used image, if_neg (by simp [keep]), if_neg (by simp [keep]),
    if_neg (Nat.not_le.mpr room)]

/-- R72: a PRINT accepted in RUN: the entry joins the queue, and the first one begins its copy. -/
theorem State.startPrint_run {p n : Nat} {r : PageRec} {x : State} {e : PrintEntry} (awake : s.power.sleepPending = none)
    (run : s.power.state = .run)
    (entry : e =
      { page := p, copies := n, done := 0, cursor := if (s.page p).mode = some .stream then (s.page p).base else 0 })
    (held : (s.withPrint { s.print with queue := s.print.queue ++ [e] }).addHold p .print (s.page p).base =
      (s.withPrint { s.print with queue := s.print.queue ++ [e] }).withPage p r)
    (joined : { s with
      store := s.store.withPage p r
      print := { s.print with queue := s.print.queue ++ [e] }
      power := s.power.busied } = x) :
    s.startPrint p n = if s.print.queue.isEmpty = true then x.beginCopy false else x := by
  subst entry joined
  unfold State.startPrint
  dsimp only
  rw [held, State.jobAccepted_run (by exact awake) (by exact run), run]
  rfl

/-- R73, R86: a copy begun with the cover open is suspended. -/
theorem State.beginCopy_cover {e : PrintEntry} {es : List PrintEntry} (queue : s.print.queue = e :: es)
    (open_ : s.active Input.coverOpen = true) :
    s.beginCopy false = State.raise (s.withPrint { s.print with
      hpwr := false
      copy := { CopyRec.idle with state := .suspended, suspend := some .cover } }) (.printSuspended e.page .cover) := by
  have active : (s.withCopy CopyRec.idle).active Input.coverOpen = true := open_
  unfold State.beginCopy
  rw [if_neg (by exact Bool.false_ne_true)]
  unfold State.startCopy
  rw [State.withCopy, State.withPrint_print, queue]
  dsimp only
  rw [if_pos ⟨rfl, active⟩]
  unfold State.suspend State.printPageNo
  rw [State.withPrint_print, queue]
  rfl

/-! ### CANCEL PRINT (R89, R161) -/

theorem exec_cancelPrint (takes : s.takesCommand = true) :
    exec (.cancelPrint tag page) s = .next (s.doCancelPrint tag page).settled := congrArg Host.Outcome.next (if_pos takes)

theorem matchesPage_inside {p q : Nat} (inside : p < 32) : matchesPage p q = (p == q) := by
  unfold matchesPage
  rw [beq_eq_false_iff_ne.mpr (by omega), Bool.false_or]

/-- R89: the second of two entries is cancelled. -/
theorem State.cancelPrints_second {p : Nat} {e0 e1 : PrintEntry} (inside : p < 32) (queue : s.print.queue = [e0, e1])
    (first : e0.page ≠ p) (second : e1.page = p) :
    s.cancelPrints p = (s.withPrint { s.print with queue := [e0] }).dropPrint e1 := by
  have other : matchesPage p e0.page = false := by rw [matchesPage_inside inside]; exact beq_eq_false_iff_ne.mpr first.symm
  have same : matchesPage p e1.page = true := by rw [matchesPage_inside inside, second]; exact beq_self_eq_true p
  unfold State.cancelPrints
  rw [queue]
  dsimp only
  rw [other, List.filter_cons_of_neg (by simp [same]), List.filter_cons_of_pos (by exact same)]
  rfl

theorem State.printMatches_second {p : Nat} {e0 e1 : PrintEntry} (inside : p < 32) (queue : s.print.queue = [e0, e1])
    (first : e0.page ≠ p) (second : e1.page = p) : s.printMatches p = 1 := by
  unfold State.printMatches
  rw [queue]
  simp [matchesPage_inside inside, first.symm, second]

/-- R89: a queued entry of a retained KEEP page leaves. -/
theorem State.dropPrint_retained {e : PrintEntry} {r : PageRec} (inside : e.page < 32) (record : s.page e.page = r)
    (keep : r.mode = some .keep) (retained : r.retain = some true) (room : s.link.room 1) :
    State.Reports (s.withPage e.page { r with printHold := r.printHold - 1 }) [.printCancelled e.page] (s.dropPrint e) := by
  have raised := State.Reports.one (s := s.withPage e.page { r with printHold := r.printHold - 1 })
    (e := .printCancelled e.page) room
  have page : State.page (State.raise (s.withPage e.page { r with printHold := r.printHold - 1 }) (.printCancelled e.page)) e.page =
      { r with printHold := r.printHold - 1 } := by
    obtain ⟨c, told⟩ := raised
    rw [told]
    exact State.page_withPage _ inside
  unfold State.dropPrint
  rw [State.dropHold_printKeep record keep, State.autoRelease_retained (by rw [page]; exact keep) (by rw [page]; exact retained)]
  exact raised

/-- Settles O45: the checks of R161 and R168, and what the queue's entries do to their pages. -/
theorem printQueue : Obligations.PrintQueue := by
  unfold Obligations.PrintQueue
  refine ⟨?_, ?_⟩
  case refine_1 =>
    intro tag page copies s takes run awake inside image keep p r e
    have woken : s.entering = false := State.entering_awake (.inl run)
    have step := exec_print (tag := tag) (page := page) (copies := copies) takes
    have cancel := exec_cancelPrint (tag := tag) (page := page) takes
    have entry : e = { page := p, copies := copies.toNat, done := 0, cursor := if r.mode = some .stream then r.base else 0 } := by
      rw [if_neg (by rw [keep]; decide)]
    refine ⟨?_, ?_, ?_, ?_⟩
    · intro used some_ most behind room
      obtain ⟨l, accepted⟩ := State.accept_replies (s := s) (tag := tag) (kind := 0x0C#8)
      rw [State.doPrint_keep inside some_ most woken used image keep room, accepted, State.startPrint_run
        (s := s.acked tag 0x0C#8 l) awake run entry (State.addHold_printKeep (r := r) rfl keep) rfl, if_neg
        (by simpa using behind)] at step
      exact ⟨_, next_settled step awake, rfl⟩
    · intro used some_ most bare open_ eventRoom
      obtain ⟨l, accepted⟩ := State.accept_replies (s := s) (tag := tag) (kind := 0x0C#8)
      rw [State.doPrint_keep inside some_ most woken used image keep (by simp [bare]), accepted, State.startPrint_run
        (s := s.acked tag 0x0C#8 l) awake run entry (State.addHold_printKeep (r := r) rfl keep) rfl, if_pos (by simp [bare]),
        State.beginCopy_cover (e := e) (es := []) (by simp [bare]) (by exact open_)] at step
      obtain ⟨t, next, told⟩ := next_reports step (State.Reports.one eventRoom) awake
      refine ⟨t, next, told.trans ?_⟩
      rw [bare]
      rfl
    · intro e0 e1 queue first second retained room
      obtain ⟨l, answered⟩ := State.answer_replies (s := s) (tag := tag) (kind := 0x0D#8) (code := .accepted) (data := [1#8])
      have cancelled : s.doCancelPrint tag page = (s.answer tag 0x0D#8 .accepted [1#8]).cancelPrints p := by
        unfold State.doCancelPrint
        rw [State.printMatches_second inside queue first second, if_neg (by omega), if_neg (by simp)]
        rfl
      rw [cancelled, answered, State.cancelPrints_second inside (by exact queue) first second] at cancel
      have dropped := State.dropPrint_retained (e := e1) (r := r)
        (s := State.withPrint { s with link := s.link.replied tag 0x0D#8 .accepted [1#8] l } { s.print with queue := [e0] })
        (by rw [second]; exact inside) (by rw [second]; rfl) keep retained room
      rw [second] at dropped
      exact next_reports cancel dropped awake
    · intro bare
      have refused : s.doCancelPrint tag page = s.answer tag 0x0D#8 .wrongState [] := by
        unfold State.doCancelPrint State.printMatches
        rw [bare, if_neg (by omega), if_pos ⟨by omega, rfl⟩]
        rfl
      rw [refused] at cancel
      exact next_refusal cancel awake
  case refine_2 =>
    intro tag page copies s takes run awake inside image stream used some_ most p r answered
    have woken : s.entering = false := State.entering_awake (.inl run)
    have step := exec_print (tag := tag) (page := page) (copies := copies) takes
    rw [State.doPrint_image inside some_ most woken used image] at step
    refine ⟨?_, ?_, ?_⟩
    · intro many
      rw [if_pos ⟨stream, many⟩] at step
      exact next_refusal step awake
    · intro one consumed
      rw [if_neg (fun h => h.2 one), if_pos ⟨stream, Option.isSome_iff_ne_none.mpr consumed⟩] at step
      exact next_refusal step awake
    · intro one unconsumed behind room
      obtain ⟨l, accepted⟩ := State.accept_replies (s := s) (tag := tag) (kind := 0x0C#8)
      have entry : ({ page := p, copies := 1, done := 0, cursor := r.base } : PrintEntry) =
          { page := p, copies := 1, done := 0, cursor := if r.mode = some .stream then r.base else 0 } := by
        rw [if_pos (by exact stream)]
      rw [if_neg (fun h => h.2 one), if_neg (fun h => Option.isSome_iff_ne_none.mp h.2 unconsumed), if_neg (Nat.not_le.mpr room),
        accepted, one, State.startPrint_run (s := s.acked tag 0x0C#8 l) awake run entry
        (State.addHold_printStream (r := r) rfl stream) rfl, if_neg (by simpa using behind)] at step
      exact ⟨_, next_settled step awake, rfl⟩

end

end Sys2Proof.Machine

/-! # The link read queue (O52) -/

namespace Sys2Proof.Machine

section

variable {s t u : State} {tag page : Byte} {start count : Offset}

/-! ### Readers of a page (R15, R16, R18) -/

theorem State.addHold_linkKeep {p first : Nat} {r : PageRec} (record : s.page p = r) (keep : r.mode = some .keep) :
    s.addHold p .link first = s.withPage p { r with linkHold := r.linkHold + 1 } := by
  subst record
  have other : (s.page p).mode ≠ some .stream := by rw [keep]; decide
  unfold State.addHold
  dsimp only
  rw [if_neg (by decide), if_pos rfl, if_neg other, if_neg other]

theorem State.addHold_linkStream {p first : Nat} {r : PageRec} (record : s.page p = r) (stream : r.mode = some .stream) :
    s.addHold p .link first = s.withPage p { r with linkHold := r.linkHold + 1, consumer := some .link, mark := first } := by
  subst record
  unfold State.addHold
  dsimp only
  rw [if_neg (by decide), if_pos rfl, if_pos stream, if_pos stream]

theorem State.dropHold_link {p : Nat} {r : PageRec} (record : s.page p = r) :
    s.dropHold p .link = s.withPage p r.leftByRead := by
  subst record
  rfl

theorem PageRec.leftByRead_stream {r : PageRec} (stream : r.mode = some .stream) :
    r.leftByRead = { r with linkHold := r.linkHold - 1, consumer := none } := by
  unfold PageRec.leftByRead
  rw [if_pos stream]

/-! ### READ PAGE (R147, R173) -/

theorem exec_readPage (takes : s.takesCommand = true) :
    exec (.readPage tag page start count) s = .next (s.doReadPage tag page start count).settled :=
  congrArg Host.Outcome.next (if_pos takes)

/-- R173: a READ PAGE of an IMAGE page. -/
theorem State.doReadPage_image (inside : page.toNat < 32) (awake : s.entering = false) (used : (s.page page.toNat).state ≠ .free)
    (image : (s.page page.toNat).kind = some .image) :
    s.doReadPage tag page start count =
      if 16383 < start.toNat ∨ 16384 < count.toNat then s.answer tag 0x10#8 .badParameter []
      else if (s.page page.toNat).mode = some .stream ∧ (s.page page.toNat).consumer.isSome = true then
        s.answer tag 0x10#8 .wrongState []
      else if (s.page page.toNat).mode = some .stream ∧ start.toNat < (s.page page.toNat).base then
        s.answer tag 0x10#8 .badParameter []
      else if 4 ≤ s.link.reads.length then s.answer tag 0x10#8 .queueFull []
      else (s.accept tag 0x10#8).startRead page.toNat start.toNat count.toNat := by
  have range : (s.page page.toNat).readRange = (16383, 16384) := if_neg (by simp [image])
  unfold State.doReadPage
  dsimp only
  rw [if_neg (by omega), awake, if_neg (by exact Bool.false_ne_true), if_neg used, range]
  rfl

/-- R147: the entry of a read just asked for. -/
abbrev ReadEntry.asked (p first n : Nat) : ReadEntry := { page := p, start := first, count := n, cursor := first, placed := 0 }

theorem State.consume_short {p : Nat} {r : PageRec} (record : s.page p = r)
    (short : r.committed < r.base + r.bandUnit ∨ r.mark < r.base + r.bandUnit) (n : Nat) : s.consume p n = s :=
  State.consume_stop (by rw [record]; exact short) n

/-- R147: a read that joins others; a STREAM page's mark consumes nothing. -/
theorem State.startRead_behind {p first n : Nat} {r : PageRec} (awake : s.power.sleepPending = none)
    (run : s.power.state = .run) (behind : s.link.reads ≠ []) (inside : p < 32)
    (held : (s.withReads (s.link.reads ++ [.asked p first n])).addHold p .link first =
      (s.withReads (s.link.reads ++ [.asked p first n])).withPage p r)
    (kept : r.mode = some .stream → r.committed < r.base + r.bandUnit ∨ r.mark < r.base + r.bandUnit) :
    s.startRead p first n = { s with
      store := s.store.withPage p r
      link := { s.link with reads := s.link.reads ++ [.asked p first n] }
      power := s.power.busied } := by
  unfold State.startRead
  dsimp only
  rw [held, State.jobAccepted_run (by exact awake) (by exact run), if_neg behind]
  split
  · next stream =>
    have page := fun x : State => State.page_put (s := x) (y := s.store) (p := p) (r := r) inside
    have mode : r.mode = some .stream := (congrArg PageRec.mode (page _ rfl)).symm.trans stream
    exact State.consume_short (page _ rfl) (kept mode) _
  · rfl

/-! ### CANCEL READ (R151, R162) -/

theorem exec_cancelRead (takes : s.takesCommand = true) :
    exec (.cancelRead tag page) s = .next (s.doCancelRead tag page).settled := congrArg Host.Outcome.next (if_pos takes)

/-- R151: the second of two entries is cancelled while the first one's record stands in the read buffer. -/
theorem State.cancelReads_second {p : Nat} {e0 e1 : ReadEntry} (inside : p < 32) (queue : s.link.reads = [e0, e1])
    (first : e0.page ≠ p) (second : e1.page = p) :
    s.cancelReads p = (((s.withReads [e0]).choose).dropRead e1).readOn := by
  have other : matchesPage p e0.page = false := by rw [matchesPage_inside inside]; exact beq_eq_false_iff_ne.mpr first.symm
  have same : matchesPage p e1.page = true := by rw [matchesPage_inside inside, second]; exact beq_self_eq_true p
  unfold State.cancelReads
  rw [queue]
  simp only [List.filter_cons, other, same, List.filter_nil]
  rw [if_neg (by simp [other])]
  rfl

theorem State.readMatches_second {p : Nat} {e0 e1 : ReadEntry} (inside : p < 32) (queue : s.link.reads = [e0, e1])
    (first : e0.page ≠ p) (second : e1.page = p) : s.readMatches p = 1 := by
  unfold State.readMatches
  rw [queue]
  simp [matchesPage_inside inside, first.symm, second]

/-- R148: with a record in the read buffer no other is begun. -/
theorem State.readOn_occupied (occupied : s.link.readBuf.status ≠ .empty) : s.readOn = s := by
  unfold State.readOn State.readBegin
  split
  · rfl
  · exact if_pos occupied

/-- R151: an entry leaves its page, which is not released with it. -/
theorem State.dropRead_standing {e : ReadEntry} {r : PageRec} (inside : e.page < 32) (record : s.page e.page = r)
    (stays : r.leftByRead.mayRelease = false) (room : s.link.room 1) :
    State.Reports (s.withPage e.page r.leftByRead) [.readDone e.page e.placed true] (s.dropRead e) := by
  have raised := State.Reports.one (s := s.withPage e.page r.leftByRead) (e := .readDone e.page e.placed true) room
  have page : State.page (State.raise (s.withPage e.page r.leftByRead) (.readDone e.page e.placed true)) e.page = r.leftByRead := by
    obtain ⟨c, told⟩ := raised
    rw [told]
    exact State.page_withPage _ inside
  have standing : State.autoRelease (State.raise (s.withPage e.page r.leftByRead) (.readDone e.page e.placed true)) e.page =
      State.raise (s.withPage e.page r.leftByRead) (.readDone e.page e.placed true) :=
    if_neg (by rw [page, stays]; exact Bool.false_ne_true)
  unfold State.dropRead
  rw [State.dropHold_link record, standing]
  exact raised

/-- R151, R162: CANCEL READ of the second of two entries. -/
theorem next_cancelRead_second {e0 e1 : ReadEntry} {r : PageRec} (takes : s.takesCommand = true)
    (awake : s.power.sleepPending = none) (inside : page.toNat < 32) (queue : s.link.reads = [e0, e1])
    (first : e0.page ≠ page.toNat) (second : e1.page = page.toNat) (record : s.page page.toNat = r)
    (stays : r.leftByRead.mayRelease = false) (occupied : s.link.readBuf.status ≠ .empty) (room : s.link.room 1) :
    ∃ t, exec (.cancelRead tag page) s = .next t ∧ t = { s with
      store := s.store.withPage page.toNat r.leftByRead
      link := (({ s.link with reads := [e0] } : Link).replied tag 0x11#8 .accepted [1#8] none).reported
        [.readDone page.toNat e1.placed true] t.link.chosen
      power := s.power.timed t.power } := by
  have step := exec_cancelRead (tag := tag) (page := page) takes
  obtain ⟨l, answered⟩ := State.answer_replies (s := s) (tag := tag) (kind := 0x11#8) (code := .accepted) (data := [1#8])
  have cancelled : s.doCancelRead tag page = (s.answer tag 0x11#8 .accepted [1#8]).cancelReads page.toNat := by
    unfold State.doCancelRead
    rw [State.readMatches_second inside queue first second, if_neg (by omega), if_neg (by simp)]
    rfl
  rw [cancelled, answered, State.cancelReads_second inside (by exact queue) first second, State.choose_eq] at step
  generalize State.choose _ = y at step
  have dropped := State.dropRead_standing (e := e1) (r := r) (s := { s with
      link := { ({ s.link with reads := [e0] } : Link).replied tag 0x11#8 .accepted [1#8] none with chosen := y.link.chosen } })
    (by rw [second]; exact inside) (by rw [second]; exact record) stays room
  rw [second] at dropped
  obtain ⟨c, told⟩ := dropped
  have occupied' : (State.dropRead { s with
      link := { ({ s.link with reads := [e0] } : Link).replied tag 0x11#8 .accepted [1#8] none with chosen := y.link.chosen } }
      e1).link.readBuf.status ≠ .empty := by rw [told]; exact occupied
  have rested := (State.readOn_occupied occupied').trans told
  exact next_reports (step.trans (congrArg (fun x : State => Host.Outcome.next x.settled) rested)) ⟨c, rfl⟩ awake

/-- Settles O52: the checks of R162 and R173, and what the queue's entries do to their pages. -/
theorem readQueue : Obligations.ReadQueue := by
  unfold Obligations.ReadQueue
  refine ⟨?_, ?_⟩
  case refine_1 =>
    intro tag page start count s takes run awake inside image keep p r
    have woken : s.entering = false := State.entering_awake (.inl run)
    have unstreamed : r.mode ≠ some .stream := by rw [keep]; decide
    refine ⟨?_, ?_, ?_⟩
    · intro used low short behind room
      have step := exec_readPage (tag := tag) (page := page) (start := start) (count := count) takes
      obtain ⟨l, accepted⟩ := State.accept_replies (s := s) (tag := tag) (kind := 0x10#8)
      rw [State.doReadPage_image inside woken used image, if_neg (by omega), if_neg (fun h => unstreamed h.1),
        if_neg (fun h => unstreamed h.1), if_neg (Nat.not_le.mpr room), accepted, State.startRead_behind (s := s.acked tag 0x10#8 l)
        awake run behind inside (State.addHold_linkKeep (r := r) rfl keep) (fun h => absurd h unstreamed)] at step
      exact ⟨_, next_settled step awake, rfl⟩
    · intro used beyond
      have step := exec_readPage (tag := tag) (page := page) (start := start) (count := count) takes
      rw [State.doReadPage_image inside woken used image, if_pos (.inl beyond)] at step
      exact next_refusal step awake
    · intro e0 e1 queue first second retained occupied room
      rw [← PageRec.leftByRead_keep keep]
      exact next_cancelRead_second takes awake inside queue first second rfl
        (by
          have kept : (s.page page.toNat).retain = some true := retained
          rw [PageRec.leftByRead_keep keep]
          simp [PageRec.mayRelease, keep, kept]) occupied room
  case refine_2 =>
    intro tag page start count s takes run awake inside image stream used low short p r
    have woken : s.entering = false := State.entering_awake (.inl run)
    have step := exec_readPage (tag := tag) (page := page) (start := start) (count := count) takes
    rw [State.doReadPage_image inside woken used image, if_neg (by omega)] at step
    have unit : r.bandUnit = 32 := if_neg (by simp [r, p, image])
    refine ⟨?_, ?_, ?_, ?_⟩
    · intro unconsumed based behind room kept
      obtain ⟨l, accepted⟩ := State.accept_replies (s := s) (tag := tag) (kind := 0x10#8)
      rw [if_neg (fun h => Option.isSome_iff_ne_none.mp h.2 unconsumed), if_neg (fun h => Nat.not_lt.mpr based h.2),
        if_neg (Nat.not_le.mpr room), accepted, State.startRead_behind (s := s.acked tag 0x10#8 l) awake run behind inside
        (State.addHold_linkStream (r := r) rfl stream) (fun _ => by
          change r.committed < r.base + r.bandUnit ∨ start.toNat < r.base + r.bandUnit
          rw [unit]
          exact kept.symm)] at step
      exact ⟨_, next_settled step awake, rfl⟩
    · intro unconsumed before
      rw [if_neg (fun h => Option.isSome_iff_ne_none.mp h.2 unconsumed), if_pos ⟨stream, before⟩] at step
      exact next_refusal step awake
    · intro consumed
      rw [if_pos ⟨stream, Option.isSome_iff_ne_none.mpr consumed⟩] at step
      exact next_refusal step awake
    · intro e0 e1 queue first second _ standing occupied room
      have stays : ({ r with linkHold := r.linkHold - 1, consumer := none } : PageRec).mayRelease = false := by
        rcases standing with open_ | held | held | unread
        · simp [PageRec.mayRelease, r, p, open_]
        · have held : r.linkHold - 1 ≠ 0 := by omega
          simp [PageRec.mayRelease, held]
        · have held : r.printHold ≠ 0 := by omega
          simp [PageRec.mayRelease, held]
        · have unread : ¬r.committed ≤ r.mark := Nat.not_le.mpr unread
          have mode : r.mode = some .stream := stream
          simp [PageRec.mayRelease, unread, mode]
      rw [← PageRec.leftByRead_stream stream] at stays ⊢
      exact next_cancelRead_second takes awake inside queue first second rfl stays occupied room

end

end Sys2Proof.Machine

/-! # The start of a copy (O46) -/

namespace Sys2Proof.Machine

section

variable {s t u : State} {tag : Byte}

/-! ### The fetch of a line (R76) -/

theorem State.submit_busy {q : Request} {a : Activity} (active : s.dram.state = .active) (busy : s.dram.current = some a) :
    s.submit q = { s with
      dram := { s.dram with
        waiting := s.dram.waiting ++ [{ q with afterOrder := s.dram.sleepOrder }]
        autoTimer := none } } :=
  congrArg s.withDram (Dram.submit_busy s.now (s.tables.p Param.srExitTime) q active busy)

theorem State.printPage_eq {e : PrintEntry} {es : List PrintEntry} (queue : s.print.queue = e :: es) :
    s.printPage = s.page e.page := by
  unfold State.printPage
  rw [queue]

theorem State.printPageNo_eq {e : PrintEntry} {es : List PrintEntry} (queue : s.print.queue = e :: es) :
    s.printPageNo = e.page := by
  unfold State.printPageNo
  rw [queue]
  rfl

theorem State.requestFetch_submits {e : PrintEntry} {es : List PrintEntry} {r : PageRec} {b : Band} (queue : s.print.queue = e :: es)
    (record : s.page e.page = r) (band : r.bandOfLine s.print.copy.fetch.line = some b)
    (alone : s.dram.lingering .printFetch = false) :
    s.requestFetch = s.submit (lineRequest .printFetch e.page s.print.copy.fetch.line (r.width.getD 0) b [] none) := by
  unfold State.requestFetch
  rw [State.printPage_eq queue, State.printPageNo_eq queue, record]
  dsimp only
  rw [band]
  exact if_neg (by rw [alone]; exact Bool.false_ne_true)

/-- R76: the line at the cursor is committed, and its fetch is requested while the controller is busy. -/
theorem State.fetchNow_committed {e : PrintEntry} {es : List PrintEntry} {r : PageRec} {b : Band} {a : Activity}
    (queue : s.print.queue = e :: es) (record : s.page e.page = r) (ready : e.cursor < r.committed)
    (band : r.bandOfLine e.cursor = some b) (alone : s.dram.lingering .printFetch = false) (active : s.dram.state = .active)
    (busy : s.dram.current = some a) : s.fetchNow = { s with
      dram := { s.dram with
        waiting := s.dram.waiting ++
          [{ lineRequest .printFetch e.page e.cursor (r.width.getD 0) b [] none with afterOrder := s.dram.sleepOrder }]
        autoTimer := none }
      print := { s.print with
        queue := { e with cursor := e.cursor + 1 } :: es
        copy := { s.print.copy with fetch := { FetchBuf.none with status := .requested, line := e.cursor } } } } := by
  subst record
  unfold State.fetchNow
  rw [queue]
  dsimp only
  rw [if_pos ready]
  have requested := State.requestFetch_submits (s := s.withPrint { s.print with
      queue := { e with cursor := e.cursor + 1 } :: es
      copy := { s.print.copy with fetch := { FetchBuf.none with status := .requested, line := e.cursor } } })
    (e := { e with cursor := e.cursor + 1 }) (r := s.page e.page) (b := b) rfl rfl band alone
  have entered : s.withEntry { e with cursor := e.cursor + 1 } =
      s.withPrint { s.print with queue := { e with cursor := e.cursor + 1 } :: es } := by
    unfold State.withEntry
    rw [queue]
    rfl
  rw [entered]
  exact requested.trans (State.submit_busy active busy)

/-- R30: where no transfer of a class runs, none is disowned. -/
theorem Dram.disown_absent {c : ReqClass} {d : Dram} (ending : d.ending c = none) : d.disown (fun q => q.cls == c) = d := by
  unfold Dram.disown
  unfold Dram.ending at ending
  split
  · next q e current =>
    rw [current] at ending
    have other : ¬q.cls = c := fun same => by
      dsimp only at ending
      rw [if_pos same] at ending
      cases ending
    exact if_neg (by simpa using other)
  · rfl

/-- R87: with no fetch on its way and a KEEP page, the buffers are emptied and the cursor goes to its start. -/
theorem State.resetCursor_none {e : PrintEntry} {es : List PrintEntry} (queue : s.print.queue = e :: es)
    (keep : (s.page e.page).mode = some .keep) (absent : ∀ q ∈ s.dram.waiting, q.cls ≠ .printFetch)
    (ending : s.dram.ending .printFetch = none) : s.resetCursor = s.withPrint { s.print with
      queue := { e with cursor := 0 } :: es
      copy := { s.print.copy with shift := ShiftBuf.none, fetch := FetchBuf.none } } := by
  have withdrawn : s.withdraw .printFetch = s := by
    unfold State.withdraw
    rw [Dram.withdraw_none absent]
    rfl
  unfold State.resetCursor State.dropFetch State.disown
  rw [withdrawn, Dram.disown_absent ending]
  simp only [State.withCopy, State.withPrint, State.withDram, State.withEntry, queue]
  rw [if_neg (by
    change ¬(s.page e.page).mode = _
    rw [keep]
    decide)]
  rfl

/-! ### The start of a copy (R73, R74) -/

/-- R73: the copy's record at its start, before its first fetch. -/
abbrev CopyRec.started (c : CopyRec) (r : PageRec) (first : Nat) : CopyRec :=
  { c with
    state := .idle
    pause := none
    suspend := none
    leadRun := false
    stopping := false
    cancelPending := false
    abandon := .kept
    steps := r.res.printSteps
    repeats := r.res.repeats
    startLine := first
    shift := ShiftBuf.none
    fetch := FetchBuf.none
    exhausted := false
    printed := 0
    startEnds := none
    heldMove := none
    rested := false
    cutEnds := none }

/-- R74: the move that a copy asks of channel P. -/
abbrev Tables.printMove (t : Tables) (r : PageRec) : MoveReq :=
  { owner := .print
    ask := .open_
    steps := r.res.printSteps
    cruise := t.p r.res.cruiseP
    floor := shiftFloor (t.p Param.headWidth) r.res.printSteps }

/-- R73, R74, R76: the state in which a copy of a CLOSED page has entered LEAD, its first line being fetched. -/
abbrev State.leading (s : State) (e : PrintEntry) (es : List PrintEntry) (r : PageRec) (b : Band) : State :=
  { s with
    dram := { s.dram with
      waiting := s.dram.waiting ++
        [{ lineRequest .printFetch e.page e.cursor (r.width.getD 0) b [] none with afterOrder := s.dram.sleepOrder }]
      autoTimer := none }
    motP := s.motP.take s.tables .p s.now 0 (s.tables.printMove r)
    print := { s.print with
      queue := { e with cursor := e.cursor + 1 } :: es
      hpwr := true
      copy := { s.print.copy.started r e.cursor with
        fetch := { FetchBuf.none with status := .requested, line := e.cursor }
        state := .lead
        leadRun := true
        leadLeft := s.tables.p Param.printLead } } }

theorem State.startCopy_leads {e : PrintEntry} {es : List PrintEntry} {r : PageRec} {b : Band} {a : Activity} {checked : Bool}
    (queue : s.print.queue = e :: es) (record : s.page e.page = r) (closed : r.state = .closed) (ready : e.cursor < r.committed)
    (band : r.bandOfLine e.cursor = some b) (fit : checked = true ∨ s.active Input.coverOpen = false ∧
      s.active Input.paperOut = false) (quiet : s.print.seq = .idle) (rest : s.motP.atRest = true)
    (alone : s.dram.lingering .printFetch = false) (active : s.dram.state = .active) (busy : s.dram.current = some a) :
    s.startCopy checked = s.leading e es r b := by
  subst record
  have fetched := State.fetchNow_committed (s := s.withCopy (s.print.copy.started (s.page e.page) e.cursor)) (r := s.page e.page)
    queue rfl ready band alone active busy
  have lead : ∀ x : State, x.print.queue = { e with cursor := e.cursor + 1 } :: es → x.print.seq = .idle → x.motP = s.motP →
      x.page e.page = s.page e.page → x.print.copy.steps = (s.page e.page).res.printSteps →
      x.enterLead = { x with
        motP := s.motP.take x.tables .p x.now 0 (x.tables.printMove (s.page e.page))
        print := { x.print with
          hpwr := true
          copy := { x.print.copy with
            state := .lead, pause := none, leadRun := true, leadLeft := x.tables.p Param.printLead } } } :=
    fun x queued idle still page steps => by
      have printed : State.printPage (x.withPrint { x.print with
          hpwr := true
          copy := { x.print.copy with state := .lead, pause := none, leadRun := true, leadLeft := x.tables.p Param.printLead } }) =
          s.page e.page := by
        unfold State.printPage
        rw [State.withPrint_print, queued]
        exact page
      unfold State.enterLead State.printMove State.copyShiftFloor
      dsimp only
      rw [if_pos (by exact idle), printed, State.requestMove_rest (m := .p) (by exact (congrArg Channel.atRest still).trans rest)]
      dsimp only [State.withPrint_print]
      rw [steps]
      change State.withMotP _ (x.motP.take _ _ _ _ _) = _
      rw [still]
      rfl
  unfold State.startCopy
  rw [queue]
  dsimp only
  rw [if_neg (by rcases fit with rfl | ⟨shut, _⟩ <;> simp [*]), if_neg (by rcases fit with rfl | ⟨_, paper⟩ <;> simp [*]), fetched,
    if_neg (by rw [closed]; simp)]
  exact (lead _ (by rfl) (by exact quiet) (by rfl) (by rfl) (by rfl)).trans rfl

/-! ### RESUME PRINT (R88, R177) -/

theorem exec_resumePrint (takes : s.takesCommand = true) : exec (.resumePrint tag) s = .next (s.doResumePrint tag).settled :=
  congrArg Host.Outcome.next (if_pos takes)

theorem State.doResumePrint_accepted (awake : s.entering = false) (suspended : s.print.copy.state = .suspended)
    (shut : s.active Input.coverOpen = false) (paper : s.active Input.paperOut = false) :
    s.doResumePrint tag = (((s.accept tag 0x0E#8).jobAccepted).resetCursor).startCopy true := by
  unfold State.doResumePrint
  rw [awake, if_neg (by exact Bool.false_ne_true), if_neg (not_not.mpr suspended), shut, if_neg (by exact Bool.false_ne_true), paper,
    if_neg (by exact Bool.false_ne_true)]

/-- Settles O46: both ways into R73's start of a copy. -/
theorem copyStarts : Obligations.CopyStarts := by
  unfold Obligations.CopyStarts
  intro tag e es b s queue inside closed keep lines band cursor shut paper quiet rest active busy alone absent ending r leading
  obtain ⟨a, busy⟩ := busy
  obtain ⟨p, copies, done, at_⟩ := e
  obtain rfl : at_ = 0 := cursor
  refine ⟨?_, ?_⟩
  case refine_1 =>
    intro takes run awake suspended
    have step := exec_resumePrint (tag := tag) takes
    obtain ⟨l, accepted⟩ := State.accept_replies (s := s) (tag := tag) (kind := 0x0E#8)
    have reset := State.resetCursor_none (s := (s.acked tag 0x0E#8 l).withPower s.power.busied) queue keep absent ending
    have leads := State.startCopy_leads (checked := true) (r := r) (s := State.withPrint
      ((s.acked tag 0x0E#8 l).withPower s.power.busied)
      { s.print with
        queue := ⟨p, copies, done, 0⟩ :: es
        copy := { s.print.copy with shift := ShiftBuf.none, fetch := FetchBuf.none } })
      rfl rfl closed lines band (.inl rfl) quiet rest alone active busy
    rw [State.doResumePrint_accepted (State.entering_awake (.inl run)) suspended shut paper, accepted,
      State.jobAccepted_run (s := s.acked tag 0x0E#8 l) awake run] at step
    have step := step.trans (congrArg (fun x : State => Host.Outcome.next (x.startCopy true).settled) reset)
    have step := step.trans (congrArg (fun x : State => Host.Outcome.next x.settled) leads)
    refine ⟨_, next_settled step awake, ⟨rfl, rfl, rfl, rfl, rfl, rfl, rfl, rfl, rfl, rfl, rfl, rfl, rfl⟩, rfl⟩
  case refine_2 =>
    intro d starting due
    have step : exec .printStartingEnd s = .next ((s.at d).startCopy false) := by
      change execPrintStartingEnd s = _
      unfold execPrintStartingEnd
      rw [starting, due]
    have leads := State.startCopy_leads (checked := false) (r := r) (s := s.at d) queue rfl closed lines band (.inr ⟨shut, paper⟩)
      quiet rest alone active busy
    have step := step.trans (congrArg Host.Outcome.next leads)
    refine ⟨_, step, ⟨rfl, rfl, rfl, rfl, rfl, rfl, rfl, rfl, rfl, rfl, rfl, rfl, rfl⟩, rfl⟩

end

end Sys2Proof.Machine

/-! # FEED, and a channel's settle, gap and hold (O53) -/

namespace Sys2Proof.Machine

section

variable {s t u : State} {tag channel : Byte} {m : Motor} {n : Half} {d : Nat}

/-! ### A channel's record replaced (R133) -/

theorem State.withMot_frame (c : Channel) (l : Link) (p : Power) :
    State.withMot { s with link := l, power := p } m c = { s.withMot m c with link := l, power := p } := by
  cases m
  · unfold State.withMot
    dsimp only
    split <;> rfl
  · rfl

theorem State.mot_frame (l : Link) (p : Power) : State.mot { s with link := l, power := p } m = s.mot m := by cases m <;> rfl

theorem State.requestMove_frame (k : Nat) (r : MoveReq) (l : Link) (p : Power) :
    State.requestMove { s with link := l, power := p } m k r = { s.requestMove m k r with link := l, power := p } := by
  unfold State.requestMove
  cases m <;> exact State.withMot_frame (s := s) ..

theorem exec_feed (takes : s.takesCommand = true) : exec (.feed tag channel n) s = .next (s.doFeed tag channel n).settled :=
  congrArg Host.Outcome.next (if_pos takes)

/-- R109, R122: the move that a FEED asks of its channel. -/
abbrev Tables.feedMove (t : Tables) (n : Nat) : MoveReq :=
  { owner := .feed, ask := .counted n, steps := 1, cruise := t.p Param.cruiseFeed, floor := 0 }

theorem Channel.atRest_iff {c : Channel} : c.atRest = true ↔ c.state = .off ∨ c.state = .hold := by
  simp [Channel.atRest]

/-- R122: a FEED taken in RUN. -/
theorem State.doFeed_run (motor : motorOf channel = some m) (some_ : n ≠ 0#16) (awake : s.power.sleepPending = none)
    (run : s.power.state = .run) (shut : s.active Input.coverOpen = false) (idle : s.unitIdle m = true)
    (rest : (s.mot m).atRest = true) : ∃ l, s.doFeed tag channel n =
      { s.withMot m ((s.mot m).take s.tables m s.now 0 (s.tables.feedMove n.toNat)) with
        link := s.link.replied tag 0x14#8 .accepted [] l
        power := s.power.busied } := by
  obtain ⟨l, accepted⟩ := State.accept_replies (s := s) (tag := tag) (kind := 0x14#8)
  have steps : n.toNat ≠ 0 := fun zero => some_ (BitVec.eq_of_toNat_eq zero)
  have woken : s.entering = false := State.entering_awake (.inl run)
  refine ⟨l, ?_⟩
  unfold State.doFeed
  rw [motor]
  dsimp only
  rw [if_neg steps, woken, if_neg (by exact Bool.false_ne_true), shut, if_neg (by exact Bool.false_ne_true), idle,
    if_neg (by simp), rest, if_neg (by simp), accepted]
  unfold State.startFeed
  dsimp only
  rw [if_neg (by simp [run]), State.jobAccepted_run (s := s.acked tag 0x14#8 l) awake run,
    ← State.requestMove_rest rest]
  exact State.requestMove_frame (s := s) ..

theorem State.doFeed_coverOpen (motor : motorOf channel = some m) (some_ : n ≠ 0#16) (awake : s.entering = false)
    (open_ : s.active Input.coverOpen = true) : s.doFeed tag channel n = s.answer tag 0x14#8 .coverOpen [] := by
  have steps : n.toNat ≠ 0 := fun zero => some_ (BitVec.eq_of_toNat_eq zero)
  unfold State.doFeed
  rw [motor]
  dsimp only
  rw [if_neg steps, awake, if_neg (by exact Bool.false_ne_true), if_pos open_]
  rfl

theorem roundUp_one (k : Nat) : roundUp k 1 = k := by simp [roundUp]

/-! ### The timers of a channel (R107, R110, R119, R122) -/

theorem exec_settleEnd (state : (s.mot m).state = .settle) (due : (s.mot m).settleEnds = some d) :
    exec (.settleEnd m) s = .next ((s.at d).withMot m (((s.at d).mot m).firstInterval s.tables m (max s.now d))) := by
  change execSettleEnd m s = _
  unfold execSettleEnd
  rw [state, due]
  rfl

theorem exec_feedPowerSettleEnd (state : (s.mot m).state = .settle) (due : (s.mot m).powerEnds = some d) :
    exec (.feedPowerSettleEnd m) s = .next ((s.at d).withMot m (((s.at d).mot m).beginSettle s.tables m (max s.now d))) := by
  change execFeedPowerSettleEnd m s = _
  unfold execFeedPowerSettleEnd
  rw [state, due]
  rfl

theorem exec_nonoverlapGapEnd {g : Gap} {left : List Gap} (gaps : (s.mot m).gaps = g :: left) :
    exec (.nonoverlapGapEnd m) s = .next ((s.at g.endsAt).withMot m (((s.at g.endsAt).mot m).gapOver g left)) := by
  change execNonoverlapGapEnd m s = _
  unfold execNonoverlapGapEnd
  rw [gaps]

theorem exec_holdTimeout (state : (s.mot m).state = .hold) (due : (s.mot m).holdTimer = some d) :
    exec (.holdTimeout m) s = .next ((s.at d).withMot m ((s.at d).mot m).switchOff).settled := by
  change execHoldTimeout m s = _
  unfold execHoldTimeout
  rw [state, due]

theorem Channel.firstInterval_floorless {c : Channel} {t : Tables} {now : Nat} (floor : c.floor = 0) :
    c.firstInterval t m now = { c with
      state := .accel
      settleEnds := none
      powerEnds := none
      index := 0
      interval := some { length := t.rampAt m 0, endsAt := now + 20 * t.rampAt m 0 } } := by
  unfold Channel.firstInterval Channel.decide
  dsimp only
  rw [floor, Nat.max_zero]
  rfl

theorem Channel.beginSettle_waits {c : Channel} {t : Tables} {now : Nat} (settles : c.settleMs ≠ 0) :
    c.beginSettle t m now = { c with
      state := .settle
      powerEnds := none
      settleEnds := some (now + 20000 * c.settleMs)
      coils := t.phase m c.phase
      gaps := [] } := by
  unfold Channel.beginSettle
  exact if_neg settles

theorem State.at_mot : (s.at d).mot m = s.mot m := by cases m <;> rfl

/-- R122: the record of a FEED's move as it is taken. -/
abbrev Channel.fed (c : Channel) (t : Tables) (m : Motor) (k : Nat) : Channel :=
  { c with
    owner := .feed
    move := some .counted
    steps := 1
    cruise := min (t.p Param.cruiseFeed) (t.rampLength m - 1)
    index := 0
    remaining := some k
    position := 0
    floor := 0
    stop := .nostop
    held := none
    holdTimer := none
    halfStep := t.stepMode m == 1
    settleMs := t.settleMs m }

theorem Channel.take_feedOff {c : Channel} {t : Tables} {now k : Nat} (off : c.state = .off) (settles : t.settleMs m ≠ 0) :
    c.take t m now 0 (t.feedMove k) = { c.fed t m k with
      state := .settle
      settleEnds := some (now + 20000 * t.settleMs m)
      powerEnds := none
      coils := t.phase m c.phase
      gaps := [] } := by
  have begun := Channel.beginSettle_waits (m := m) (t := t) (now := now) (c := c.fed t m k) settles
  unfold Channel.take
  dsimp only
  rw [if_neg (by rw [off]; decide), if_pos rfl, roundUp_one]
  exact begun

theorem Channel.take_feedHold {c : Channel} {t : Tables} {now k : Nat} (hold : c.state = .hold) :
    c.take t m now 0 (t.feedMove k) = { c.fed t m k with
      state := .accel
      settleEnds := none
      powerEnds := none
      interval := some { length := t.rampAt m 0, endsAt := now + 20 * t.rampAt m 0 } } := by
  have begun := Channel.firstInterval_floorless (m := m) (t := t) (now := now) (c := c.fed t m k) rfl
  unfold Channel.take
  dsimp only
  rw [if_pos hold, roundUp_one]
  exact begun

/-- Settles O53: a FEED in RUN from OFF and from HOLD, and each timer of a channel. -/
theorem feedMoves : Obligations.FeedMoves := by
  unfold Obligations.FeedMoves
  intro tag channel m n d s motor some_ ch cruise first energised
  refine ⟨?_, ?_, ?_, ?_, ?_, ?_, ?_⟩
  case refine_1 =>
    intro takes run awake shut idle off settles
    have step := exec_feed (tag := tag) (channel := channel) (n := n) takes
    obtain ⟨l, fed⟩ := State.doFeed_run (tag := tag) motor some_ awake run shut idle
      (Channel.atRest_iff.mpr (.inl off))
    rw [fed, Channel.take_feedOff off settles] at step
    exact ⟨_, next_settled step awake, rfl⟩
  case refine_2 =>
    intro takes run awake shut idle hold
    have step := exec_feed (tag := tag) (channel := channel) (n := n) takes
    obtain ⟨l, fed⟩ := State.doFeed_run (tag := tag) motor some_ awake run shut idle
      (Channel.atRest_iff.mpr (.inr hold))
    rw [fed, Channel.take_feedHold hold] at step
    have taken : ∀ c l p, State.mot { s.withMot m c with link := l, power := p } m = c := fun c l p =>
      (State.mot_frame l p).trans (State.mot_withMot s m c)
    refine ⟨_, next_settled step awake, ?_⟩
    rw [taken, Nat.max_zero]
    exact ⟨rfl, rfl, rfl, rfl, rfl, rfl, rfl, State.withMot_store .., State.withMot_mem .., State.withMot_tables ..,
      State.withMot_dram .., State.withMot_scan .., State.withMot_print .., rfl⟩
  case refine_3 =>
    intro takes run awake open_
    have step := exec_feed (tag := tag) (channel := channel) (n := n) takes
    rw [State.doFeed_coverOpen motor some_ (State.entering_awake (.inl run)) open_] at step
    exact next_refusal step awake
  case refine_4 =>
    intro state due floor
    have step := exec_settleEnd state due
    rw [State.at_mot, Channel.firstInterval_floorless floor] at step
    exact step
  case refine_5 =>
    intro state due settles
    have step := exec_feedPowerSettleEnd state due
    rw [State.at_mot, Channel.beginSettle_waits settles, ← state] at step
    exact step
  case refine_6 =>
    intro g left gaps
    have step := exec_nonoverlapGapEnd gaps
    rw [State.at_mot] at step
    exact step
  case refine_7 =>
    intro state due awake
    have step := exec_holdTimeout state due
    rw [State.at_mot] at step
    exact ⟨_, next_settled step (by rw [State.withMot_power]; exact awake), by rw [State.withMot_power]; rfl⟩

end

end Sys2Proof.Machine

/-! # Step events (O54) -/

namespace Sys2Proof.Machine

section

variable {s t u : State} {m : Motor} {c : Channel} {pin : Bool} {iv : Interval}

/-! ### The advance of a channel (R107, R111) -/

theorem Channel.drive_eq {t : Tables} {now : Nat} {pattern : BitVec 4} : c.drive t m now pattern = { c with
    coils := (c.drive t m now pattern).coils
    gaps := (c.drive t m now pattern).gaps } := by
  unfold Channel.drive
  dsimp only
  split <;> rfl

/-- R107: the coils newly wanted wait for the gap, if there is one. -/
theorem Channel.drive_coils {t : Tables} {now : Nat} {pattern newly : BitVec 4} (new_ : pattern &&& ~~~c.coils = newly) :
    (c.drive t m now pattern).coils = (if t.nonoverlap m = 0 ∨ newly = 0#4 then pattern else c.coils &&& pattern) ∧
      (c.drive t m now pattern).gaps = if t.nonoverlap m = 0 ∨ newly = 0#4 then []
        else [{ coils := newly, endsAt := now + 20 * t.nonoverlap m }] := by
  subst new_
  unfold Channel.drive
  dsimp only
  split <;> exact ⟨rfl, rfl⟩

/-- R107: the phase index after a step. -/
abbrev Channel.nextPhase (c : Channel) : Nat := (c.phase + (if c.halfStep = true then 1 else 2)) % 8

/-- R111: what the advance of a channel changes: its phase, its coils, its position and its count. -/
theorem Channel.advance_eq {t : Tables} {now : Nat} : c.advance t m now = { c with
    phase := c.nextPhase
    position := (c.position + 1) % c.steps
    remaining := c.remaining.map (· - 1)
    coils := (c.advance t m now).coils
    gaps := (c.advance t m now).gaps } :=
  congrArg (fun d : Channel => { d with position := (d.position + 1) % d.steps, remaining := d.remaining.map (· - 1) })
    (Channel.drive_eq (c := { c with phase := c.nextPhase }) (pattern := t.phase m c.nextPhase))

theorem Channel.goOn_moving {t : Tables} {now : Nat} : (c.goOn t m now).moving = true := by
  have states : c.nextIndex.2 = .accel ∨ c.nextIndex.2 = .run ∨ c.nextIndex.2 = .decel := by
    unfold Channel.nextIndex
    repeat' split
    all_goals simp
  unfold Channel.goOn Channel.decide Channel.moving
  dsimp only
  rcases states with state | state | state <;> rw [state] <;> rfl

/-! ### A step event before its owner is told (R111, R133) -/

/-- R133: DOC_EDGE sampled at its level by a step. -/
abbrev Monitor.sampled (m : Monitor) : Monitor :=
  { m with inputs := m.inputs.setIfInBounds Input.docEdge { m.input Input.docEdge with count := 0 } }

/-- R111: channel S advanced at a time. -/
abbrev State.steppedS (s : State) (at_ : Nat) : State :=
  { s with now := at_, motS := s.motS.advance s.tables .s at_, mon := s.mon.sampled }

/-- R111: channel P advanced at a time. -/
abbrev State.steppedP (s : State) (at_ : Nat) : State := { s with now := at_, motP := s.motP.advance s.tables .p at_ }

theorem InputRec.take_same {r : InputRec} {need : Nat} {v : Bool} (level : r.level = some v) : r.take need v = { r with count := 0 } := by
  obtain ⟨_, _, _⟩ := r
  cases level
  exact if_pos rfl

theorem State.edgeStep_same {v : Bool} (level : (s.mon.input Input.docEdge).level = some v) :
    s.edgeStep v = s.withMon s.mon.sampled := by
  have taken := InputRec.take_same (need := 2) level
  have same : levelChanged (s.mon.input Input.docEdge) { s.mon.input Input.docEdge with count := 0 } = false := by
    unfold levelChanged
    rw [level]
    exact bne_self_eq_false v
  unfold State.edgeStep
  dsimp only
  rw [taken, same]
  rfl

theorem exec_stepEvent (moving : (s.mot m).moving = true) (interval : (s.mot m).interval = some iv) :
    exec (.stepEvent m pin) s = .next ((s.at iv.endsAt).stepNow m (!pin)).settled := by
  change execStepEvent m pin s = _
  unfold execStepEvent
  rw [interval]
  exact congrArg Host.Outcome.next (if_pos moving)

/-- R111, R133: a step event of channel S with DOC_EDGE at its level. -/
theorem exec_stepEventS (moving : s.motS.moving = true) (interval : s.motS.interval = some iv)
    (level : (s.mon.input Input.docEdge).level = some (!pin)) : exec (.stepEvent .s pin) s =
      .next (((s.steppedS (max s.now iv.endsAt)).tellStep .s (!pin)).finishStep .s (s.motS.stop == .pending)).settled := by
  have advanced : (s.at iv.endsAt).withMot .s (s.motS.advance s.tables .s (max s.now iv.endsAt)) =
      { s.at iv.endsAt with motS := s.motS.advance s.tables .s (max s.now iv.endsAt) } :=
    State.withMot_still (by rw [Channel.advance_eq]; rfl)
  have sampled := State.edgeStep_same (s := { s.at iv.endsAt with motS := s.motS.advance s.tables .s (max s.now iv.endsAt) }) level
  rw [exec_stepEvent (m := .s) moving interval]
  unfold State.stepNow
  dsimp only [State.mot]
  exact congrArg (fun x : State => Host.Outcome.next ((x.tellStep .s (!pin)).finishStep .s (s.motS.stop == .pending)).settled)
    ((congrArg (State.edgeStep · (!pin)) advanced).trans sampled)

/-- R111: a step event of channel P. -/
theorem exec_stepEventP (moving : s.motP.moving = true) (interval : s.motP.interval = some iv) : exec (.stepEvent .p pin) s =
    .next (((s.steppedP (max s.now iv.endsAt)).tellStep .p (!pin)).finishStep .p (s.motP.stop == .pending)).settled :=
  exec_stepEvent (m := .p) moving interval

/-! ### The end of a step event (R111, R118) -/

/-- R111: with no stop taken and steps left the channel goes on. -/
theorem State.finishStep_on {was : Bool} (channel : s.mot m = c) (calm : ¬(was = true ∧ c.stop = .pending))
    (more : c.remaining ≠ some 0) : s.finishStep m was = s.withMot m (c.goOn s.tables m s.now) := by
  subst channel
  unfold State.finishStep
  dsimp only
  rw [if_neg calm, if_neg more]

/-- R111, R118: with no stop taken and no step left the channel comes to rest. -/
theorem State.finishStep_rest {was : Bool} (channel : s.mot m = c) (calm : ¬(was = true ∧ c.stop = .pending))
    (last : c.remaining = some 0) : s.finishStep m was = (s.withMot m c.rest).afterRest m := by
  subst channel
  unfold State.finishStep
  dsimp only
  rw [if_neg calm, if_pos last]

theorem State.finishStepS_on {was : Bool} (channel : s.motS = c) (calm : ¬(was = true ∧ c.stop = .pending))
    (more : c.remaining ≠ some 0) (moving : c.moving = true) :
    s.finishStep .s was = { s with motS := c.goOn s.tables .s s.now } := by
  subst channel
  exact (State.finishStep_on (m := .s) rfl calm more).trans (State.withMot_still (moving.trans Channel.goOn_moving.symm))

/-- R119: the hold timer of a channel at rest. -/
theorem Channel.startHold_timed {t : Tables} {now : Nat} (holds : t.holdTime m ≠ 0) :
    c.startHold t m now = { c with holdTimer := some (now + 200000 * t.holdTime m) } := by
  have time : Config.ms (10 * t.holdTime m) = 200000 * t.holdTime m := by
    unfold Config.ms
    omega
  unfold Channel.startHold
  rw [if_neg holds, time]

/-! ### A FEED's move (R111 to R114, R118) -/

/-- R113: the index and the state of a counted move with steps left. -/
theorem Channel.goOn_counted {t : Tables} {now n : Nat} (rest : c.remaining = some n) : c.goOn t m now =
    let index := if n ≤ c.index then c.index - 1 else if c.index + 2 ≤ n ∧ c.index < c.cruise then c.index + 1 else c.index
    { c with
      index := index
      state := if n ≤ c.index then .decel else if c.index + 2 ≤ n ∧ c.index < c.cruise then .accel else .run
      interval := some
        { length := max (t.rampAt m index) c.floor, endsAt := now + 20 * max (t.rampAt m index) c.floor } } := by
  have next : c.nextIndex = (if n ≤ c.index then c.index - 1 else if c.index + 2 ≤ n ∧ c.index < c.cruise then c.index + 1 else c.index,
      if n ≤ c.index then .decel else if c.index + 2 ≤ n ∧ c.index < c.cruise then .accel else .run) := by
    unfold Channel.nextIndex
    rw [rest]
    dsimp only
    split
    · rfl
    · split <;> rfl
  unfold Channel.goOn
  rw [next]
  rfl

/-- R111, R118: a step event of a FEED's move before the channel goes on or rests. -/
theorem State.tellStep_feed {v : Bool} (owner : (s.mot m).owner = .feed) : s.tellStep m v = s := by
  unfold State.tellStep
  rw [owner]

theorem State.withMot_withLink (c : Channel) (l : Link) : (s.withLink l).withMot m c = (s.withMot m c).withLink l :=
  (State.withMot_frame (s := s) c l s.power).trans
    (congrArg (fun p : Power => { s.withMot m c with link := l, power := p }) (State.withMot_power ..).symm)

/-- R119: a channel that has come to rest for an owner that asks for nothing starts its hold timer. -/
theorem State.afterRest_hold {y : State} (told : s.tellRest m = y) (hold : (y.mot m).state = .hold) (held : (y.mot m).held = none) :
    s.afterRest m = y.withMot m ((y.mot m).startHold y.tables m y.now) := by
  subst told
  unfold State.afterRest
  dsimp only
  rw [if_neg (not_not.mpr hold)]
  split
  · next r waits => exact absurd (held.symm.trans waits) (Option.some_ne_none r).symm
  · rfl

theorem State.Reports.afterRest {x : State} {es : List Event} (told : x.Reports es (s.tellRest m)) (hold : (x.mot m).state = .hold)
    (held : (x.mot m).held = Option.none) (holds : x.tables.holdTime m ≠ 0) :
    (x.withMot m { x.mot m with holdTimer := some (x.now + 200000 * x.tables.holdTime m) }).Reports es (s.afterRest m) := by
  obtain ⟨l, told⟩ := told
  have same : State.mot { x with link := x.link.reported es l } m = x.mot m := State.mot_frame (s := x) _ x.power
  refine ⟨l, ?_⟩
  rw [State.afterRest_hold told (same ▸ hold) (same ▸ held), same, Channel.startHold_timed holds]
  refine (State.withMot_withLink (s := x) _ _).trans ?_
  generalize placed : State.withMot x m _ = y
  have link : y.link = x.link := by rw [← placed, State.withMot_link]
  rw [link]
  rfl

/-- R118: a FEED's move has come to rest. -/
theorem State.afterRest_feed (owner : (s.mot m).owner = .feed) (hold : (s.mot m).state = .hold) (held : (s.mot m).held = none)
    (holds : s.tables.holdTime m ≠ 0) (room : s.link.room 1) :
    (s.withMot m { s.mot m with holdTimer := some (s.now + 200000 * s.tables.holdTime m) }).Reports [.feedDone m] (s.afterRest m) := by
  refine State.Reports.afterRest ?_ hold held holds
  unfold State.tellRest
  rw [owner]
  exact State.Reports.one room

/-- R107, R111: a channel's record after a step with `n` steps left. -/
abbrev Channel.steppedTo (c : Channel) (t : Tables) (m : Motor) (now n : Nat) : Channel :=
  let pattern := t.phase m c.nextPhase
  let newly := pattern &&& ~~~c.coils
  { c with
    phase := c.nextPhase
    position := (c.position + 1) % c.steps
    remaining := some n
    coils := if t.nonoverlap m = 0 ∨ newly = 0#4 then pattern else c.coils &&& pattern
    gaps := if t.nonoverlap m = 0 ∨ newly = 0#4 then [] else [{ coils := newly, endsAt := now + 20 * t.nonoverlap m }] }

theorem Channel.advance_steppedTo {t : Tables} {now n : Nat} (rest : c.remaining = some (n + 1)) :
    c.advance t m now = c.steppedTo t m now n := by
  obtain ⟨coils, gaps⟩ := Channel.drive_coils (c := { c with phase := c.nextPhase }) (t := t) (m := m) (now := now)
    (pattern := t.phase m c.nextPhase) rfl
  rw [Channel.advance_eq, rest]
  refine congrArg₂ (fun (x : BitVec 4) (y : List Gap) => ({ c with
    phase := c.nextPhase
    position := (c.position + 1) % c.steps
    remaining := some n
    coils := x
    gaps := y } : Channel)) coils gaps

/-- R133: channel S at rest ends the STEP mode of DOC_EDGE. -/
theorem Monitor.sampled_edgeModeChanged (x : Monitor) : x.sampled.edgeModeChanged =
    { x with inputs := x.inputs.setIfInBounds Input.docEdge { x.input Input.docEdge with count := 0, sample := none } } := by
  have read : x.sampled.input Input.docEdge = { x.input Input.docEdge with count := 0 } :=
    (Monitor.input_set (by decide)).trans (if_pos rfl)
  have changed : x.sampled.edgeModeChanged = { x.sampled with
      inputs := x.sampled.inputs.setIfInBounds Input.docEdge { x.sampled.input Input.docEdge with count := 0, sample := none } } := rfl
  rw [changed, read]
  exact congrArg (fun v : Vector InputRec 6 => { x with inputs := v }) (Vector.setIfInBounds_setIfInBounds ..)

/-- Settles O54: the advance, and R113's decision or R118's rest behind it. -/
theorem stepEvents : Obligations.StepEvents := by
  unfold Obligations.StepEvents
  intro m pin iv n s ch moving owner going held interval rest awake level at_ phase pattern newly gap stepped moved edge
  have advanced : ch.advance s.tables m at_ = stepped := (Channel.advance_steppedTo rest).trans (by cases m <;> rfl)
  have calm : ¬((ch.stop == .pending) = true ∧ stepped.stop = .pending) := fun h => by
    rw [show stepped.stop = ch.stop from rfl, going] at h
    exact absurd h.2 (by decide)
  have rested : stepped.rest = { stepped with
      state := .hold
      index := 0
      move := none
      remaining := none
      interval := none
      settleEnds := none
      powerEnds := none } := by
    unfold Channel.rest
    rw [← going]
  cases m with
  | s =>
    have step := exec_stepEventS moving interval (level rfl)
    have onward : s.steppedS at_ = { s with now := at_, motS := stepped, mon := s.mon.sampled } :=
      congrArg (fun c : Channel => { s with now := at_, motS := c, mon := s.mon.sampled }) advanced
    rw [onward, State.tellStep_feed (m := .s) (by exact owner)] at step
    refine ⟨?_, ?_⟩
    · intro more index length
      rw [State.finishStepS_on (c := stepped) (by rfl) (by exact calm) (by simp [stepped]; omega) (by exact moving),
        Channel.goOn_counted (n := n) rfl] at step
      exact ⟨_, next_settled step awake, rfl⟩
    · intro last holds room
      have still : State.withMot { s with now := at_, motS := stepped, mon := s.mon.sampled } .s stepped.rest =
          { s with now := at_, motS := stepped.rest, mon := s.mon.sampled.edgeModeChanged } :=
        if_neg (by rw [show stepped.moving = true from moving]; exact fun h => Bool.noConfusion (h.trans rfl))
      rw [State.finishStep_rest (m := .s) (c := stepped) (by rfl) (by exact calm) (congrArg some last), still, rested,
        Monitor.sampled_edgeModeChanged] at step
      exact next_reports step (State.afterRest_feed (m := .s) owner rfl held holds room) awake
  | p =>
    have step := exec_stepEventP (pin := pin) moving interval
    have onward : s.steppedP at_ = { s with now := at_, motP := stepped } :=
      congrArg (fun c : Channel => { s with now := at_, motP := c }) advanced
    rw [onward, State.tellStep_feed (m := .p) (by exact owner)] at step
    refine ⟨?_, ?_⟩
    · intro more index length
      rw [State.finishStep_on (m := .p) (c := stepped) (by rfl) (by exact calm) (by simp [stepped]; omega), Channel.goOn_counted
        (n := n) rfl] at step
      exact ⟨_, next_settled step awake, rfl⟩
    · intro last holds room
      rw [State.finishStep_rest (m := .p) (c := stepped) (by rfl) (by exact calm) (congrArg some last), rested] at step
      exact next_reports step (State.afterRest_feed (m := .p) owner rfl held holds room) awake

end

end Sys2Proof.Machine

/-! # The step events of a scan (O43) -/

namespace Sys2Proof.Machine

section

variable {s t u x y : State} {m : Motor} {c : Channel} {v : Bool} {p : Nat}

/-! ### Channel S at a step event of a scan's move -/

theorem Channel.advance_position {t : Tables} {now : Nat} :
    c.advance t m now = { c.advance t m now with position := (c.position + 1) % c.steps } := by
  have position : (c.advance t m now).position = (c.position + 1) % c.steps := by rw [Channel.advance_eq]
  rw [← position]

/-- R111: channel S advanced at a time, at a position. -/
abbrev State.atStepS (s : State) (at_ position : Nat) : State :=
  { s with now := at_, motS := { s.motS.advance s.tables .s at_ with position := position }, mon := s.mon.sampled }

theorem State.steppedS_eq (at_ : Nat) : s.steppedS at_ = s.atStepS at_ ((s.motS.position + 1) % s.motS.steps) :=
  congrArg (fun c : Channel => { s with now := at_, motS := c, mon := s.mon.sampled }) Channel.advance_position

/-- R113: a channel behind its advance, at a position, with the index and the state it goes on with. -/
abbrev Channel.onward (c : Channel) (t : Tables) (m : Motor) (now position index : Nat) (state : ChanState) : Channel :=
  { c.advance t m now with
    position := position
    index := index
    state := state
    interval := some { length := max (t.rampAt m index) c.floor, endsAt := now + 20 * max (t.rampAt m index) c.floor } }

/-- R113: an OPEN move behind a step. -/
def Channel.ranOn (c : Channel) (t : Tables) (m : Motor) (now position : Nat) : Channel :=
  if c.index < c.cruise then c.onward t m now position (c.index + 1) .accel else c.onward t m now position c.index .run

/-- R53, R113: the eject move, of `n` steps, behind the step that begins it. -/
def Channel.ejectOn (c : Channel) (t : Tables) (m : Motor) (now position n : Nat) : Channel :=
  let d :=
    if n ≤ c.index then c.onward t m now position (c.index - 1) .decel
    else if c.index + 2 ≤ n ∧ c.index < c.cruise then c.onward t m now position (c.index + 1) .accel
    else c.onward t m now position c.index .run
  { d with move := some .counted, remaining := some n }

/-- R111: what the advance of a channel keeps. -/
theorem Channel.advance_keeps (t : Tables) (now : Nat) : (c.advance t m now).owner = c.owner ∧ (c.advance t m now).held = c.held ∧
    (c.advance t m now).stop = c.stop ∧ (c.advance t m now).move = c.move ∧ (c.advance t m now).index = c.index ∧
    (c.advance t m now).cruise = c.cruise ∧ (c.advance t m now).floor = c.floor := by
  rw [Channel.advance_eq]
  exact ⟨rfl, rfl, rfl, rfl, rfl, rfl, rfl⟩

/-- R113: an OPEN move goes on. -/
theorem Channel.goOn_open {t : Tables} {now : Nat} (open_ : c.remaining = none) : c.goOn t m now =
    if c.index < c.cruise then { c with
      index := c.index + 1
      state := .accel
      interval := some
        { length := max (t.rampAt m (c.index + 1)) c.floor, endsAt := now + 20 * max (t.rampAt m (c.index + 1)) c.floor } }
    else { c with
      state := .run
      interval := some { length := max (t.rampAt m c.index) c.floor, endsAt := now + 20 * max (t.rampAt m c.index) c.floor } } := by
  have next : c.nextIndex = if c.index < c.cruise then (c.index + 1, .accel) else (c.index, .run) := by
    unfold Channel.nextIndex
    rw [open_]
  unfold Channel.goOn
  rw [next]
  split <;> rfl

theorem Channel.goOn_ranOn {t : Tables} {now position : Nat} (open_ : c.remaining = none) :
    ({ c.advance t m now with position := position } : Channel).goOn t m now = c.ranOn t m now position := by
  have remaining : (c.advance t m now).remaining = none := by rw [Channel.advance_eq, open_]; rfl
  obtain ⟨_, _, _, _, index, cruise, floor⟩ := c.advance_keeps (m := m) t now
  rw [Channel.goOn_open (by exact remaining), Channel.ranOn]
  dsimp only [Channel.onward]
  rw [cruise, floor, index]

/-- R113: the eject move goes on. -/
theorem Channel.goOn_ejectOn {t : Tables} {now position n : Nat} (going : c.stop = .nostop) :
    ({ c.advance t m now with position := position, move := some .counted, stop := .nostop, remaining := some n } : Channel).goOn t m now =
      c.ejectOn t m now position n := by
  obtain ⟨_, _, stop, _, index, cruise, floor⟩ := c.advance_keeps (m := m) t now
  rw [Channel.goOn_counted (n := n) rfl, Channel.ejectOn, ← going, ← stop]
  dsimp only [Channel.onward]
  rw [cruise, floor, index]
  split
  · rfl
  · split <;> rfl

/-- R117: what a channel goes on with does not rest on a stop asked for. -/
theorem Channel.goOn_stop {t : Tables} {now : Nat} {x : StopMark} :
    ({ c with stop := x } : Channel).goOn t m now = { c.goOn t m now with stop := x } := rfl

theorem Channel.ranOn_position {t : Tables} {now position : Nat} : (c.ranOn t m now position).position = position := by
  unfold Channel.ranOn
  split <;> rfl

theorem Channel.advance_moving {t : Tables} {now : Nat} : (c.advance t m now).moving = c.moving := by
  rw [Channel.advance_eq]
  rfl

/-- R111: channel S is due a step event of the Scan Unit's move, with no stop asked for and DOC_EDGE at its level. -/
structure State.ScanStepDue (s : State) (iv : Interval) (pin : Bool) : Prop where
  moving : s.motS.moving = true
  owner : s.motS.owner = .scan
  interval : s.motS.interval = some iv
  going : s.motS.stop = .nostop
  level : (s.mon.input Input.docEdge).level = some (!pin)

/-- R111: a step event of the Scan Unit's move, with `y` what the Scan Unit makes of it. -/
theorem exec_scanStep {iv : Interval} {pin : Bool} {q : Nat} (due : s.ScanStepDue iv pin)
    (place : (s.motS.position + 1) % s.motS.steps = q) (told : (s.atStepS (max s.now iv.endsAt) q).scanStep (!pin) = y) :
    exec (.stepEvent .s pin) s = .next (y.finishStep .s false).settled := by
  subst place
  obtain ⟨moving, owner, interval, going, level⟩ := due
  have step := exec_stepEventS moving interval level
  have owned : ((s.atStepS (max s.now iv.endsAt) ((s.motS.position + 1) % s.motS.steps)).mot .s).owner = .scan :=
    (s.motS.advance_keeps (m := .s) s.tables (max s.now iv.endsAt)).1.trans owner
  have tells : ∀ z : State, (z.mot .s).owner = .scan → z.tellStep .s (!pin) = z.scanStep (!pin) := fun z owned => by
    unfold State.tellStep
    rw [owned]
  rw [State.steppedS_eq, tells _ owned, told, going] at step
  exact step

theorem State.finishStepS_goesOn {d : Channel} (more : s.motS.remaining ≠ some 0) (moving : s.motS.moving = true)
    (went : s.motS.goOn s.tables .s s.now = d) : s.finishStep .s false = { s with motS := d } := by
  subst went
  exact State.finishStepS_on rfl (fun h => Bool.noConfusion h.1) more moving

/-- R118, R133: the last step of a move. -/
theorem State.finishStepS_rests (last : s.motS.remaining = some 0) (moving : s.motS.moving = true) :
    s.finishStep .s false = State.afterRest { s with motS := s.motS.rest, mon := s.mon.edgeModeChanged } .s := by
  have still : s.withMot .s s.motS.rest = { s with motS := s.motS.rest, mon := s.mon.edgeModeChanged } :=
    if_neg (by rw [moving]; exact fun h => Bool.noConfusion (h.trans rfl))
  rw [State.finishStep_rest (m := .s) rfl (by simp) last, ← still]
  rfl

/-- R111: a step event behind which channel S goes on, with nothing reported. -/
theorem exec_scanStep_quiet {iv : Interval} {pin : Bool} {q : Nat} {d : Channel} (due : s.ScanStepDue iv pin)
    (place : (s.motS.position + 1) % s.motS.steps = q) (told : (s.atStepS (max s.now iv.endsAt) q).scanStep (!pin) = x)
    (more : x.motS.remaining ≠ some 0) (moving : x.motS.moving = true) (went : x.motS.goOn x.tables .s x.now = d)
    (sampled : x.mon = s.mon.sampled) (awake : x.power.sleepPending = none) :
    ∃ t, exec (.stepEvent .s pin) s = .next t ∧ t = { x with
      motS := d
      mon := { s.mon with inputs := t.mon.inputs }
      power := x.power.timed t.power } := by
  have step := exec_scanStep due place told
  rw [State.finishStepS_goesOn more moving went] at step
  have whole : x.mon = { s.mon with inputs := x.mon.inputs } := by rw [sampled]
  refine ⟨_, next_settled step awake, ?_⟩
  exact congrArg (State.withMon { x with motS := d, power := x.power.timed (State.settled { x with motS := d }).power }) whole

/-- R111: a step event behind which channel S goes on, with events reported. -/
theorem exec_scanStep_reports {iv : Interval} {pin : Bool} {q : Nat} {d : Channel} {es : List Event} (due : s.ScanStepDue iv pin)
    (place : (s.motS.position + 1) % s.motS.steps = q) (told : x.Reports es ((s.atStepS (max s.now iv.endsAt) q).scanStep (!pin)))
    (more : x.motS.remaining ≠ some 0) (moving : x.motS.moving = true) (went : x.motS.goOn x.tables .s x.now = d)
    (sampled : x.mon = s.mon.sampled) (awake : x.power.sleepPending = none) :
    ∃ t, exec (.stepEvent .s pin) s = .next t ∧ t = { x with
      motS := d
      mon := { s.mon with inputs := t.mon.inputs }
      link := x.link.reported es t.link.chosen
      power := x.power.timed t.power } := by
  obtain ⟨l, told⟩ := told
  obtain ⟨t, step, told⟩ := exec_scanStep_quiet due place told more moving went sampled awake
  have chosen : t.link.chosen = l := congrArg (·.link.chosen) told
  rw [← chosen] at told
  exact ⟨t, step, told⟩

theorem Channel.advance_remaining_open {t : Tables} {now : Nat} (open_ : c.remaining = none) : (c.advance t m now).remaining ≠ some 0 := by
  rw [Channel.advance_eq, open_]
  exact (Option.some_ne_none 0).symm

/-! ### The job's record (R49, R51) -/

/-- R49: a step of the job counted. -/
abbrev ScanJob.counted (j : ScanJob) : ScanJob := { j with stepCount := min 65535 (j.stepCount + 1) }

theorem ScanJob.edgeSample_same {j : ScanJob} (same : j.edgeLevel = v) : j.edgeSample v = { j with edgeSamples := 0 } :=
  if_pos same.symm

theorem ScanJob.edgeSample_second {j : ScanJob} (differs : j.edgeLevel = !v) (one : j.edgeSamples = 1) :
    j.edgeSample v = { j with edgeSamples := 2 } := by
  unfold ScanJob.edgeSample
  rw [if_neg (by rw [differs]; cases v <;> decide), one]

/-! ### What the Scan Unit does at a step, by the job's state (R49 to R53) -/

theorem State.scanStep_feedIn (state : s.scan.job.state = .feedIn) : s.scanStep v =
    if (s.scan.job.counted.edgeSample v).confirms = true then (s.withJob (s.scan.job.counted.edgeSample v)).leadEdge
    else if s.tables.p Param.feedLimit ≤ s.scan.job.counted.stepCount then
      (s.withJob (s.scan.job.counted.edgeSample v)).scanAbortStop .feedFailure
    else s.withJob (s.scan.job.counted.edgeSample v) := by
  unfold State.scanStep
  dsimp only
  split
  case h_1 =>
    rfl
  all_goals next other => exact absurd (state.symm.trans other) (by decide)

/-- R50: with no edge confirmed the count of EDGE_OFFSET goes on. -/
theorem State.scanStep_offset (state : s.scan.job.state = .offset) (same : s.scan.job.edgeLevel = v) : s.scanStep v =
    if s.scan.job.stepsLeft - 1 = 0 then
      (s.withJob { s.scan.job.counted with edgeSamples := 0, stepsLeft := s.scan.job.stepsLeft - 1 }).firstBoundary
    else s.withJob { s.scan.job.counted with edgeSamples := 0, stepsLeft := s.scan.job.stepsLeft - 1 } := by
  unfold State.scanStep
  dsimp only
  split
  case h_2 =>
    rw [ScanJob.edgeSample_same (j := s.scan.job.counted) same]
    exact if_neg Bool.false_ne_true
  all_goals next other => exact absurd (state.symm.trans other) (by decide)

/-- R51: between two line boundaries no line is captured. -/
theorem State.scanStep_captureBetween (state : s.scan.job.state = .capture) (between : s.motS.position ≠ 0) : s.scanStep v =
    if (s.scan.job.counted.edgeSample v).confirms = true then
      if s.tables.p Param.trailOffset = 0 then
        ((s.withJob { (s.scan.job.counted.edgeSample v).confirmed with
          state := .tail
          stepsLeft := s.tables.p Param.trailOffset
          resume := if (s.scan.job.counted.edgeSample v).stopping = true then some .tail
            else (s.scan.job.counted.edgeSample v).resume }).enterEject).ejectCheck
      else s.withJob { (s.scan.job.counted.edgeSample v).confirmed with
        state := .tail
        stepsLeft := s.tables.p Param.trailOffset
        resume := if (s.scan.job.counted.edgeSample v).stopping = true then some .tail
          else (s.scan.job.counted.edgeSample v).resume }
    else s.withJob (s.scan.job.counted.edgeSample v) := by
  have away : (s.motS.position == 0) = false := beq_eq_false_iff_ne.mpr between
  unfold State.scanStep
  dsimp only
  split
  case h_3 =>
    rw [away]
    rfl
  all_goals next other => exact absurd (state.symm.trans other) (by decide)

/-- R51: at a line boundary with no change of the document's edge the next line is captured. -/
theorem State.scanStep_captureLine (state : s.scan.job.state = .capture) (boundary : s.motS.position = 0)
    (captured : (s.withJob s.scan.job.counted).capture = y) (same : y.scan.job.edgeLevel = v) :
    s.scanStep v = y.withJob { y.scan.job with edgeSamples := 0 } := by
  unfold State.scanStep
  dsimp only
  split
  case h_3 =>
    rw [beq_iff_eq.mpr boundary, if_pos rfl, captured, ScanJob.edgeSample_same same]
    exact if_neg Bool.false_ne_true
  all_goals next other => exact absurd (state.symm.trans other) (by decide)

/-- R52: between two line boundaries the count of TRAIL_OFFSET goes on. -/
theorem State.scanStep_tailBetween (state : s.scan.job.state = .tail) (between : s.motS.position ≠ 0) : s.scanStep v =
    if s.scan.job.stepsLeft - 1 = 0 then
      ((s.withJob { s.scan.job.counted with stepsLeft := s.scan.job.stepsLeft - 1 }).enterEject).ejectCheck
    else s.withJob { s.scan.job.counted with stepsLeft := s.scan.job.stepsLeft - 1 } := by
  have away : (s.motS.position == 0) = false := beq_eq_false_iff_ne.mpr between
  unfold State.scanStep
  dsimp only
  split
  case h_4 =>
    rw [away]
    rfl
  all_goals next other => exact absurd (state.symm.trans other) (by decide)

theorem State.scanStep_eject (state : s.scan.job.state = .eject) : s.scanStep v = s.withJob s.scan.job.counted := by
  unfold State.scanStep
  dsimp only
  split
  case h_5 =>
    rfl
  all_goals next other => exact absurd (state.symm.trans other) (by decide)

/-! ### Captures (R50, R51, R60) -/

/-- R51, R60: the readout of a line captured now, into a slot or with its samples discarded. -/
abbrev State.lineReadout (s : State) (slot : Option SlotId) : Readout :=
  { slot := slot, index := s.scan.job.nextLine, live := true, endsAt := s.now + s.tables.readoutTime }

theorem State.capture_free (more : s.scan.job.nextLine < s.tables.p Param.maxDocLines) (free : s.scan.slotA.use = .free) :
    s.capture = s.withScan { s.scan with
      slotA := { s.scan.slotA with use := .filling }
      lastSlot := some .a
      readouts := s.scan.readouts ++ [s.lineReadout (some .a)]
      syncEnds := some (s.now + s.tables.syncTime)
      job := { s.scan.job with nextLine := s.scan.job.nextLine + 1 } } := by
  have slot : s.scan.freeSlot = some .a := if_pos free
  unfold State.capture
  dsimp only
  rw [if_neg (by omega), slot]
  rfl

/-- R60: with both slots occupied the most recent line is written once more. -/
theorem State.capture_repeat (more : s.scan.job.nextLine < s.tables.p Param.maxDocLines) (slotA : s.scan.slotA.use ≠ .free)
    (slotB : s.scan.slotB.use ≠ .free) (writes : s.scan.writes = []) (page : s.scan.job.page = some p)
    (repeats : (s.page p).repeats < 255) (room : s.link.room 1) :
    State.Reports ((s.withScan { s.scan with
        readouts := s.scan.readouts ++ [s.lineReadout none]
        syncEnds := some (s.now + s.tables.syncTime)
        writes := [{ index := s.scan.job.nextLine, slot := s.scan.lastSlot.getD .b, banded := false, requested := false }]
        job := { s.scan.job with nextLine := s.scan.job.nextLine + 1 } }).withPage p
          { s.page p with repeats := (s.page p).repeats + 1 })
      [.lineRepeated p s.scan.job.nextLine] s.capture := by
  have slot : s.scan.freeSlot = none := (if_neg slotA).trans (if_neg slotB)
  unfold State.capture
  dsimp only
  rw [if_neg (by omega), slot, page, Option.getD_some, writes, Nat.min_eq_right repeats]
  exact State.Reports.one room

/-- R51: a line captured in slot A. -/
theorem State.scanStep_captures (state : s.scan.job.state = .capture) (boundary : s.motS.position = 0)
    (same : s.scan.job.edgeLevel = v)
    (more : s.scan.job.nextLine < s.tables.p Param.maxDocLines) (free : s.scan.slotA.use = .free) :
    s.scanStep v = s.withScan { s.scan with
      slotA := { s.scan.slotA with use := .filling }
      lastSlot := some .a
      readouts := s.scan.readouts ++ [s.lineReadout (some .a)]
      syncEnds := some (s.now + s.tables.syncTime)
      job := { s.scan.job.counted with edgeSamples := 0, nextLine := s.scan.job.nextLine + 1 } } :=
  State.scanStep_captureLine state boundary (State.capture_free (s := s.withJob s.scan.job.counted) more free) same

/-- R60: a line repeated, with both slots occupied. -/
theorem State.scanStep_repeats (state : s.scan.job.state = .capture) (boundary : s.motS.position = 0)
    (same : s.scan.job.edgeLevel = v)
    (more : s.scan.job.nextLine < s.tables.p Param.maxDocLines) (slotA : s.scan.slotA.use ≠ .free) (slotB : s.scan.slotB.use ≠ .free)
    (writes : s.scan.writes = []) (page : s.scan.job.page = some p) (repeats : (s.page p).repeats < 255) (room : s.link.room 1) :
    State.Reports ((s.withScan { s.scan with
        readouts := s.scan.readouts ++ [s.lineReadout none]
        syncEnds := some (s.now + s.tables.syncTime)
        writes := [{ index := s.scan.job.nextLine, slot := s.scan.lastSlot.getD .b, banded := false, requested := false }]
        job := { s.scan.job.counted with edgeSamples := 0, nextLine := s.scan.job.nextLine + 1 } }).withPage p
          { s.page p with repeats := (s.page p).repeats + 1 })
      [.lineRepeated p s.scan.job.nextLine] (s.scanStep v) := by
  obtain ⟨l, told⟩ := State.capture_repeat (s := s.withJob s.scan.job.counted) more slotA slotB writes page repeats room
  exact ⟨l, State.scanStep_captureLine state boundary told same⟩

/-- R50: line boundary 0 of an OPEN move. -/
theorem State.firstBoundary_free (more : s.scan.job.nextLine < s.tables.p Param.maxDocLines) (free : s.scan.slotA.use = .free)
    (open_ : s.motS.move = some .open_) (going : s.motS.stop = .nostop) : s.firstBoundary = { s with
      motS := { s.motS with position := 0 }
      scan := { s.scan with
        slotA := { s.scan.slotA with use := .filling }
        lastSlot := some .a
        readouts := s.scan.readouts ++ [s.lineReadout (some .a)]
        syncEnds := some (s.now + s.tables.syncTime)
        job := { s.scan.job with state := .capture, stepsLeft := 0, nextLine := s.scan.job.nextLine + 1 } } } := by
  have aligned : s.motS.align = { s.motS with position := 0 } := if_pos ⟨open_, going⟩
  have moved : s.withMot .s { s.motS with position := 0 } = { s with motS := { s.motS with position := 0 } } := State.withMot_still rfl
  unfold State.firstBoundary
  rw [aligned, moved]
  exact State.capture_free more free

/-! ### FEED_IN (R49, R63) -/

/-- R63: the lamp test behind the events so far. -/
theorem State.Reports.lampTest {es : List Event} (told : x.Reports es y) (page : x.scan.job.page = some p)
    (room : x.link.room (es.length + 1)) :
    x.Reports (if (x.mon.channel 2).band = some .low then es ++ [.lampLow p] else es) y.lampTest := by
  have further := told.raise (e := .lampLow p) room
  obtain ⟨l, rfl⟩ := told
  unfold State.lampTest
  dsimp only
  rw [page, Option.getD_some]
  by_cases low : (x.mon.channel 2).band = some .low
  · rw [if_pos low, if_pos (by exact low)]
    exact further
  · rw [if_neg low, if_neg (by exact low)]
    exact ⟨l, rfl⟩

/-- R49, R63: the lead edge, with the lamp test behind it. -/
theorem State.leadEdge_offset (offset : 0 < s.tables.p Param.edgeOffset) (page : s.scan.job.page = some p) (room : s.link.room 2) :
    State.Reports (s.withJob { s.scan.job.confirmed with state := .offset, stepsLeft := s.tables.p Param.edgeOffset })
      (if (s.mon.channel 2).band = some .low then [.scanEdge p, .lampLow p] else [.scanEdge p]) s.leadEdge := by
  have edge := State.Reports.one (s := s.withJob s.scan.job.confirmed) (e := .scanEdge p) (room.mono (by decide))
  obtain ⟨l, told⟩ := edge.lampTest (p := p) page room
  unfold State.leadEdge
  dsimp only
  rw [page, Option.getD_some, told]
  exact ⟨l, if_neg (Nat.pos_iff_ne_zero.mp offset)⟩

/-- R49: the second differing sample confirms the lead edge. -/
theorem State.scanStep_leadEdge (feeding : s.scan.job.state = .feedIn) (differs : s.scan.job.edgeLevel = !v)
    (one : s.scan.job.edgeSamples = 1) (offset : 0 < s.tables.p Param.edgeOffset) (page : s.scan.job.page = some p)
    (room : s.link.room 2) :
    State.Reports (s.withJob { s.scan.job.counted with
        state := .offset
        edgeLevel := v
        edgeSamples := 0
        stepsLeft := s.tables.p Param.edgeOffset })
      (if (s.mon.channel 2).band = some .low then [.scanEdge p, .lampLow p] else [.scanEdge p]) (s.scanStep v) := by
  obtain rfl : v = !s.scan.job.edgeLevel := by rw [differs, Bool.not_not]
  have edge : s.scanStep (!s.scan.job.edgeLevel) = (s.withJob { s.scan.job.counted with edgeSamples := 2 }).leadEdge := by
    rw [State.scanStep_feedIn feeding, ScanJob.edgeSample_second (j := s.scan.job.counted) differs one]
    exact if_pos rfl
  rw [edge]
  exact State.leadEdge_offset (s := s.withJob { s.scan.job.counted with edgeSamples := 2 }) offset page room

/-- R49: with no document FEED_LIMIT steps on, the job is aborted. -/
theorem State.scanStep_feedFailure (feeding : s.scan.job.state = .feedIn) (same : s.scan.job.edgeLevel = v)
    (limit : s.tables.p Param.feedLimit ≤ s.scan.job.counted.stepCount) :
    s.scanStep v = (s.withJob { s.scan.job.counted with edgeSamples := 0 }).scanAbortStop .feedFailure := by
  rw [State.scanStep_feedIn feeding, ScanJob.edgeSample_same (j := s.scan.job.counted) same]
  exact (if_neg Bool.false_ne_true).trans (if_pos limit)

theorem State.scanStep_feeding (feeding : s.scan.job.state = .feedIn) (same : s.scan.job.edgeLevel = v)
    (early : s.scan.job.counted.stepCount < s.tables.p Param.feedLimit) :
    s.scanStep v = s.withJob { s.scan.job.counted with edgeSamples := 0 } := by
  rw [State.scanStep_feedIn feeding, ScanJob.edgeSample_same (j := s.scan.job.counted) same]
  exact (if_neg Bool.false_ne_true).trans (if_neg (Nat.not_le.mpr early))

/-- R67: FEED_FAILURE aborts a job that has captured nothing, with channel S running its move. -/
theorem State.feedFailure_retained (page : s.scan.job.page = some p) (inside : p < 32) (standing : s.scan.job.pageClosed = false)
    (bare : s.scan.Bare) (ending : s.dram.ending .scanWrite = none) (absent : ∀ q ∈ s.dram.waiting, q.cls ≠ .scanWrite)
    (unattended : s.unattended) (keep : (s.page p).mode = some .keep) (retained : (s.page p).retain = some true)
    (unfilled : (s.page p).filling = false) (room : s.link.room 2) (moving : s.motS.moving = true) (owner : s.motS.owner = .scan)
    (held : s.motS.held = none) (going : s.motS.stop = .nostop) : ∃ c, State.Reports { s with
      store := s.store.withPage p { s.page p with state := .closed, writer := none, truncated := true }
      dram := { s.dram with current := c }
      motS := { s.motS with stop := .pending }
      scan := { s.scan with job := ScanJob.idle, lamp := false } }
      [.pageClosed p (s.page p).committed true (s.page p).label, .scanAborted p .feedFailure] (s.scanAbortStop .feedFailure) := by
  obtain ⟨c, aborted⟩ := State.scanAbort_retained (why := .feedFailure) page inside standing ending absent unattended keep retained
    unfilled room
  rw [← State.scanAbort_uncut bare.readouts] at aborted
  have stopped := aborted.scanAbortStop moving owner held going
  rw [bare.emptied_eq] at stopped
  exact ⟨c, stopped⟩

/-! ### TAIL and EJECT (R52, R53) -/

/-- R53: the eject move of channel S. -/
theorem State.enterEject_moving (source : s.scan.job.source = some .sensor) (moving : s.motS.moving = true) :
    s.enterEject = { s with
      motS := s.motS.countTo (s.ejectDistance s.motS.position s.motS.index - s.motS.position)
      scan := { s.scan with
        lamp := false
        job := { s.scan.job with
          state := .eject
          resume := none
          stopping := false
          availKept := false
          rested := false } } } := by
  unfold State.enterEject
  dsimp only
  rw [if_neg (by rw [source]; decide), if_pos moving, source]
  exact State.withMot_still rfl

/-- R53: the test of EJECT behind the close of the page. -/
theorem State.ejectCheck_eq (eject : s.scan.job.state = .eject)
    (close : (if s.scan.job.pageClosed = false ∧ s.scan.drained = true then
      (s.withJob { s.scan.job with pageClosed := true }).closePage (s.scan.job.page.getD 0) false else s) = y) :
    s.ejectCheck = if y.scan.job.pageClosed = true ∧ (y.scan.job.rested = true ∨ y.scan.job.coverEnd = true) then
      (y.raise (if y.scan.job.coverEnd = true then .scanAborted (s.scan.job.page.getD 0) .cover
        else .scanDone (s.scan.job.page.getD 0))).scanIdle else y := by
  unfold State.ejectCheck
  dsimp only
  rw [if_neg (not_not.mpr eject), close]

/-- R53: with a line left to write the page stays open. -/
theorem State.ejectCheck_writing (eject : s.scan.job.state = .eject) (writing : s.scan.writes ≠ [])
    (open_ : s.scan.job.pageClosed = false) :
    s.ejectCheck = s := by
  have full : s.scan.drained = false := by
    unfold ScanUnit.drained
    rw [List.isEmpty_eq_false_iff.mpr writing, Bool.false_and]
  rw [State.ejectCheck_eq eject (if_neg (by simp [full])), if_neg (by simp [open_])]

/-- R53: with no line left to write a page that is retained is closed, and the job goes on to the rest of channel S. -/
theorem State.ejectCheck_closes (eject : s.scan.job.state = .eject) (open_ : s.scan.job.pageClosed = false)
    (moves : s.scan.job.rested = false) (shut : s.scan.job.coverEnd = false) (writes : s.scan.writes = [])
    (readouts : s.scan.readouts = []) (page : s.scan.job.page = some p) (inside : p < 32) (unattended : s.unattended)
    (room : s.link.room 1) (keep : (s.page p).mode = some .keep) (retained : (s.page p).retain = some true)
    (unfilled : (s.page p).filling = false) : ∃ c, State.Reports { s with
      store := s.store.withPage p { s.page p with state := .closed, writer := none, truncated := false }
      dram := { s.dram with current := c }
      scan := { s.scan with job := { s.scan.job with pageClosed := true } } }
      [.pageClosed p (s.page p).committed false (s.page p).label] s.ejectCheck := by
  have drained : s.scan.drained = true := by
    unfold ScanUnit.drained
    rw [writes, readouts]
    rfl
  obtain ⟨c, closes⟩ := State.shutPage_unfilled (truncated := false) (s := s.withJob { s.scan.job with pageClosed := true }) unfilled
  have closed := State.closePage_retained (truncated := false) (s := s.withJob { s.scan.job with pageClosed := true })
    inside keep retained unattended room
  rw [closes] at closed
  obtain ⟨l, told⟩ := closed
  refine ⟨c, l, ?_⟩
  have number : s.scan.job.page.getD 0 = p := by rw [page]; rfl
  rw [State.ejectCheck_eq eject ((if_pos ⟨open_, drained⟩).trans
    ((congrArg (State.closePage (s.withJob { s.scan.job with pageClosed := true }) · false) number).trans told))]
  refine if_neg ?_
  rintro ⟨_, rested | cover⟩
  · exact Bool.noConfusion (moves.symm.trans rested)
  · exact Bool.noConfusion (shut.symm.trans cover)

/-- R53: with the page closed and channel S at rest the job ends. -/
theorem State.ejectCheck_done (eject : s.scan.job.state = .eject) (closed : s.scan.job.pageClosed = true)
    (rested : s.scan.job.rested = true) (shut : s.scan.job.coverEnd = false) (readouts : s.scan.readouts = [])
    (page : s.scan.job.page = some p) (wait : s.store.poolWait = none) (room : s.link.room 1) :
    State.Reports { s with
      store := { s.store with memoryLow := false, scanWaits := false }
      scan := { s.scan with job := ScanJob.idle } } [.scanDone p] s.ejectCheck := by
  obtain ⟨l, told⟩ := State.Reports.one (s := s) (e := .scanDone p) room
  refine ⟨l, ?_⟩
  rw [State.ejectCheck_eq eject (if_neg (by simp [closed])), if_pos ⟨closed, .inl rested⟩, shut, if_neg Bool.false_ne_true, page,
    Option.getD_some, told]
  unfold State.scanIdle State.lookLink
  dsimp only [State.withStore, State.withScan]
  rw [wait, readouts]
  rfl

/-- R53, R118: the rest of channel S behind the eject move. -/
theorem State.scanRest_done (eject : s.scan.job.state = .eject) (closed : s.scan.job.pageClosed = true)
    (shut : s.scan.job.coverEnd = false) (readouts : s.scan.readouts = []) (page : s.scan.job.page = some p)
    (wait : s.store.poolWait = none) (room : s.link.room 1) : State.Reports { s with
      store := { s.store with memoryLow := false, scanWaits := false }
      scan := { s.scan with job := ScanJob.idle } } [.scanDone p] s.scanRest := by
  have checked : s.scanRest = (s.withJob { s.scan.job with rested := true }).ejectCheck := by
    unfold State.scanRest
    dsimp only
    split
    case h_1 => rfl
    all_goals next other => exact absurd (eject.symm.trans other) (by decide)
  rw [checked]
  exact State.ejectCheck_done (s := s.withJob { s.scan.job with rested := true }) eject closed rfl shut readouts page wait room

/-- R116: a count that covers the index stands. -/
theorem Channel.countTo_covering {n : Nat} (covers : c.index ≤ n) :
    c.countTo n = { c with move := some .counted, stop := .nostop, remaining := some n } := by
  unfold Channel.countTo
  rw [if_neg (by omega)]

theorem le_roundUp {n k : Nat} (some_ : 0 < k) : n ≤ roundUp n k := by
  have reached := Nat.div_add_mod (n + k - 1) k
  have below := Nat.mod_lt (n + k - 1) some_
  rw [Nat.mul_comm] at reached
  unfold roundUp
  omega

/-- R53: the eject move covers the index of the channel's ramp. -/
theorem State.ejectDistance_covers {n i : Nat} (steps : 0 < s.scan.job.steps) : n + i ≤ s.ejectDistance n i :=
  Nat.le_trans (Nat.le_max_right ..) (le_roundUp steps)

/-- R51: the second differing sample confirms the trail edge, between two line boundaries. -/
theorem State.scanStep_trailEdge (state : s.scan.job.state = .capture) (between : s.motS.position ≠ 0)
    (differs : s.scan.job.edgeLevel = !v) (one : s.scan.job.edgeSamples = 1) (calm : s.scan.job.stopping = false)
    (trail : 0 < s.tables.p Param.trailOffset) : s.scanStep v = s.withJob { s.scan.job.counted with
      state := .tail
      edgeLevel := v
      edgeSamples := 0
      stepsLeft := s.tables.p Param.trailOffset } := by
  obtain rfl : v = !s.scan.job.edgeLevel := by rw [differs, Bool.not_not]
  rw [State.scanStep_captureBetween state between, ScanJob.edgeSample_second (j := s.scan.job.counted) differs one]
  refine (if_pos rfl).trans ((if_neg (Nat.pos_iff_ne_zero.mp trail)).trans ?_)
  dsimp only
  rw [calm]
  rfl

/-- R53: a step with which the eject move of channel S begins, of `n` steps. -/
abbrev State.toEject (s : State) (n : Nat) : State :=
  { s with
    motS := { s.motS with move := some .counted, stop := .nostop, remaining := some n }
    scan := { s.scan with
      lamp := false
      job := { s.scan.job.counted with
        state := .eject
        stepsLeft := 0
        resume := none
        stopping := false
        availKept := false
        rested := false } } }

/-- R52, R53: the last step of TRAIL_OFFSET begins the eject move. -/
theorem State.scanStep_trailEnds {n : Nat} (state : s.scan.job.state = .tail) (between : s.motS.position ≠ 0)
    (last : s.scan.job.stepsLeft = 1) (source : s.scan.job.source = some .sensor) (moving : s.motS.moving = true)
    (distance : s.ejectDistance s.motS.position s.motS.index - s.motS.position = n) (some_ : 0 < n) :
    s.scanStep v = (s.toEject n).ejectCheck := by
  have steps : 0 < s.scan.job.steps := by
    refine Nat.pos_of_ne_zero fun none_ => ?_
    unfold State.ejectDistance roundUp at distance
    rw [none_, Nat.mul_zero, Nat.zero_sub] at distance
    omega
  have covers := State.ejectDistance_covers (s := s) (n := s.motS.position) (i := s.motS.index) steps
  have entered := State.enterEject_moving (s := s.withJob { s.scan.job.counted with stepsLeft := 0 }) source moving
  have counts := Channel.countTo_covering (c := s.motS) (n := n) (by omega)
  rw [← distance] at counts ⊢
  rw [State.scanStep_tailBetween state between, last, if_pos rfl, Nat.sub_self, entered]
  exact congrArg (fun c : Channel => State.ejectCheck { s.toEject n with motS := c }) counts

/-! ### The end of a readout (R55, R59) -/

/-- R58, R59: a readout's line stands in slot A, with no other line waiting. -/
theorem State.lineRead_slotA {r : Readout} {samples : List Byte} (slot : r.slot = some .a) (writes : s.scan.writes = []) :
    s.lineRead r samples = s.withScan { s.scan with
      slotA := { use := .held, dots := s.tables.line s.scan.job.pattern samples r.index }
      writes := [{ index := r.index, slot := .a, banded := false, requested := false }] } := by
  unfold State.lineRead
  rw [slot]
  dsimp only
  rw [writes]
  rfl

theorem exec_readoutEnd {r : Readout} {rest : List Readout} {samples : List Byte} (readouts : s.scan.readouts = r :: rest) :
    exec (.readoutEnd samples) s = .next ((s.at r.endsAt).readoutOver samples).settled := by
  change execReadoutEnd samples s = _
  unfold execReadoutEnd
  rw [readouts]

/-- R59: the end of a readout of a SENSOR job in CAPTURE requests the write of its line. -/
theorem State.readoutOver_capture {r : Readout} {samples : List Byte} (readouts : s.scan.readouts = [r]) (live : r.live = true)
    (source : s.scan.job.source = some .sensor) (state : s.scan.job.state = .capture)
    (advanced : State.scanAdvance ((s.withScan { s.scan with readouts := [] }).lineRead r samples) 3 = y)
    (same : y.scan.job = s.scan.job) : s.readoutOver samples = y := by
  have counted : (s.withScan { s.scan with readouts := [] }).patternCount = s.withScan { s.scan with readouts := [] } := by
    unfold State.patternCount
    dsimp only [State.withScan]
    rw [if_pos (by rw [source]; decide)]
  have patterned : y.nextPatternReadout = y := by
    unfold State.nextPatternReadout
    rw [if_neg (by rw [same, source]; simp)]
  have checked : y.ejectCheck = y := by
    unfold State.ejectCheck
    dsimp only
    rw [if_pos (by rw [same, state]; decide)]
  unfold State.readoutOver
  rw [readouts]
  dsimp only
  rw [if_pos live, counted, advanced, patterned, checked]

/-! ### The sensor start pulse (R55) -/

theorem ScanUnit.clocking_iff (u : ScanUnit) :
    u.clocking = true ↔ u.readouts ≠ [] ∨ ∃ c d, u.calibration = some c ∧ c.readoutEnds = some d := by
  have reading : (∃ d, u.calibration.bind (·.readoutEnds) = some d) ↔ ∃ c d, u.calibration = some c ∧ c.readoutEnds = some d := by
    simp only [Option.bind_eq_some_iff]
    exact exists_comm
  unfold ScanUnit.clocking
  rw [Bool.or_eq_true, Option.isSome_iff_exists, reading]
  simp

theorem State.startPulse_iff : s.startPulse = true ↔ s.scan.clocking = true ∧ ∃ e, s.scan.syncEnds = some e ∧ s.now < e := by
  unfold State.startPulse
  simp [Option.any_eq_true]

/-- Settles O43: each step event by what the Scan Unit makes of it, with channel S going on or, behind EJECT, at rest. -/
theorem linesAreCaptured : Obligations.LinesAreCaptured := by
  unfold Obligations.LinesAreCaptured
  refine ⟨?_, ?_, ?_⟩
  case refine_1 =>
    intro s state source awake
    refine ⟨?_, ?_⟩
    · intro iv pin run owner open_ going steps interval edge level free more boundary
      have moving : s.motS.moving = true := by unfold Channel.moving; simp [run]
      obtain ⟨t, step, told⟩ := exec_scanStep_quiet ⟨moving, owner, interval, going, level⟩ boundary
        (State.scanStep_captures state rfl edge more free) (Channel.advance_remaining_open steps)
        (Channel.advance_moving.trans moving)
        (Channel.goOn_ranOn steps) rfl awake
      have scan := congrArg State.scan told
      have place : t.motS.position = 0 := by rw [told]; exact Channel.ranOn_position
      exact ⟨t, step, (congrArg State.now told :), place, (congrArg ScanUnit.readouts scan :), (congrArg ScanUnit.syncEnds scan :),
        (congrArg (fun u : ScanUnit => u.job.nextLine) scan :), (congrArg (fun u : ScanUnit => u.slotA.use) scan :),
        (congrArg ScanUnit.lastSlot scan :), (congrArg State.mem told :), (congrArg State.store told :),
        (congrArg State.tables told :),
        (congrArg State.dram told :), (congrArg State.print told :), (congrArg State.link told :), (congrArg State.motP told :),
        (congrArg ScanUnit.slotB scan :), (congrArg ScanUnit.writes scan :)⟩
    · rintro r p w b samples readouts live slot writes page inside width later band granted active ⟨a, busy⟩ dots
      have step := exec_readoutEnd (samples := samples) readouts
      have read := State.lineRead_slotA (s := (s.at r.endsAt).withScan { s.scan with readouts := [] }) (samples := samples) slot writes
      have advanced := State.scanAdvance_banded (s := (s.at r.endsAt).withScan { s.scan with
          readouts := []
          slotA := { use := .held, dots := dots }
          writes := [{ index := r.index, slot := .a, banded := false, requested := false }] })
        2 page rfl rfl (fun h => absurd h later) rfl granted band width active busy
      rw [State.readoutOver_capture (s := s.at r.endsAt) readouts live source state
        ((congrArg (State.scanAdvance · 3) read).trans advanced) rfl] at step
      exact ⟨_, next_settled step awake, rfl⟩
  case refine_2 =>
    intro s clocks
    have asserted := State.startPulse_iff (s := s)
    rw [ScanUnit.clocking_iff] at asserted
    refine ⟨?_, ?_, ?_⟩
    · intro e ends
      rw [asserted, ends]
      simp [clocks]
    · intro none_
      rw [Bool.eq_false_iff, ne_eq, asserted, none_]
      simp
    · intro silent
      rw [Bool.eq_false_iff, ne_eq, asserted]
      exact fun h => silent h.1
  case refine_3 =>
    intro iv pin p s awake moving owner interval held going level page inside source j r at_ counted position onward running eject left
      ejecting lineZero pulse
    have due : s.ScanStepDue iv pin := ⟨moving, owner, interval, going, level⟩
    have moves : (s.motS.advance s.tables .s at_).moving = true := Channel.advance_moving.trans moving
    obtain ⟨owned, unheld, unstopped, move, index, _, _⟩ := s.motS.advance_keeps (m := .s) s.tables at_
    refine ⟨fun open_ endless => ?_, ?_⟩
    · have more : (s.motS.advance s.tables .s at_).remaining ≠ some 0 := Channel.advance_remaining_open endless
      have went : ∀ q, ({ s.motS.advance s.tables .s at_ with position := q } : Channel).goOn s.tables .s at_ = running q :=
        fun q => Channel.goOn_ranOn endless
      refine ⟨?leadEdge, ?feeding, ?feedFailure, ?offset, ?firstLine, ?repeated, ?trailEdge, ?tail, ?trailEnds⟩
      case leadEdge =>
        intro feeding edge one offset room
        obtain ⟨t, step, told⟩ := exec_scanStep_reports due rfl
          (State.scanStep_leadEdge (s := s.atStepS at_ position) (v := !pin) feeding (by rw [Bool.not_not]; exact edge) one offset page room)
          more moves (went position) rfl awake
        refine ⟨t, step, ?_⟩
        split
        · next low => rw [if_pos (by exact low)] at told; exact told
        · next high => rw [if_neg (by exact high)] at told; exact told
      case feeding =>
        intro feeding edge early
        exact exec_scanStep_quiet due rfl (State.scanStep_feeding (s := s.atStepS at_ position) feeding edge early) more moves
          (went position) rfl awake
      case feedFailure =>
        intro feeding edge limit standing writes readouts slotA slotB ending absent unattended room keep retained unfilled
        obtain ⟨c, failed⟩ := State.feedFailure_retained (s := (s.atStepS at_ position).withJob { counted with edgeSamples := 0 })
          page inside standing ⟨writes, readouts, slotA, slotB⟩ ending absent unattended keep retained unfilled room moves
          (owned.trans owner) (unheld.trans held) (unstopped.trans going)
        rw [← State.scanStep_feedFailure (s := s.atStepS at_ position) feeding edge limit] at failed
        obtain ⟨t, step, told⟩ := exec_scanStep_reports due rfl failed more moves
          (Channel.goOn_stop.trans (congrArg (fun d : Channel => { d with stop := .pending }) (went position))) rfl awake
        have current : t.dram.current = c := congrArg (·.dram.current) told
        rw [← current] at told
        exact ⟨t, step, told⟩
      case offset =>
        intro offset edge steps
        exact exec_scanStep_quiet due rfl ((State.scanStep_offset (s := s.atStepS at_ position) offset edge).trans
          (if_neg (Nat.sub_ne_zero_of_lt steps))) more moves (went position) rfl awake
      case firstLine =>
        intro offset edge last free lines
        have boundary := State.firstBoundary_free (s := (s.atStepS at_ position).withJob
          { counted with edgeSamples := 0, stepsLeft := j.stepsLeft - 1 }) lines free (move.trans open_) (unstopped.trans going)
        exact exec_scanStep_quiet due rfl ((State.scanStep_offset (s := s.atStepS at_ position) offset edge).trans
          ((if_pos (Nat.sub_eq_zero_of_le (Nat.le_of_eq last))).trans boundary)) more moves (went 0) rfl awake
      case repeated =>
        intro state boundary edge slotA slotB writes lines repeats room
        exact exec_scanStep_reports due boundary
          (State.scanStep_repeats (s := s.atStepS at_ 0) state rfl edge lines slotA slotB writes page repeats room)
          more moves (went 0) rfl awake
      case trailEdge =>
        intro state between edge one calm trail
        exact exec_scanStep_quiet due rfl (State.scanStep_trailEdge (s := s.atStepS at_ position) (v := !pin) state between
          (by rw [Bool.not_not]; exact edge) one calm trail) more moves (went position) rfl awake
      case tail =>
        intro state between steps
        exact exec_scanStep_quiet due rfl ((State.scanStep_tailBetween (s := s.atStepS at_ position) state between).trans
          (if_neg (Nat.sub_ne_zero_of_lt steps))) more moves (went position) rfl awake
      case trailEnds =>
        intro state between last some_ standing shut
        have distance : (s.atStepS at_ position).ejectDistance position (s.motS.advance s.tables .s at_).index - position = left := by
          rw [index]
          rfl
        have begins := State.scanStep_trailEnds (s := s.atStepS at_ position) (v := !pin) state between last source moves distance some_
        have ejects : ({ s.motS.advance s.tables .s at_ with
            position := position, move := some .counted, stop := .nostop, remaining := some left } : Channel).goOn s.tables .s at_ =
              ejecting := Channel.goOn_ejectOn going
        have further : (some left : Option Nat) ≠ some 0 := fun h => by injection h; omega
        refine ⟨?_, ?_⟩
        · intro writing
          exact exec_scanStep_quiet due rfl (begins.trans (State.ejectCheck_writing rfl writing standing)) further moves ejects rfl awake
        · intro writes readouts unattended room keep retained unfilled
          obtain ⟨c, closed⟩ := State.ejectCheck_closes (s := (s.atStepS at_ position).toEject left) rfl standing rfl shut writes
            readouts page inside unattended room keep retained unfilled
          rw [← begins] at closed
          obtain ⟨t, step, told⟩ := exec_scanStep_reports due rfl closed further moves ejects rfl awake
          have current : t.dram.current = c := congrArg (·.dram.current) told
          rw [← current] at told
          exact ⟨t, step, told⟩
    · intro state closed shut last readouts wait holds room
      have step := exec_scanStep due rfl (State.scanStep_eject (s := s.atStepS at_ position) (v := !pin) state)
      have rests : (s.motS.advance s.tables .s at_).remaining = some 0 := by
        rw [Channel.advance_eq, last]
        rfl
      have tells : ∀ x : State, x.motS.owner = .scan → x.tellRest .s = x.scanRest := fun x owned => by
        unfold State.tellRest
        dsimp only [State.mot]
        rw [owned]
      have done := State.scanRest_done (s := { (s.atStepS at_ position).withJob counted with
        motS := ({ s.motS.advance s.tables .s at_ with position := position } : Channel).rest
        mon := s.mon.sampled.edgeModeChanged }) state closed shut readouts page wait room
      rw [← tells _ (owned.trans owner)] at done
      rw [State.finishStepS_rests (s := (s.atStepS at_ position).withJob counted) rests moves] at step
      obtain ⟨t, next, told⟩ := next_reports step (State.Reports.afterRest (m := .s) done rfl (unheld.trans held) holds) awake
      have inputs : t.mon.inputs = s.mon.sampled.edgeModeChanged.inputs := congrArg (·.mon.inputs) told
      refine ⟨t, next, ?_⟩
      rw [inputs]
      exact told

end

end Sys2Proof.Machine

/-! # The head, the cut and the step events of a copy (O51) -/

namespace Sys2Proof.Machine

section

variable {s t u x y : State} {m : Motor} {c : Channel} {d : Nat}

/-! ### Shift, strobe and cut (R78, R84, R100) -/

theorem exec_shiftComplete (shifting : s.print.copy.shift.status = .shifting) (due : s.print.copy.shift.doneAt = some d) :
    exec .shiftComplete s = .next (s.at d).shiftDone := by
  change execShiftComplete s = _
  unfold execShiftComplete
  rw [shifting, due]

theorem exec_strobePulseEnd (pulse : s.print.seq = .pulse) (due : s.print.seqEnds = some d) :
    exec .strobePulseEnd s = .next ((s.at d).pulseOver).settled := by
  change execStrobePulseEnd s = _
  unfold execStrobePulseEnd
  rw [pulse, due]

theorem exec_strobeRecoveryEnd (recover : s.print.seq = .recover) (due : s.print.seqEnds = some d) :
    exec .strobeRecoveryEnd s = .next ((s.at d).nextPhase).settled := by
  change execStrobeRecoveryEnd s = _
  unfold execStrobeRecoveryEnd
  rw [recover, due]

theorem exec_cutTimeEnd (cut : s.print.copy.state = .cut) (due : s.print.copy.cutEnds = some d) :
    exec .cutTimeEnd s = .next ((s.at d).leaveCut).settled := by
  change execCutTimeEnd s = _
  unfold execCutTimeEnd
  rw [cut, due]

/-- R100: a pulse that ends is followed by the recovery time. -/
theorem State.pulseOver_recovers {r : StrobeRec} (strobe : s.print.strobe = some r) (recovery : r.recovery ≠ 0) :
    s.pulseOver = s.withPrint { s.print with seq := .recover, seqEnds := some (s.now + 20 * r.recovery) } := by
  unfold State.pulseOver
  dsimp only
  rw [strobe]
  exact if_neg recovery

/-- R100: the next phase is fired. -/
theorem State.nextPhase_fires {r : StrobeRec} (strobe : s.print.strobe = some r) (more : s.print.seqPhase + 1 < r.phases.length) :
    s.nextPhase = s.withPrint { s.print with
      seq := .pulse
      seqPhase := s.print.seqPhase + 1
      seqEnds := some (s.now + 20 * r.width) } := by
  unfold State.nextPhase
  rw [strobe]
  exact if_pos more

/-- R100, R101: behind the last phase the sequencer is IDLE, with no move held for it and no copy waiting for it. -/
theorem State.nextPhase_idles {r : StrobeRec} (strobe : s.print.strobe = some r) (last : r.phases.length ≤ s.print.seqPhase + 1)
    (move : s.print.copy.heldMove = none) (rested : s.print.copy.rested = false) :
    s.nextPhase = s.withPrint { s.print with seq := .idle, seqEnds := none } := by
  have idle : State.strobeIdle (s.withPrint { s.print with seq := .idle, seqEnds := none }) =
      s.withPrint { s.print with seq := .idle, seqEnds := none } := by
    unfold State.strobeIdle
    dsimp only [State.withPrint_print]
    rw [move]
    exact if_pos rested
  unfold State.nextPhase
  rw [strobe]
  exact (if_neg (Nat.not_lt.mpr last)).trans idle

/-- R84: the last entry of the queue is gone, with no line latched. -/
abbrev PrintUnit.finished (u : PrintUnit) : PrintUnit :=
  { u with
    queue := []
    copy := CopyRec.idle
    strobe := none
    hpwr := false
    cutter := false
    seq := .idle
    seqEnds := none }

/-- R84: the last entry of the queue leaves it complete, behind the events so far. -/
theorem State.Reports.entryGone_last {e : PrintEntry} {r : PageRec} {es : List Event} (told : x.Reports es y)
    (queue : x.print.queue = [e]) (inside : e.page < 32) (record : x.page e.page = r) (keep : r.mode = some .keep)
    (retained : r.retain = some true) (room : x.link.room (es.length + 1)) :
    State.Reports ((x.withPage e.page { r with printHold := r.printHold - 1 }).withPrint x.print.finished)
      (es ++ [.printDone e.page]) (y.entryGone false) := by
  obtain ⟨l, rfl⟩ := told
  have before : State.Reports ((x.withPrint { x.print with queue := [], hpwr := false }).withPage e.page
        { r with printHold := r.printHold - 1 }) es
      (State.dropHold { x with link := x.link.reported es l, print := { x.print with queue := [], hpwr := false } } e.page .print) :=
    ⟨l, State.dropHold_printKeep (s := { x with link := x.link.reported es l, print := { x.print with queue := [], hpwr := false } })
      record keep⟩
  obtain ⟨l', told⟩ := before.raise (e := .printDone e.page) room
  refine ⟨l', ?_⟩
  unfold State.entryGone
  dsimp only
  rw [queue]
  dsimp only [State.withPrint]
  rw [if_neg Bool.false_ne_true, told]
  rw [State.autoRelease_retained (by exact (congrArg PageRec.mode (State.page_withPage _ inside)).trans keep)
    (by exact (congrArg PageRec.retain (State.page_withPage _ inside)).trans retained)]
  exact if_pos rfl

/-- R84: the copy that completes its entry, alone in the queue, leaves CUT. -/
theorem State.leaveCut_last {e : PrintEntry} {r : PageRec} (queue : s.print.queue = [e]) (kept : s.print.copy.cancelPending = false)
    (last : e.copies = e.done + 1) (inside : e.page < 32) (record : s.page e.page = r) (keep : r.mode = some .keep)
    (retained : r.retain = some true) (room : s.link.room 2) :
    State.Reports ((s.withPage e.page { r with printHold := r.printHold - 1 }).withPrint s.print.finished)
      [.copyDone e.page e.copies, .printDone e.page] s.leaveCut := by
  have counted : State.withEntry (s.withPrint { s.print with
        cutter := false
        hpwr := false
        copy := { s.print.copy with cutEnds := none, rested := false, heldMove := none } }) { e with done := e.done + 1 } =
      s.withPrint { s.print with
        queue := [{ e with done := e.done + 1 }]
        cutter := false
        hpwr := false
        copy := { s.print.copy with cutEnds := none, rested := false, heldMove := none } } := by
    unfold State.withEntry
    dsimp only [State.withPrint]
    rw [queue]
    rfl
  have gone := (State.Reports.one (s := s.withPrint { s.print with
        queue := [{ e with done := e.done + 1 }]
        cutter := false
        hpwr := false
        copy := { s.print.copy with cutEnds := none, rested := false, heldMove := none } }) (e := .copyDone e.page (e.done + 1))
      (room.mono (by decide))).entryGone_last rfl inside record keep retained room
  unfold State.leaveCut
  rw [queue]
  dsimp only
  rw [counted, if_neg (by omega), kept, last]
  exact gone

/-! ### A step event of the Print Unit's move (R111) -/

/-- R111: channel P advanced at a time, at a position. -/
abbrev State.atStepP (s : State) (at_ position : Nat) : State :=
  { s with now := at_, motP := { s.motP.advance s.tables .p at_ with position := position } }

theorem State.steppedP_eq (at_ : Nat) : s.steppedP at_ = s.atStepP at_ ((s.motP.position + 1) % s.motP.steps) :=
  congrArg (fun c : Channel => { s with now := at_, motP := c }) Channel.advance_position

/-- R111: channel P is due a step event of the Print Unit's move, with no stop pending. -/
structure State.PrintStepDue (s : State) (iv : Interval) : Prop where
  moving : s.motP.moving = true
  owner : s.motP.owner = .print
  interval : s.motP.interval = some iv
  going : s.motP.stop ≠ .pending

/-- R111: a step event of the Print Unit's move, with `y` what the Print Unit makes of it. -/
theorem exec_printStep {iv : Interval} {pin : Bool} (due : s.PrintStepDue iv)
    (told : (s.atStepP (max s.now iv.endsAt) ((s.motP.position + 1) % s.motP.steps)).printStep = y) :
    exec (.stepEvent .p pin) s = .next (y.finishStep .p false).settled := by
  obtain ⟨moving, owner, interval, going⟩ := due
  have step := exec_stepEventP (pin := pin) moving interval
  have owned : ((s.atStepP (max s.now iv.endsAt) ((s.motP.position + 1) % s.motP.steps)).mot .p).owner = .print :=
    (s.motP.advance_keeps (m := .p) s.tables (max s.now iv.endsAt)).1.trans owner
  have tells : ∀ z : State, (z.mot .p).owner = .print → z.tellStep .p (!pin) = z.printStep := fun z owned => by
    unfold State.tellStep
    rw [owned]
  rw [State.steppedP_eq, tells _ owned, told, beq_eq_false_iff_ne.mpr going] at step
  exact step

/-- R111: a step event behind which channel P goes on, with events reported. -/
theorem exec_printStep_reports {iv : Interval} {pin : Bool} {d : Channel} {es : List Event} (due : s.PrintStepDue iv)
    (told : x.Reports es (s.atStepP (max s.now iv.endsAt) ((s.motP.position + 1) % s.motP.steps)).printStep)
    (more : x.motP.remaining ≠ some 0) (went : x.motP.goOn x.tables .p x.now = d) (awake : x.power.sleepPending = none) :
    ∃ t, exec (.stepEvent .p pin) s = .next t ∧ t = { x with
      motP := d
      link := x.link.reported es t.link.chosen
      power := x.power.timed t.power } := by
  subst went
  obtain ⟨l, told⟩ := told
  have step := exec_printStep (pin := pin) due told
  rw [State.finishStep_on (m := .p) rfl (by simp) (by exact more)] at step
  exact ⟨_, next_settled step awake, rfl⟩

/-- R111: a step event behind which channel P goes on, with nothing reported. -/
theorem exec_printStep_quiet {iv : Interval} {pin : Bool} {d : Channel} (due : s.PrintStepDue iv)
    (told : (s.atStepP (max s.now iv.endsAt) ((s.motP.position + 1) % s.motP.steps)).printStep = x)
    (more : x.motP.remaining ≠ some 0) (went : x.motP.goOn x.tables .p x.now = d) (awake : x.power.sleepPending = none) :
    ∃ t, exec (.stepEvent .p pin) s = .next t ∧ t = { x with motP := d, power := x.power.timed t.power } := by
  subst went
  have step := exec_printStep (pin := pin) due told
  rw [State.finishStep_on (m := .p) rfl (by simp) more] at step
  exact ⟨_, next_settled step awake, rfl⟩

/-! ### Line boundaries (R74, R78) -/

/-- R74: with PRINT_LEAD steps left the copy goes on in LEAD. -/
theorem State.printStep_leading (lead : s.print.copy.state = .lead) (kept : s.print.copy.abandon = .kept)
    (more : 1 < s.print.copy.leadLeft) :
    s.printStep = s.withCopy { s.print.copy with leadLeft := s.print.copy.leadLeft - 1 } := by
  unfold State.printStep
  dsimp only
  split
  case h_1 => exact (if_neg (not_not.mpr kept)).trans (if_neg (Nat.not_le.mpr more))
  all_goals next other => exact absurd (lead.symm.trans other) (by decide)

/-- R74, R79: a copy at a line boundary, the first of which ends LEAD. -/
abbrev State.onBoundary (s : State) (left : Nat) : State :=
  { s with
    motP := { s.motP with position := 0 }
    print := { s.print with copy := { s.print.copy with state := .printing, leadLeft := left } } }

/-- R111: a step event that brings a copy to a line boundary. -/
abbrev State.boundaryStep (s : State) (at_ : Nat) : State :=
  (s.atStepP at_ ((s.motP.position + 1) % s.motP.steps)).onBoundary
    (if s.print.copy.state = .lead then s.print.copy.leadLeft - 1 else s.print.copy.leadLeft)

/-- R78: the step that brings a copy in PRINTING to position 0. -/
theorem State.printStep_line (kept : s.print.copy.abandon = .kept) (printing : s.print.copy.state = .printing)
    (place : s.motP.position = 0) : s.printStep = s.printBoundary := by
  unfold State.printStep
  dsimp only
  split
  case h_2 => exact (if_neg (not_not.mpr kept)).trans (if_pos (beq_iff_eq.mpr place))
  all_goals next other => exact absurd (printing.symm.trans other) (by decide)

theorem State.printStep_boundary (kept : s.print.copy.abandon = .kept)
    (boundary : (s.print.copy.state = .printing ∧ s.motP.position = 0) ∨
      (s.print.copy.state = .lead ∧ s.print.copy.leadLeft ≤ 1 ∧ s.motP.move = some .open_ ∧ s.motP.stop = .nostop)) :
    s.printStep =
      (s.onBoundary (if s.print.copy.state = .lead then s.print.copy.leadLeft - 1 else s.print.copy.leadLeft)).printBoundary := by
  rcases boundary with ⟨printing, place⟩ | ⟨lead, last, open_, going⟩
  · have same : s.onBoundary s.print.copy.leadLeft = s := by
      unfold State.onBoundary
      rw [← printing, ← place]
    have notLead : ¬s.print.copy.state = .lead := by rw [printing]; decide
    rw [if_neg notLead, same]
    exact State.printStep_line kept printing place
  · have aligned : s.motP.align = { s.motP with position := 0 } := if_pos ⟨open_, going⟩
    rw [if_pos lead]
    unfold State.printStep
    dsimp only
    split
    case h_1 =>
      refine (if_neg (not_not.mpr kept)).trans ((if_pos last).trans ?_)
      exact congrArg (fun c : Channel => State.printBoundary { s.onBoundary (s.print.copy.leadLeft - 1) with motP := c }) aligned
    all_goals next other => exact absurd (lead.symm.trans other) (by decide)

/-- R79: the strobe record of the line in SHIFT. -/
abbrev State.made (s : State) : StrobeRec :=
  strobeRecord s.tables (s.mon.channel 0) (s.mon.channel 1) s.print.copy.steps s.print.copy.shift.line s.print.copy.shift.printing
    s.print.copy.shift.counts

/-- R79, R100: the line in SHIFT latched with its record, and the copy's record besides. -/
abbrev PrintUnit.fired (u : PrintUnit) (now : Nat) (r : StrobeRec) (k : CopyRec) : PrintUnit :=
  { u with
    strobe := some r
    headDots := u.copy.shift.dots
    seq := if r.phases = [] then .idle else .pulse
    seqPhase := 0
    seqEnds := if r.phases = [] then none else some (now + 20 * r.width)
    copy := { k with lastLatched := some (u.copy.shift.line, u.copy.shift.printing), printed := u.copy.printed + 1 } }

/-- R79, R98: the line in SHIFT latched, with its floor handed to channel P. -/
abbrev State.latched (s : State) (k : CopyRec) : State :=
  { s with motP := { s.motP with floor := s.made.floor }, print := s.print.fired s.now s.made k }

/-- R78: the line in SHIFT shifted once more. -/
abbrev State.shiftAgain (s : State) : ShiftBuf :=
  { s.print.copy.shift with
    status := .shifting
    printing := s.print.copy.shift.printing + 1
    doneAt := some (s.now + 20 * (s.tables.p Param.headWidth / 4)) }

/-- R78: the line in FETCH shifted. -/
abbrev State.shiftNext (s : State) : ShiftBuf where
  status := .shifting
  line := s.print.copy.fetch.line
  printing := 1
  counts := s.print.copy.fetch.counts
  dots := s.print.copy.fetch.dots
  doneAt := some (s.now + 20 * (s.tables.p Param.headWidth / 4))

theorem State.latch_again (more : s.print.copy.shift.printing < s.print.copy.repeats) :
    s.latch = s.latched { s.print.copy with shift := s.shiftAgain } := by
  unfold State.latch
  dsimp only
  exact if_pos more

/-- R76: with the page's lines exhausted no fetch is asked for. -/
theorem State.askFetch_exhausted (exhausted : s.print.copy.exhausted = true) : s.askFetch = s := by
  unfold State.askFetch
  dsimp only
  rw [if_neg (by simp [exhausted])]

/-- R79: behind the last printing of a KEEP page's line SHIFT is empty, and takes a line fetched. -/
theorem State.latch_keep (last : s.print.copy.shift.printing = s.print.copy.repeats) (keep : s.printPage.mode = some .keep) :
    s.latch = if s.print.copy.fetch.status = .full then (s.latched { s.print.copy with shift := ShiftBuf.none }).shiftTakes
      else (s.latched { s.print.copy with shift := ShiftBuf.none }).askFetch := by
  unfold State.latch
  dsimp only
  rw [if_neg (by omega), keep]
  rfl

theorem State.latch_next (last : s.print.copy.shift.printing = s.print.copy.repeats) (keep : s.printPage.mode = some .keep)
    (full : s.print.copy.fetch.status = .full) (exhausted : s.print.copy.exhausted = true) :
    s.latch = s.latched { s.print.copy with shift := s.shiftNext, fetch := FetchBuf.none } := by
  rw [State.latch_keep last keep, if_pos full]
  exact State.askFetch_exhausted exhausted

/-- R79: behind the last printing of a KEEP page's last line nothing is shifted. -/
theorem State.latch_last (last : s.print.copy.shift.printing = s.print.copy.repeats) (keep : s.printPage.mode = some .keep)
    (empty : s.print.copy.fetch.status = .empty) (exhausted : s.print.copy.exhausted = true) :
    s.latch = s.latched { s.print.copy with shift := ShiftBuf.none } := by
  rw [State.latch_keep last keep, if_neg (by rw [empty]; decide)]
  exact State.askFetch_exhausted exhausted

/-! ### The tests at a line boundary (R80, R81, R83) -/

/-- R80, R81: whether a stop is asked for at a cruise index: the copy's page starves it, or the head is hot. -/
abbrev State.asksStop (s : State) (e : PrintEntry) (cruise : Nat) : Prop :=
  ((s.page e.page).state = .opened ∧ (s.page e.page).committed <
    e.cursor + ((cruise + s.print.copy.steps - 1 + s.print.copy.steps - 1) / s.print.copy.steps + 1 + s.print.copy.repeats - 1) /
      s.print.copy.repeats) ∨ (s.mon.channel 0).band = some .high

theorem State.printCursor_eq {e : PrintEntry} {es : List PrintEntry} (queue : s.print.queue = e :: es) : s.printCursor = e.cursor := by
  unfold State.printCursor
  rw [queue]
  rfl

/-- R80: the stop level while channel P runs the copy's move. -/
theorem State.asksStop_iff {e : PrintEntry} {es : List PrintEntry} (queue : s.print.queue = e :: es) (moving : s.motP.moving = true)
    (owner : s.motP.owner = .print) : s.asksStop e s.motP.cruise ↔
      (s.printPage.state = .opened ∧ s.printPage.committed < s.printCursor + s.copyStopLevel) ∨ s.headHot = true := by
  have cruise : s.copyCruise = s.motP.cruise := if_pos ⟨moving, owner⟩
  unfold State.copyStopLevel State.headHot
  rw [cruise, State.printPage_eq queue, State.printCursor_eq queue, beq_iff_eq]
  rfl

/-- R80, R81: a stop is asked for where the copy's page starves it or its head is hot. -/
theorem State.boundaryTests_stops {e : PrintEntry} {es : List PrintEntry} {n : Nat} (queue : s.print.queue = e :: es)
    (printing : s.print.copy.state = .printing) (on : s.print.copy.stopping = false) (moving : s.motP.moving = true)
    (owner : s.motP.owner = .print) (held : s.motP.held = none) (going : s.motP.stop = .nostop) (cruise : s.motP.cruise = n) :
    s.boundaryTests = { s with
      motP := { s.motP with stop := if s.asksStop e n then .pending else .nostop }
      print := { s.print with copy := { s.print.copy with stopping := decide (s.asksStop e n) } } } := by
  subst cruise
  have asks := State.asksStop_iff queue moving owner
  unfold State.boundaryTests
  dsimp only
  by_cases stop : s.asksStop e s.motP.cruise
  · have asked := Channel.askStop_moving moving owner held
    rw [going, if_pos rfl] at asked
    rw [if_pos ⟨printing, on, asks.mp stop⟩, if_pos stop, decide_eq_true stop]
    exact congrArg (fun c : Channel × Bool => { s.withCopy { s.print.copy with stopping := true } with motP := c.1 }) asked
  · rw [if_neg (fun h => stop (asks.mpr h.2.2)), if_neg stop, decide_eq_false stop, ← going, ← on]

theorem State.boundaryTests_stopping (stopping : s.print.copy.stopping = true) : s.boundaryTests = s := by
  unfold State.boundaryTests
  dsimp only
  rw [if_neg (by simp [stopping])]

theorem State.endsPrinting_iff {e : PrintEntry} {es : List PrintEntry} {line printing : Nat} (queue : s.print.queue = e :: es) :
    s.endsPrinting line printing = true ↔ (s.page e.page).state = .closed ∧ printing = s.print.copy.repeats ∧
      line + 1 = (s.page e.page).committed := by
  unfold State.endsPrinting
  rw [State.printPage_eq queue]
  simp [and_assoc]

/-- R79 to R81: a line latched at a boundary that does not end the copy's printing. -/
theorem State.printBoundary_latches {e : PrintEntry} {es : List PrintEntry} {n : Nat} {k : CopyRec} (queue : s.print.queue = e :: es)
    (complete : s.print.copy.shift.status = .complete) (latches : s.latch = s.latched k) (printing : k.state = .printing)
    (on : k.stopping = false) (goes : ¬((s.page e.page).state = .closed ∧ s.print.copy.shift.printing = k.repeats ∧
      s.print.copy.shift.line + 1 = (s.page e.page).committed)) (moving : s.motP.moving = true)
    (owner : s.motP.owner = .print) (held : s.motP.held = none) (going : s.motP.stop = .nostop) (cruise : s.motP.cruise = n) :
    s.printBoundary = { s with
      motP := { s.motP with floor := s.made.floor, stop := if (s.latched k).asksStop e n then .pending else .nostop }
      print := s.print.fired s.now s.made { k with stopping := decide ((s.latched k).asksStop e n) } } := by
  have tests := State.boundaryTests_stops (s := s.latched k) queue printing on moving owner held going cruise
  unfold State.printBoundary
  dsimp only
  rw [if_pos complete, latches, if_neg (fun h => goes ((State.endsPrinting_iff (s := s.latched k) queue).mp h))]
  exact tests

/-- R80, R117: a line latched at the boundary at which a stop already asked for ends. -/
theorem State.printBoundary_stopping {e : PrintEntry} {es : List PrintEntry} {k : CopyRec} (queue : s.print.queue = e :: es)
    (complete : s.print.copy.shift.status = .complete) (latches : s.latch = s.latched k) (stopping : k.stopping = true)
    (goes : ¬((s.page e.page).state = .closed ∧ s.print.copy.shift.printing = k.repeats ∧
      s.print.copy.shift.line + 1 = (s.page e.page).committed)) : s.printBoundary = s.latched k := by
  unfold State.printBoundary
  dsimp only
  rw [if_pos complete, latches, if_neg (fun h => goes ((State.endsPrinting_iff (s := s.latched k) queue).mp h))]
  exact State.boundaryTests_stopping (s := s.latched k) stopping

/-- R78: a boundary with no line ready. -/
theorem State.printBoundary_underrun {e : PrintEntry} {es : List PrintEntry} {n : Nat} (queue : s.print.queue = e :: es)
    (late : s.print.copy.shift.status ≠ .complete) (coming : (s.page e.page).state = .opened ∨ s.print.copy.exhausted = false)
    (printing : s.print.copy.state = .printing) (on : s.print.copy.stopping = false) (moving : s.motP.moving = true)
    (owner : s.motP.owner = .print) (held : s.motP.held = none) (going : s.motP.stop = .nostop) (cruise : s.motP.cruise = n)
    (room : s.link.room 1) : State.Reports { s with
      motP := { s.motP with floor := s.copyShiftFloor, stop := if s.asksStop e n then .pending else .nostop }
      print := { s.print with copy := { s.print.copy with stopping := decide (s.asksStop e n) } } }
      [.printUnderrun e.page s.print.copy.printed] s.printBoundary := by
  obtain ⟨l, told⟩ := State.Reports.one (s := s.withMotP { s.motP with floor := s.copyShiftFloor })
    (e := .printUnderrun e.page s.print.copy.printed) room
  have waits : (s.withMotP { s.motP with floor := s.copyShiftFloor }).allLatched = false := by
    unfold State.allLatched
    dsimp only
    rw [State.printPage_eq (by exact queue)]
    rcases coming with opened | more
    · rw [show (State.page (s.withMotP { s.motP with floor := s.copyShiftFloor }) e.page).state = .opened from opened]
      rfl
    · rw [show (s.withMotP { s.motP with floor := s.copyShiftFloor }).print.copy.exhausted = false from more]
      simp
  have tests := State.boundaryTests_stops (s := { s with
      motP := { s.motP with floor := s.copyShiftFloor }
      link := s.link.reported [.printUnderrun e.page s.print.copy.printed] l }) queue printing on moving owner held going cruise
  refine ⟨l, ?_⟩
  unfold State.printBoundary
  dsimp only [State.withMot]
  rw [if_neg late, waits, if_neg Bool.false_ne_true, State.printPageNo_eq (by exact queue), told]
  exact tests

theorem CopyRec.trailing_calm {k : CopyRec} (on : k.stopping = false) (kept : k.abandon = .kept) :
    k.trailing = { k with state := .trail, pause := none, rested := false, heldMove := none } := by
  unfold CopyRec.trailing
  rw [← on, ← kept]

/-- R83: behind the last printing of the page's last line the copy enters TRAIL. -/
theorem State.printBoundary_trails {e : PrintEntry} {es : List PrintEntry} {k : CopyRec} {i trail : Nat}
    (queue : s.print.queue = e :: es)
    (complete : s.print.copy.shift.status = .complete) (latches : s.latch = s.latched k) (closed : (s.page e.page).state = .closed)
    (last : s.print.copy.shift.printing = k.repeats) (lines : s.print.copy.shift.line + 1 = (s.page e.page).committed)
    (steps : 0 < k.steps) (index : s.motP.index = i) (distance : roundUp (max (s.tables.p Param.printTrail) i) k.steps = trail) :
    s.printBoundary = { s with
      motP := { s.motP with
        floor := s.made.floor
        move := some .counted
        stop := .nostop
        remaining := some trail }
      print := s.print.fired s.now s.made k.trailing } := by
  subst index
  have covers : s.motP.index ≤ trail := by
    rw [← distance]
    exact Nat.le_trans (Nat.le_max_right ..) (le_roundUp steps)
  have counts := Channel.countTo_covering (c := { s.motP with floor := s.made.floor }) covers
  unfold State.printBoundary
  dsimp only
  rw [if_pos complete, latches, if_pos ((State.endsPrinting_iff (s := s.latched k) queue).mpr ⟨closed, last, lines⟩)]
  rw [← distance] at counts ⊢
  exact congrArg (fun c : Channel => ({ s with motP := c, print := s.print.fired s.now s.made k.trailing } : State)) counts

/-! ### Channel P at a step event with a floor of its line (R98, R113) -/

theorem Channel.drive_withFloor {t : Tables} {now f : Nat} {pattern : BitVec 4} :
    ({ c with floor := f } : Channel).drive t m now pattern = { c.drive t m now pattern with floor := f } := by
  unfold Channel.drive
  dsimp only
  split <;> rfl

theorem Channel.advance_withFloor {t : Tables} {now f : Nat} :
    ({ c with floor := f } : Channel).advance t m now = { c.advance t m now with floor := f } :=
  congrArg (fun d : Channel => { d with position := (d.position + 1) % d.steps, remaining := d.remaining.map (· - 1) })
    (Channel.drive_withFloor (c := { c with phase := c.nextPhase }) (pattern := t.phase m c.nextPhase))

/-- R113: a channel behind its advance, at a position and with a floor, with the index and the state it goes on with. -/
abbrev Channel.paced (c : Channel) (t : Tables) (m : Motor) (now position floor index : Nat) (state : ChanState) : Channel :=
  { c.advance t m now with
    position := position
    floor := floor
    index := index
    state := state
    interval := some { length := max (t.rampAt m index) floor, endsAt := now + 20 * max (t.rampAt m index) floor } }

/-- R113: an OPEN move goes on with a floor. -/
theorem Channel.goOn_paced {t : Tables} {now position floor : Nat} (open_ : c.remaining = none) :
    ({ c.advance t m now with position := position, floor := floor } : Channel).goOn t m now =
      if c.index < c.cruise then c.paced t m now position floor (c.index + 1) .accel else c.paced t m now position floor c.index .run := by
  have went := Channel.goOn_ranOn (c := { c with floor := floor }) (t := t) (m := m) (now := now) (position := position) open_
  unfold Channel.ranOn Channel.onward at went
  rw [Channel.advance_withFloor] at went
  exact went

/-- R113, R116: a move that has become a counted one goes on with a floor. -/
theorem Channel.goOn_pacedCount {t : Tables} {now position floor n : Nat} (going : c.stop = .nostop) :
    ({ c.advance t m now with
        position := position
        floor := floor
        move := some .counted
        stop := .nostop
        remaining := some n } : Channel).goOn t m now =
      { (if n ≤ c.index then c.paced t m now position floor (c.index - 1) .decel
        else if c.index + 2 ≤ n ∧ c.index < c.cruise then c.paced t m now position floor (c.index + 1) .accel
        else c.paced t m now position floor c.index .run) with
        move := some .counted
        remaining := some n } := by
  have went := Channel.goOn_ejectOn (c := { c with floor := floor }) (t := t) (m := m) (now := now) (position := position)
    (n := n) going
  unfold Channel.ejectOn Channel.onward at went
  rw [Channel.advance_withFloor] at went
  exact went

/-! ### The rest of a heat stop (R81, R82, R118) -/

/-- R82: a copy PAUSED for a hot head stays so while the head is hot. -/
theorem State.pausedTest_hot (paused : s.print.copy.state = .paused) (kept : s.print.copy.abandon = .kept)
    (shut : s.active Input.coverOpen = false) (hot : (s.mon.channel 0).band = some .high) (why : s.print.copy.pause = some .heat) :
    s.pausedTest = s := by
  have headHot : s.headHot = true := beq_iff_eq.mpr hot
  unfold State.pausedTest
  dsimp only
  rw [if_neg (by simp [paused, kept, shut]), if_neg (by simp [headHot])]
  unfold State.pauseReason
  dsimp only
  rw [if_neg (by simp [headHot]), if_neg (by simp [why])]

/-- R81, R118: a copy that has stopped for a hot head is PAUSED, and stays so while the head is hot. -/
theorem State.printRest_hot {e : PrintEntry} {es : List PrintEntry} (queue : s.print.queue = e :: es)
    (kept : s.print.copy.abandon = .kept) (printing : s.print.copy.state = .printing) (stopping : s.print.copy.stopping = true)
    (hot : (s.mon.channel 0).band = some .high) (shut : s.active Input.coverOpen = false) (room : s.link.room 1) :
    State.Reports (s.withCopy { s.print.copy with state := .paused, pause := some .heat, stopping := false })
      [.printPaused e.page .heat] s.printRest := by
  have headHot : s.headHot = true := beq_iff_eq.mpr hot
  have pauses : s.printRest = s.pauseAtRest := by
    unfold State.printRest
    dsimp only
    rw [kept, printing, if_neg (by decide), if_pos ⟨rfl, stopping⟩]
  obtain ⟨l, told⟩ := State.Reports.one (s := s.withCopy { s.print.copy with state := .paused, pause := some .heat, stopping := false })
    (e := .printPaused e.page .heat) room
  refine ⟨l, ?_⟩
  rw [pauses]
  unfold State.pauseAtRest
  dsimp only
  rw [if_pos headHot, State.printPageNo_eq (by exact queue), told]
  exact State.pausedTest_hot rfl kept shut hot rfl

/-- Settles O51: the head by its four reports, and each step event of a copy by what the Print Unit makes of it. -/
theorem strobeAndCut : Obligations.StrobeAndCut := by
  unfold Obligations.StrobeAndCut
  refine ⟨?_, ?_⟩
  case refine_1 =>
    intro d s awake
    refine ⟨?_, ?_, ?_, ?_, ?_⟩
    · intro shifting due
      exact exec_shiftComplete shifting due
    · intro r pulse due strobe recovery
      have step := exec_strobePulseEnd pulse due
      rw [State.pulseOver_recovers (s := s.at d) strobe recovery] at step
      exact ⟨_, next_settled step awake, rfl⟩
    · intro r recover due strobe more
      have step := exec_strobeRecoveryEnd recover due
      rw [State.nextPhase_fires (s := s.at d) strobe more] at step
      exact ⟨_, next_settled step awake, rfl⟩
    · intro r recover due strobe last move rested
      have step := exec_strobeRecoveryEnd recover due
      rw [State.nextPhase_idles (s := s.at d) strobe last move rested] at step
      exact ⟨_, next_settled step awake, rfl⟩
    · intro e cut due queue kept last inside keep retained room
      exact next_reports (exec_cutTimeEnd cut due)
        (State.leaveCut_last (s := s.at d) queue kept last inside rfl keep retained room) awake
  case refine_2 =>
    intro iv pin e es s queue awake moving owner interval held kept c r at_ quarter made hot stopLines stops boundary begun onward running
      fired again
    have moves : (s.motP.advance s.tables .p at_).moving = true := Channel.advance_moving.trans moving
    obtain ⟨owned, unheld, unstopped, move, index, cruise, floor⟩ := s.motP.advance_keeps (m := .p) s.tables at_
    have began : boundary → begun =
        { c with state := .printing, leadLeft := if c.state = .lead then c.leadLeft - 1 else c.leadLeft } := by
      rintro (⟨printing, _⟩ | ⟨lead, _⟩)
      · have notLead : ¬c.state = .lead := by rw [printing]; decide
        refine (if_neg notLead).trans ?_
        rw [if_neg notLead, ← printing]
      · refine (if_pos lead).trans ?_
        rw [if_pos lead]
    refine ⟨fun open_ endless going on => ?_, ?_⟩
    · have due : s.PrintStepDue iv := ⟨moving, owner, interval, by rw [going]; decide⟩
      have more : (s.motP.advance s.tables .p at_).remaining ≠ some 0 := Channel.advance_remaining_open endless
      have went : ∀ q f, ({ s.motP.advance s.tables .p at_ with position := q, floor := f } : Channel).goOn s.tables .p at_ = running q f :=
        fun q f => Channel.goOn_paced endless
      have reached : boundary →
          (s.atStepP at_ ((s.motP.position + 1) % s.motP.steps)).printStep = (s.boundaryStep at_).printBoundary := by
        intro here
        refine State.printStep_boundary (s := s.atStepP at_ ((s.motP.position + 1) % s.motP.steps)) kept ?_
        exact here.imp id fun ⟨lead, last⟩ => ⟨lead, last, move.trans open_, unstopped.trans going⟩
      have slowed : ∀ f, ({ s.motP.advance s.tables .p at_ with
          position := 0, floor := f, stop := if stops then .pending else .nostop } : Channel).goOn s.tables .p at_ =
            { running 0 f with stop := if stops then .pending else .nostop } :=
        fun f => Channel.goOn_stop.trans
          (congrArg (fun d : Channel => { d with stop := if stops then .pending else .nostop }) (went 0 f))
      refine ⟨?lead, ?again, ?next, ?underrun, ?trail⟩
      case lead =>
        intro lead steps
        exact exec_printStep_quiet due
          (State.printStep_leading (s := s.atStepP at_ ((s.motP.position + 1) % s.motP.steps)) lead kept steps) more
          ((congrArg (fun f => Channel.goOn s.tables .p at_ { s.motP.advance s.tables .p at_ with
            position := (s.motP.position + 1) % s.motP.steps, floor := f }) floor).trans (went _ _)) awake
      case again =>
        intro here complete printings
        rw [began here]
        have goes : ¬((s.page e.page).state = .closed ∧ c.shift.printing = c.repeats ∧ c.shift.line + 1 = (s.page e.page).committed) :=
          fun ⟨_, last, _⟩ => absurd last (Nat.ne_of_lt printings)
        have latched := State.printBoundary_latches (s := s.boundaryStep at_) queue complete
          (State.latch_again (by exact printings)) rfl
          on goes moves (owned.trans owner) (unheld.trans held) (unstopped.trans going) cruise
        exact exec_printStep_quiet due ((reached here).trans latched) more (slowed _) awake
      case next =>
        intro here complete last full exhausted keep lines
        rw [began here]
        have record : (s.boundaryStep at_).printPage = r := State.printPage_eq queue
        have goes : ¬((s.page e.page).state = .closed ∧ c.shift.printing = c.repeats ∧ c.shift.line + 1 = (s.page e.page).committed) :=
          fun ⟨_, _, same⟩ => lines same
        have latched := State.printBoundary_latches (s := s.boundaryStep at_) queue complete
          (State.latch_next (by exact last) (by rw [record]; exact keep) full exhausted) rfl
          on goes moves (owned.trans owner) (unheld.trans held) (unstopped.trans going) cruise
        exact exec_printStep_quiet due ((reached here).trans latched) more (slowed _) awake
      case underrun =>
        intro here late coming room
        rw [began here]
        have under := State.printBoundary_underrun (s := s.boundaryStep at_) queue late coming rfl on moves (owned.trans owner)
          (unheld.trans held) (unstopped.trans going) cruise room
        rw [← reached here] at under
        exact exec_printStep_reports due under more (slowed _) awake
      case trail =>
        intro here complete last empty exhausted keep closed lines trailing steps trail slowing
        rw [began here]
        have record : (s.boundaryStep at_).printPage = r := State.printPage_eq queue
        have trails := State.printBoundary_trails (s := s.boundaryStep at_) (trail := trail) queue complete
          (State.latch_last (by exact last) (by rw [record]; exact keep) empty exhausted) closed last lines steps index rfl
        have further : (some trail : Option Nat) ≠ some 0 := by
          have covers : max (s.tables.p Param.printTrail) s.motP.index ≤ trail := le_roundUp steps
          intro h
          injection h
          omega
        rw [CopyRec.trailing_calm (by exact on) (by exact kept)] at trails
        exact exec_printStep_quiet due ((reached here).trans trails) further (Channel.goOn_pacedCount going) awake
    · intro taken last printing place stopping complete printings hot shut holds room
      have told : (s.atStepP at_ ((s.motP.position + 1) % s.motP.steps)).printStep =
          (s.atStepP at_ 0).latched { c with shift := again } := by
        rw [place]
        exact (State.printStep_line (s := s.atStepP at_ 0) kept printing rfl).trans
          (State.printBoundary_stopping (s := s.atStepP at_ 0) queue complete (State.latch_again (by exact printings)) stopping
            fun ⟨_, same, _⟩ => absurd same (Nat.ne_of_lt printings))
      have step := exec_printStep (pin := pin) ⟨moving, owner, interval, by rw [taken]; decide⟩ told
      have rests : (s.motP.advance s.tables .p at_).remaining = some 0 := by
        rw [Channel.advance_eq, last]
        rfl
      have tells : ∀ x : State, x.motP.owner = .print → x.tellRest .p = x.printRest := fun x owned => by
        unfold State.tellRest
        dsimp only [State.mot]
        rw [owned]
      have paused := State.printRest_hot (s := { (s.atStepP at_ 0).latched { c with shift := again } with
        motP := ((s.atStepP at_ 0).latched { c with shift := again }).motP.rest }) queue kept printing stopping hot shut room
      rw [← tells _ (owned.trans owner)] at paused
      rw [State.finishStep_rest (m := .p) rfl (by simp) (by exact rests)] at step
      exact next_reports step (State.Reports.afterRest (m := .p) paused rfl (unheld.trans held) holds) awake

end

end Sys2Proof.Machine
